-- ==== Sys2Proof/Word.lean ====
section
/-! DEFINITION. The plain data the model is built from: bytes, fixed-size tables, and one value per lane or per link. -/

namespace Sys2Proof

/-- A byte on a link. -/
abbrev Byte := BitVec 8

/-- `n` cells, numbered from 0: the tables of the part with a fixed number of places. -/
structure Table (α : Type) (n : Nat) where
  cells : List α
  size : cells.length = n
deriving DecidableEq, Repr

/-- Every cell holds `x`. -/
def Table.fill {α : Type} (n : Nat) (x : α) : Table α n := ⟨List.replicate n x, List.length_replicate⟩

/-- The contents of cell `i`. -/
def Table.get {α : Type} {n : Nat} (t : Table α n) (i : Fin n) : α :=
  t.cells[i.val]'(Nat.lt_of_lt_of_eq i.isLt t.size.symm)

/-- Cell `i` replaced. -/
def Table.set {α : Type} {n : Nat} (t : Table α n) (i : Fin n) (x : α) : Table α n :=
  ⟨t.cells.set i.val x, (List.length_set).trans t.size⟩

/-- Cell `i` changed by `f`. -/
def Table.modify {α : Type} {n : Nat} (t : Table α n) (i : Fin n) (f : α → α) : Table α n :=
  t.set i (f (t.get i))

/-- Every cell changed by `f`. -/
def Table.map {α β : Type} {n : Nat} (f : α → β) (t : Table α n) : Table β n :=
  ⟨t.cells.map f, (List.length_map f).trans t.size⟩

/-- The three lanes (00 CONVENTIONS: lanes are numbered 0, 1, 2). -/
inductive Lane where
  | l0 | l1 | l2
deriving DecidableEq, Repr

/-- The five links (R187): one per lane, the kiosk's K and the office's F. -/
inductive Link where
  | lane (n : Lane)
  | k
  | f
deriving DecidableEq, Repr

/-- The lane's number. -/
def Lane.num : Lane → Nat
  | .l0 => 0
  | .l1 => 1
  | .l2 => 2

/-- All lanes, in number order. -/
def Lane.all : List Lane := [.l0, .l1, .l2]

/-- One value per lane. -/
structure PerLane (α : Type) where
  l0 : α
  l1 : α
  l2 : α
deriving DecidableEq, Repr

/-- The lane's value. -/
def PerLane.get {α : Type} (p : PerLane α) : Lane → α
  | .l0 => p.l0
  | .l1 => p.l1
  | .l2 => p.l2

/-- The lane's value changed by `f`. -/
def PerLane.modify {α : Type} (p : PerLane α) (n : Lane) (f : α → α) : PerLane α :=
  match n with
  | .l0 => { p with l0 := f p.l0 }
  | .l1 => { p with l1 := f p.l1 }
  | .l2 => { p with l2 := f p.l2 }

/-- Every lane's value changed by `f`. -/
def PerLane.map {α β : Type} (f : α → β) (p : PerLane α) : PerLane β := ⟨f p.l0, f p.l1, f p.l2⟩

/-- The same value for every lane. -/
def PerLane.fill {α : Type} (x : α) : PerLane α := ⟨x, x, x⟩

/-- One value per link. -/
structure PerLink (α : Type) where
  lane : PerLane α
  k : α
  f : α
deriving DecidableEq, Repr

/-- The link's value. -/
def PerLink.get {α : Type} (p : PerLink α) : Link → α
  | .lane n => p.lane.get n
  | .k => p.k
  | .f => p.f

/-- The link's value changed by `g`. -/
def PerLink.modify {α : Type} (p : PerLink α) (l : Link) (g : α → α) : PerLink α :=
  match l with
  | .lane n => { p with lane := p.lane.modify n g }
  | .k => { p with k := g p.k }
  | .f => { p with f := g p.f }

/-- Every link's value changed by `g`. -/
def PerLink.map {α β : Type} (g : α → β) (p : PerLink α) : PerLink β := ⟨p.lane.map g, g p.k, g p.f⟩

/-- The same value for every link. -/
def PerLink.fill {α : Type} (x : α) : PerLink α := ⟨PerLane.fill x, x, x⟩

/-- A set of lanes (R6). -/
abbrev LaneSet := PerLane Bool

/-- No lane. -/
def LaneSet.empty : LaneSet := ⟨false, false, false⟩

/-- Whether the lane is a member. -/
def LaneSet.mem (s : LaneSet) (n : Lane) : Bool := PerLane.get s n

/-- The lane joined. -/
def LaneSet.add (s : LaneSet) (n : Lane) : LaneSet := PerLane.modify s n (fun _ => true)

/-- The lane removed. -/
def LaneSet.drop (s : LaneSet) (n : Lane) : LaneSet := PerLane.modify s n (fun _ => false)

/-- The members, in number order. -/
def LaneSet.members (s : LaneSet) : List Lane := Lane.all.filter (LaneSet.mem s)

/-- How many lanes are members. -/
def LaneSet.card (s : LaneSet) : Nat := s.l0.toNat + s.l1.toNat + s.l2.toNat

/-- A set of counting modes (R53). -/
structure ModeSet where
  serial : Bool
  cls : Bool
  tally : Bool
deriving DecidableEq, Repr

/-- The modes in both sets. -/
def ModeSet.inter (a b : ModeSet) : ModeSet := ⟨a.serial && b.serial, a.cls && b.cls, a.tally && b.tally⟩

/-- Whether the set has no member. -/
def ModeSet.isEmpty (a : ModeSet) : Bool := !a.serial && !a.cls && !a.tally

/-- The set's coding (R215): bit 0 SERIAL, bit 1 CLASS, bit 2 TALLY. -/
def ModeSet.code (a : ModeSet) : Nat := a.serial.toNat + 2 * a.cls.toNat + 4 * a.tally.toNat

/-- The set that the low three bits of a number code. -/
def ModeSet.ofCode (n : Nat) : ModeSet := ⟨n.testBit 0, n.testBit 1, n.testBit 2⟩

end Sys2Proof
end

