-- ==== Sys2Proof/Syntax.lean ====
section
/-! DEFINITION. The commands: one constructor of `Instr` for each row of spec/opcode_table.json, with the row's operands.
A request's operands are its TAG and its payload fields as the frame codes them (R214 to R216), so a code outside its range can be
sent and is refused by the meaning. A request whose rule reads the supervisor key carries the level of the key input at the moment
it is taken (log 7). -/

namespace Sys2Proof

/-- The fields of an ITEM frame (13.4). `cls` is absent for the code 0xFF; `owner` 0 and `serial` 0 are absent. -/
structure Item where
  sequence : Nat
  cls : Option Nat
  grade : Nat
  quantity : Nat
  owner : Nat
  serial : Nat
  weak : Bool
deriving DecidableEq, Repr

/-- The class entry of a BANK_WRITE as its payload carries it (R131, R216). -/
structure RawClassEntry where
  opened : Nat
  deposit : Nat
  worn : Nat
  pool : Nat
  serialRequired : Nat
  tallyLimit : Nat
deriving DecidableEq, Repr

/-- The rule of a WATCH_WRITE as its payload carries it (R100, R216). -/
structure RawRule where
  enabled : Nat
  field : Nat
  value : Nat
  exponent : Nat
  action : Nat
  oneShot : Nat
  chain : Nat
  supervisor : Nat
deriving DecidableEq, Repr

/-- Why a port discards the frame it assembles without waiting for its gap timer (R188). -/
inductive BadFrame where
  /-- LEN outside 2..118. -/
  | length (len : Byte)
  /-- The received CHECK differs from the computed one. -/
  | check
deriving DecidableEq, Repr

/-- The commands, one constructor per row of spec/opcode_table.json. -/
inductive Instr where
  -- lane frames
  | offer (n : Lane) (tag : Nat) (ability : ModeSet) (version : Nat) (ack : Bool)
  | item (n : Lane) (it : Item)
  | bind (n : Lane) (tag ticket : Nat)
  | unbind (n : Lane) (tag : Nat)
  | keepalive (l : Link) (tag : Nat)
  -- tickets; `cash` is absent in a kiosk OPEN and the cash_allowed byte in an office OPEN (R3)
  | openTicket (tag account : Nat) (cash : Option Nat)
  | quote (tag ticket : Nat)
  | close (tag ticket : Nat)
  | adjust (tag ticket cls grade ownership : Nat) (delta : Int)
  | confirmCount (tag ticket : Nat)
  | void (tag ticket : Nat)
  | voidWalk
  | settleToAccount (tag ticket : Nat)
  | settleWalk
  | collect (tag ticket : Nat)
  | ticketRead (tag ticket : Nat)
  -- settlement
  | pay (tag ticket : Nat)
  | dispensed (tag ticket amount : Nat)
  | payTimeout
  | resolve (key : Bool) (tag ticket amount : Nat)
  | tillLoad (key : Bool) (tag amount : Nat)
  | tillCount (key : Bool) (tag balance : Nat)
  -- holds
  | release (tag hold verdict amended : Nat)
  | releaseOperation
  | holdRead (tag selector number : Nat)
  -- tariff
  | bankWrite (tag cls : Nat) (entry : RawClassEntry)
  | feeWrite (tag fee : Nat)
  | bankRead (tag bank cls : Nat)
  | changeoverArm (tag time : Nat)
  | changeoverDisarm (tag : Nat)
  -- watch entries
  | watchWrite (key : Bool) (tag entry : Nat) (rule : RawRule)
  | watchRead (tag entry : Nat)
  | captureRead (key : Bool) (tag entry : Nat)
  -- keg register
  | issue (tag : Nat) (serials : List Nat)
  | issueOperation
  | registerQuery (tag serial : Nat)
  | registerQueryOperation
  | clearGuard (key : Bool) (tag : Nat)
  | clearGuardOperation
  -- clock
  | setClock (tag minute second : Nat)
  | rebase
  | clockRead (tag : Nat)
  -- settings
  | settingsWrite (tag identifier index value : Nat)
  | settingsRead (tag : Nat)
  | saveSettings (tag : Nat)
  | saveComplete (same : Bool)
  -- links and attention
  | linkStatus (tag : Nat)
  | restartLane (tag lane : Nat)
  | attentionRead (tag : Nat)
  | resetUnit (tag : Nat)
  | reject (l : Link) (kind tag : Nat)
  | frameOverflow (l : Link)
  | frameDiscard (l : Link) (why : BadFrame)
  | gapTimerExpiry (l : Link)
  | frameSent (l : Link)
  -- verdict logic and lane events
  | takeInHand (n : Lane)
  | verdictOperation
  | laneSilenceExpiry (n : Lane)
  | breakIntervalEnd (n : Lane)
  | muteRelease (n : Lane)
  | burstWindowRestart
  | linkSilenceExpiry (l : Link)
  | gateInputChange (n : Lane) (broken : Bool)
  | gateEdge (n : Lane)
  -- yard clock boundaries and the operations they raise
  | minuteBoundary
  | holdExpiryOperation
  | sweep
  -- supply and start
  | powerOnReset
  | endOfStartUp
  | resetInput
  | resetInputRelease
  | supplyLoss
  | batteryFall
  | byteReceived (l : Link) (key : Bool) (b : Byte)
  | clockSecond
  | batteryLevelChange (low : Bool)
deriving DecidableEq, Repr

end Sys2Proof
end

