-- ==== Sys2Proof/WellFormed.lean ====
section
/-! DEFINITION. Well-formed commands: every operand fits the field its frame gives it (R215, R216), and an event names a link that has it.
A well-formed operand may still be out of its range: the meaning then refuses the request as its rule says. -/

namespace Sys2Proof

/-- A number of `w` bytes. -/
def fits (w n : Nat) : Bool := n < 256 ^ w

/-- The fields of an ITEM frame fit their bytes; an absent class is coded 0xFF, so a present one is not 0xFF. -/
def Item.wf (it : Item) : Bool :=
  fits 2 it.sequence && (match it.cls with | none => true | some c => c < 255) && fits 1 it.grade && fits 1 it.quantity
    && fits 1 it.owner && fits 4 it.serial

/-- The fields of a BANK_WRITE entry fit their bytes. -/
def RawClassEntry.wf (e : RawClassEntry) : Bool :=
  fits 1 e.opened && fits 2 e.deposit && fits 1 e.worn && fits 1 e.pool && fits 1 e.serialRequired && fits 1 e.tallyLimit

/-- The fields of a WATCH_WRITE rule fit their bytes. -/
def RawRule.wf (r : RawRule) : Bool :=
  fits 1 r.enabled && fits 1 r.field && fits 4 r.value && fits 1 r.exponent && fits 1 r.action && fits 1 r.oneShot
    && fits 1 r.chain && fits 1 r.supervisor

/-- A command is well formed. -/
def Instr.wf : Instr → Bool
  | .offer _ tag _ version _ => fits 1 tag && fits 1 version
  | .item _ it => it.wf
  | .bind _ tag ticket => fits 1 tag && fits 2 ticket
  | .unbind _ tag => fits 1 tag
  | .keepalive l tag => fits 1 tag && decide (l ≠ .f)
  | .openTicket tag account cash => fits 1 tag && fits 3 account && (match cash with | none => true | some c => fits 1 c)
  | .quote tag ticket => fits 1 tag && fits 2 ticket
  | .close tag ticket => fits 1 tag && fits 2 ticket
  | .adjust tag ticket cls grade ownership delta =>
      fits 1 tag && fits 2 ticket && fits 1 cls && fits 1 grade && fits 1 ownership
        && decide (-2147483648 ≤ delta) && decide (delta ≤ 2147483647)
  | .confirmCount tag ticket => fits 1 tag && fits 2 ticket
  | .void tag ticket => fits 1 tag && fits 2 ticket
  | .voidWalk => true
  | .settleToAccount tag ticket => fits 1 tag && fits 2 ticket
  | .settleWalk => true
  | .collect tag ticket => fits 1 tag && fits 2 ticket
  | .ticketRead tag ticket => fits 1 tag && fits 2 ticket
  | .pay tag ticket => fits 1 tag && fits 2 ticket
  | .dispensed tag ticket amount => fits 1 tag && fits 2 ticket && fits 4 amount
  | .payTimeout => true
  | .resolve _ tag ticket amount => fits 1 tag && fits 2 ticket && fits 4 amount
  | .tillLoad _ tag amount => fits 1 tag && fits 4 amount
  | .tillCount _ tag balance => fits 1 tag && fits 4 balance
  | .release tag hold verdict amended => fits 1 tag && fits 2 hold && fits 1 verdict && fits 1 amended
  | .releaseOperation => true
  | .holdRead tag selector number => fits 1 tag && fits 1 selector && fits 2 number
  | .bankWrite tag cls entry => fits 1 tag && fits 1 cls && entry.wf
  | .feeWrite tag fee => fits 1 tag && fits 2 fee
  | .bankRead tag bank cls => fits 1 tag && fits 1 bank && fits 1 cls
  | .changeoverArm tag time => fits 1 tag && fits 3 time
  | .changeoverDisarm tag => fits 1 tag
  | .watchWrite _ tag entry rule => fits 1 tag && fits 1 entry && rule.wf
  | .watchRead tag entry => fits 1 tag && fits 1 entry
  | .captureRead _ tag entry => fits 1 tag && fits 1 entry
  | .issue tag serials => fits 1 tag && decide (1 ≤ serials.length) && decide (serials.length ≤ 12) && serials.all (fits 4)
  | .issueOperation => true
  | .registerQuery tag serial => fits 1 tag && fits 4 serial
  | .registerQueryOperation => true
  | .clearGuard _ tag => fits 1 tag
  | .clearGuardOperation => true
  | .setClock tag minute second => fits 1 tag && fits 3 minute && fits 1 second
  | .rebase => true
  | .clockRead tag => fits 1 tag
  | .settingsWrite tag identifier index value => fits 1 tag && fits 1 identifier && fits 1 index && fits 4 value
  | .settingsRead tag => fits 1 tag
  | .saveSettings tag => fits 1 tag
  | .saveComplete _ => true
  | .linkStatus tag => fits 1 tag
  | .restartLane tag lane => fits 1 tag && fits 1 lane
  | .attentionRead tag => fits 1 tag
  | .resetUnit tag => fits 1 tag
  | .reject _ kind tag => fits 1 kind && fits 1 tag
  | .frameOverflow _ => true
  | .frameDiscard _ why => match why with | .length len => !(decide (2 ≤ len.toNat) && decide (len.toNat ≤ 118)) | .check => true
  | .gapTimerExpiry _ => true
  | .frameSent _ => true
  | .takeInHand _ => true
  | .verdictOperation => true
  | .laneSilenceExpiry _ => true
  | .breakIntervalEnd _ => true
  | .muteRelease _ => true
  | .burstWindowRestart => true
  | .linkSilenceExpiry l => match l with | .lane _ => false | .k => true | .f => true
  | .gateInputChange _ _ => true
  | .gateEdge _ => true
  | .minuteBoundary => true
  | .holdExpiryOperation => true
  | .sweep => true
  | .powerOnReset => true
  | .endOfStartUp => true
  | .resetInput => true
  | .resetInputRelease => true
  | .supplyLoss => true
  | .batteryFall => true
  | .byteReceived _ _ _ => true
  | .clockSecond => true
  | .batteryLevelChange _ => true

end Sys2Proof
end

