-- ==== Sys2Proof/Decode.lean ====
section
/-! DEFINITION. Words and frames. No row of spec/opcode_table.json carries bits, so no word spells a command. The frames of the links do
have an encoding in bytes: their KIND codes, payload lengths and field codings (R190, R191, R215, R216), the check (R188), the decoder
from a checked frame to the command it carries, and the encoder from a command to its frame. -/

namespace Sys2Proof

/-- The command that a word of the table spells: none, since the table gives its rows no bits. -/
def decodeTableWord (_nbits _w : Nat) : Option Instr := none

/-! ## Byte order and the frame check -/

/-- The low `k` bytes of a number, least significant first (00 CONVENTIONS, byte order). -/
def leBytes : Nat → Nat → List Byte
  | 0, _ => []
  | k + 1, n => BitVec.ofNat 8 n :: leBytes k (n / 256)

/-- The number that bytes give, least significant first. -/
def leNat : List Byte → Nat
  | [] => 0
  | b :: bs => b.toNat + 256 * leNat bs

/-- One bit of the CRC-16 with polynomial 0x1021, no reflection (R188). -/
def crcBit (c : BitVec 16) : BitVec 16 :=
  if c.msb then (c <<< 1) ^^^ 0x1021#16 else c <<< 1

/-- One byte of the CRC-16 (R188). -/
def crcByte (c : BitVec 16) (b : Byte) : BitVec 16 :=
  crcBit (crcBit (crcBit (crcBit (crcBit (crcBit (crcBit (crcBit (c ^^^ (b.zeroExtend 16 <<< 8)))))))))

/-- The CRC-16 of a run of bytes, initial value 0xFFFF, no final inversion (R188). -/
def crc16 (bs : List Byte) : BitVec 16 := bs.foldl crcByte 0xFFFF#16

/-- The SYNC byte. -/
def syncByte : Byte := 0xC5

/-- The check of a LEN byte and a body, high byte first (R188). -/
def checkBytes (covered : List Byte) : List Byte :=
  let c := crc16 covered
  [(c >>> 8).truncate 8, c.truncate 8]

/-- A whole frame: SYNC, LEN, KIND, TAG, payload, CHECK (chapter 13). -/
def frameBytes (kind tag : Nat) (payload : List Byte) : List Byte :=
  let covered := BitVec.ofNat 8 (payload.length + 2) :: BitVec.ofNat 8 kind :: BitVec.ofNat 8 tag :: payload
  syncByte :: covered ++ checkBytes covered

/-! ## KIND codes (R216) -/

/-- The KINDs a lane controller may send (R190). -/
def laneKinds : List Nat := [0x01, 0x02, 0x03, 0x04, 0x05]

/-- The KINDs the kiosk may send (R190). -/
def kioskKinds : List Nat := [0x10, 0x11, 0x12, 0x13, 0x05]

/-- The KINDs the office may send (R190). -/
def officeKinds : List Nat :=
  [0x10, 0x14, 0x15, 0x16, 0x17, 0x18, 0x19, 0x1A, 0x20, 0x21, 0x28, 0x29, 0x2A, 0x30, 0x31, 0x32, 0x33, 0x34, 0x38, 0x39, 0x3A,
   0x40, 0x41, 0x42, 0x48, 0x49, 0x50, 0x51, 0x52, 0x58, 0x59, 0x5A, 0x5B]

/-- The KINDs a link's master may send (R190). -/
def allowedKinds : Link → List Nat
  | .lane _ => laneKinds
  | .k => kioskKinds
  | .f => officeKinds

/-- The KINDs of requests and lane frames, whatever their link. -/
def masterKinds : List Nat := laneKinds ++ kioskKinds ++ officeKinds

/-- The KINDs of the table of R216: a master's, the part's own, and the answer KINDs of requests; an ITEM is no request (log 31). -/
def knownKind (kind : Nat) : Bool :=
  masterKinds.contains kind || [0x70, 0x71, 0x72, 0x73, 0x7F].contains kind
    || (decide (0x80 ≤ kind) && decide (kind ≠ 0x82) && masterKinds.contains (kind - 0x80))

/-! ## Field coding (R215) -/

/-- The values of fields of the given widths, when the bytes are exactly that long. -/
def splitFields : List Nat → List Byte → Option (List Nat)
  | [], [] => some []
  | [], _ :: _ => none
  | w :: ws, bs => if bs.length < w then none else (splitFields ws (bs.drop w)).map (fun vs => leNat (bs.take w) :: vs)

/-- The bytes of fields given as (width, value). -/
def joinFields (fs : List (Nat × Nat)) : List Byte := fs.flatMap (fun f => leBytes f.1 f.2)

/-- A 4-byte signed value, two's complement. -/
def signed32 (n : Nat) : Int := if n < 2147483648 then (n : Int) else (n : Int) - 4294967296

/-- The 4-byte coding of a signed value. -/
def unsigned32 (z : Int) : Nat := (z % 4294967296).toNat

/-- A class byte: 0xFF is absent. -/
def classOf (n : Nat) : Option Nat := if n = 255 then none else some n

/-- The coding of a class that may be absent. -/
def classCode : Option Nat → Nat
  | none => 255
  | some c => c

/-! ## The decoder -/

/-- The command of a lane frame whose payload has the KIND's length. -/
def decodeLane (n : Lane) (kind tag : Nat) (p : List Byte) : Option Instr :=
  match kind with
  | 0x01 => match splitFields [1, 1, 1] p with
    | some [a, v, fl] => some (.offer n tag (ModeSet.ofCode a) v (fl.testBit 0))
    | _ => none
  | 0x02 => match splitFields [2, 1, 1, 1, 1, 4, 1] p with
    | some [q, c, g, k, o, sr, fl] => some (.item n ⟨q, classOf c, g, k, o, sr, fl.testBit 0⟩)
    | _ => none
  | 0x03 => match splitFields [2] p with
    | some [t] => some (.bind n tag t)
    | _ => none
  | 0x04 => match splitFields [] p with
    | some _ => some (.unbind n tag)
    | none => none
  | 0x05 => match splitFields [] p with
    | some _ => some (.keepalive (.lane n) tag)
    | none => none
  | _ => none

/-- The command of a kiosk frame whose payload has the KIND's length. -/
def decodeKiosk (kind tag : Nat) (p : List Byte) : Option Instr :=
  match kind with
  | 0x05 => match splitFields [] p with
    | some _ => some (.keepalive .k tag)
    | none => none
  | 0x10 => match splitFields [3] p with
    | some [a] => some (.openTicket tag a none)
    | _ => none
  | 0x11 => match splitFields [2] p with
    | some [t] => some (.quote tag t)
    | _ => none
  | 0x12 => match splitFields [2] p with
    | some [t] => some (.pay tag t)
    | _ => none
  | 0x13 => match splitFields [2, 4] p with
    | some [t, d] => some (.dispensed tag t d)
    | _ => none
  | _ => none

/-- The request of an office frame with no payload. -/
def decodeBare (key : Bool) (kind tag : Nat) : Option Instr :=
  match kind with
  | 0x34 => some (.changeoverDisarm tag)
  | 0x42 => some (.clearGuard key tag)
  | 0x49 => some (.clockRead tag)
  | 0x51 => some (.settingsRead tag)
  | 0x52 => some (.saveSettings tag)
  | 0x58 => some (.linkStatus tag)
  | 0x5A => some (.attentionRead tag)
  | 0x5B => some (.resetUnit tag)
  | _ => none

/-- The request of an office frame with one field. -/
def decodeOne (key : Bool) (kind tag v : Nat) : Option Instr :=
  match kind with
  | 0x14 => some (.close tag v)
  | 0x15 => some (.void tag v)
  | 0x16 => some (.collect tag v)
  | 0x17 => some (.ticketRead tag v)
  | 0x19 => some (.confirmCount tag v)
  | 0x1A => some (.settleToAccount tag v)
  | 0x29 => some (.tillLoad key tag v)
  | 0x2A => some (.tillCount key tag v)
  | 0x31 => some (.feeWrite tag v)
  | 0x33 => some (.changeoverArm tag v)
  | 0x39 => some (.watchRead tag v)
  | 0x3A => some (.captureRead key tag v)
  | 0x41 => some (.registerQuery tag v)
  | 0x59 => some (.restartLane tag v)
  | _ => none

/-- The request of an office frame with two fields or more. -/
def decodeMany (key : Bool) (kind tag : Nat) (vs : List Nat) : Option Instr :=
  match kind, vs with
  | 0x10, [a, c] => some (.openTicket tag a (some c))
  | 0x18, [t, c, g, o, d] => some (.adjust tag t c g o (signed32 d))
  | 0x20, [h, v, a] => some (.release tag h v a)
  | 0x21, [sel, n] => some (.holdRead tag sel n)
  | 0x28, [t, p] => some (.resolve key tag t p)
  | 0x30, [c, op, d, w, po, sr, tl] => some (.bankWrite tag c ⟨op, d, w, po, sr, tl⟩)
  | 0x32, [b, c] => some (.bankRead tag b c)
  | 0x38, [e, en, fi, v, k, ac, os, ch, su] => some (.watchWrite key tag e ⟨en, fi, v, k, ac, os, ch, su⟩)
  | 0x48, [m, se] => some (.setClock tag m se)
  | 0x50, [i, ix, v] => some (.settingsWrite tag i ix v)
  | _, _ => none

/-- The field widths of an office KIND, ISSUE apart (R216). -/
def officeWidths : Nat → List Nat
  | 0x10 => [3, 1]
  | 0x14 => [2]
  | 0x15 => [2]
  | 0x16 => [2]
  | 0x17 => [2]
  | 0x18 => [2, 1, 1, 1, 4]
  | 0x19 => [2]
  | 0x1A => [2]
  | 0x20 => [2, 1, 1]
  | 0x21 => [1, 2]
  | 0x28 => [2, 4]
  | 0x29 => [4]
  | 0x2A => [4]
  | 0x30 => [1, 1, 2, 1, 1, 1, 1]
  | 0x31 => [2]
  | 0x32 => [1, 1]
  | 0x33 => [3]
  | 0x38 => [1, 1, 1, 4, 1, 1, 1, 1, 1]
  | 0x39 => [1]
  | 0x3A => [1]
  | 0x41 => [4]
  | 0x48 => [3, 1]
  | 0x50 => [1, 1, 4]
  | 0x59 => [1]
  | _ => []

/-- The command of an office frame whose payload has the KIND's length, or for ISSUE one of its lengths (R191, R216). -/
def decodeOffice (key : Bool) (kind tag : Nat) (p : List Byte) : Option Instr :=
  if kind = 0x40 then
    if p.length % 4 = 0 ∧ 4 ≤ p.length ∧ p.length ≤ 48 then
      (splitFields (List.replicate (p.length / 4) 4) p).map (.issue tag)
    else none
  else
    match splitFields (officeWidths kind) p with
    | some [] => decodeBare key kind tag
    | some [v] => decodeOne key kind tag v
    | some vs => decodeMany key kind tag vs
    | none => none

/-- What a complete frame is at its link (R191). -/
inductive Decoded where
  /-- KIND names no frame kind. -/
  | unknownKind
  /-- KIND is not in the link's row of R190. -/
  | notAllowed
  /-- The payload has not the KIND's length. -/
  | badLength
  /-- The command the frame carries. -/
  | command (c : Instr)
deriving DecidableEq, Repr

/-- The command of an allowed KIND, when the payload's length is the KIND's. -/
def decodePayload (l : Link) (key : Bool) (kind tag : Nat) (p : List Byte) : Option Instr :=
  match l with
  | .lane n => decodeLane n kind tag p
  | .k => decodeKiosk kind tag p
  | .f => decodeOffice key kind tag p

/-- The dispatch of a complete frame by KIND and payload length (R191). -/
def decodeFrame (l : Link) (key : Bool) (kind tag : Nat) (p : List Byte) : Decoded :=
  if knownKind kind = false then .unknownKind
  else if (allowedKinds l).contains kind = false then .notAllowed
  else match decodePayload l key kind tag p with
    | some c => .command c
    | none => .badLength

/-! ## The encoder -/

/-- A frame as it reaches the part: its link, the key level when it is taken, KIND, TAG and payload. -/
structure FrameImage where
  link : Link
  key : Bool
  kind : Nat
  tag : Nat
  payload : List Byte
deriving DecidableEq, Repr

/-- The frame that carries a command, for the commands that are frames (R215, R216). ITEM's TAG is not used and is sent as 0; a key level
that no rule reads is given as false. -/
def encodeFrame : Instr → Option FrameImage
  | .offer n tag ability version ack =>
      some ⟨.lane n, false, 0x01, tag, joinFields [(1, ability.code), (1, version), (1, ack.toNat)]⟩
  | .item n it =>
      some ⟨.lane n, false, 0x02, 0, joinFields [(2, it.sequence), (1, classCode it.cls), (1, it.grade), (1, it.quantity), (1, it.owner),
        (4, it.serial), (1, it.weak.toNat)]⟩
  | .bind n tag ticket => some ⟨.lane n, false, 0x03, tag, joinFields [(2, ticket)]⟩
  | .unbind n tag => some ⟨.lane n, false, 0x04, tag, []⟩
  | .keepalive l tag => some ⟨l, false, 0x05, tag, []⟩
  | .openTicket tag account none => some ⟨.k, false, 0x10, tag, joinFields [(3, account)]⟩
  | .openTicket tag account (some c) => some ⟨.f, false, 0x10, tag, joinFields [(3, account), (1, c)]⟩
  | .quote tag ticket => some ⟨.k, false, 0x11, tag, joinFields [(2, ticket)]⟩
  | .pay tag ticket => some ⟨.k, false, 0x12, tag, joinFields [(2, ticket)]⟩
  | .dispensed tag ticket amount => some ⟨.k, false, 0x13, tag, joinFields [(2, ticket), (4, amount)]⟩
  | .close tag ticket => some ⟨.f, false, 0x14, tag, joinFields [(2, ticket)]⟩
  | .void tag ticket => some ⟨.f, false, 0x15, tag, joinFields [(2, ticket)]⟩
  | .collect tag ticket => some ⟨.f, false, 0x16, tag, joinFields [(2, ticket)]⟩
  | .ticketRead tag ticket => some ⟨.f, false, 0x17, tag, joinFields [(2, ticket)]⟩
  | .adjust tag ticket cls grade ownership delta =>
      some ⟨.f, false, 0x18, tag, joinFields [(2, ticket), (1, cls), (1, grade), (1, ownership), (4, unsigned32 delta)]⟩
  | .confirmCount tag ticket => some ⟨.f, false, 0x19, tag, joinFields [(2, ticket)]⟩
  | .settleToAccount tag ticket => some ⟨.f, false, 0x1A, tag, joinFields [(2, ticket)]⟩
  | .release tag hold verdict amended => some ⟨.f, false, 0x20, tag, joinFields [(2, hold), (1, verdict), (1, amended)]⟩
  | .holdRead tag selector number => some ⟨.f, false, 0x21, tag, joinFields [(1, selector), (2, number)]⟩
  | .resolve key tag ticket amount => some ⟨.f, key, 0x28, tag, joinFields [(2, ticket), (4, amount)]⟩
  | .tillLoad key tag amount => some ⟨.f, key, 0x29, tag, joinFields [(4, amount)]⟩
  | .tillCount key tag balance => some ⟨.f, key, 0x2A, tag, joinFields [(4, balance)]⟩
  | .bankWrite tag cls e =>
      some ⟨.f, false, 0x30, tag, joinFields [(1, cls), (1, e.opened), (2, e.deposit), (1, e.worn), (1, e.pool), (1, e.serialRequired),
        (1, e.tallyLimit)]⟩
  | .feeWrite tag fee => some ⟨.f, false, 0x31, tag, joinFields [(2, fee)]⟩
  | .bankRead tag bank cls => some ⟨.f, false, 0x32, tag, joinFields [(1, bank), (1, cls)]⟩
  | .changeoverArm tag time => some ⟨.f, false, 0x33, tag, joinFields [(3, time)]⟩
  | .changeoverDisarm tag => some ⟨.f, false, 0x34, tag, []⟩
  | .watchWrite key tag entry r =>
      some ⟨.f, key, 0x38, tag, joinFields [(1, entry), (1, r.enabled), (1, r.field), (4, r.value), (1, r.exponent), (1, r.action),
        (1, r.oneShot), (1, r.chain), (1, r.supervisor)]⟩
  | .watchRead tag entry => some ⟨.f, false, 0x39, tag, joinFields [(1, entry)]⟩
  | .captureRead key tag entry => some ⟨.f, key, 0x3A, tag, joinFields [(1, entry)]⟩
  | .issue tag serials => some ⟨.f, false, 0x40, tag, joinFields (serials.map (fun n => (4, n)))⟩
  | .registerQuery tag serial => some ⟨.f, false, 0x41, tag, joinFields [(4, serial)]⟩
  | .clearGuard key tag => some ⟨.f, key, 0x42, tag, []⟩
  | .setClock tag minute second => some ⟨.f, false, 0x48, tag, joinFields [(3, minute), (1, second)]⟩
  | .clockRead tag => some ⟨.f, false, 0x49, tag, []⟩
  | .settingsWrite tag identifier index value => some ⟨.f, false, 0x50, tag, joinFields [(1, identifier), (1, index), (4, value)]⟩
  | .settingsRead tag => some ⟨.f, false, 0x51, tag, []⟩
  | .saveSettings tag => some ⟨.f, false, 0x52, tag, []⟩
  | .linkStatus tag => some ⟨.f, false, 0x58, tag, []⟩
  | .restartLane tag lane => some ⟨.f, false, 0x59, tag, joinFields [(1, lane)]⟩
  | .attentionRead tag => some ⟨.f, false, 0x5A, tag, []⟩
  | .resetUnit tag => some ⟨.f, false, 0x5B, tag, []⟩
  | .voidWalk => none
  | .settleWalk => none
  | .payTimeout => none
  | .releaseOperation => none
  | .issueOperation => none
  | .registerQueryOperation => none
  | .clearGuardOperation => none
  | .rebase => none
  | .saveComplete _ => none
  | .reject _ _ _ => none
  | .frameOverflow _ => none
  | .frameDiscard _ _ => none
  | .gapTimerExpiry _ => none
  | .frameSent _ => none
  | .takeInHand _ => none
  | .verdictOperation => none
  | .laneSilenceExpiry _ => none
  | .breakIntervalEnd _ => none
  | .muteRelease _ => none
  | .burstWindowRestart => none
  | .linkSilenceExpiry _ => none
  | .gateInputChange _ _ => none
  | .gateEdge _ => none
  | .minuteBoundary => none
  | .holdExpiryOperation => none
  | .sweep => none
  | .powerOnReset => none
  | .endOfStartUp => none
  | .resetInput => none
  | .resetInputRelease => none
  | .supplyLoss => none
  | .batteryFall => none
  | .byteReceived _ _ _ => none
  | .clockSecond => none
  | .batteryLevelChange _ => none

end Sys2Proof
end

