-- ==== Sys2Proof/Config.lean ====
section
/-! DEFINITION. The free values: what the spec leaves open and the part goes on from. None has a body, so no proof can rest on one.
Each is applied to `State.freeIndex`, a counter the step reads and advances, so that each use may differ. -/

namespace Sys2Proof

/-- Whether a save that a reset or a loss of supply cuts short had already written its signature and CRC (R209: a reset
before the end of step 3 leaves the image invalid, a reset during step 4 leaves it as step 3 wrote it). Log 12. -/
opaque Config.saveWritten : Nat → Bool

/-- Whether a save cut short before the end of step 3 had erased the signature (R209: a reset during step 1 leaves the image as it was, a reset
after the erase of step 2 leaves it invalid). Log 12. -/
opaque Config.saveErased : Nat → Bool

/-- Whether the clearing of a cold start that a loss of supply or a RESET cuts short had come to its last steps (R204: one cut short leaves the
mark unwritten; R212: the last steps of the clearing write it and clear the latch). Log 28. -/
opaque Config.clearingDone : Nat → Bool

/-- The time left of a running break interval in LINK_STATUS, less one tenth, before it is held within 0..19 (R65). Log 13. -/
opaque Config.breakTenths : Nat → Nat

/-- Whether the sweep is raised before the hold expiries of the same test (R124: either may be raised first). Log 14. -/
opaque Config.sweepFirst : Nat → Bool

/-- The rank of a hold number among the hold expiries raised by one test (R86 says they expire together and names no order). Log 15. -/
opaque Config.expiryRank : Nat → Nat → Nat

end Sys2Proof
end

