-- ==== Sys2Proof/Machine/State.lean ====
section
/-! DEFINITION. The state of the JT54 as plain data, every piece the spec names, and the state right after reset. -/

namespace Sys2Proof.Machine

open Sys2Proof

/-- A timer of the sub-minute timebase: stopped, or running for the length (in ms) it was started with (R186; log 3). -/
abbrev Timer := Option Nat

/-! ## Tickets (chapter 1) -/

/-- Tariff bank A or B (R128). -/
inductive BankId where
  | a | b
deriving DecidableEq, Repr

/-- The states of a ticket record (R2). FREE is the absence of a record in its slot. -/
inductive TicketState where
  | opened | closing | priced | paying | doubt | settled | voided
deriving DecidableEq, Repr

/-- The five flags of a ticket (R10). -/
structure TicketFlags where
  recount : Bool
  countSaturated : Bool
  totalClamped : Bool
  note : Bool
  forcedClose : Bool
deriving DecidableEq, Repr

/-- The priced record (R155). -/
structure PricedRecord where
  gross : Nat
  fee : Nat
  net : Nat
  cash : Nat
  credit : Nat
  step : Nat
  cap : Nat
deriving DecidableEq, Repr

/-- The payout record (R1, R23): the reservation, the kiosk's report and the kiosk claim. -/
structure PayoutRecord where
  reservation : Nat
  report : Option Nat
  claim : Option Nat
deriving DecidableEq, Repr

/-- The settlement record (R173). -/
structure SettlementRecord where
  cash : Nat
  credit : Nat
  excess : Bool
  claim : Option Nat
deriving DecidableEq, Repr

/-- A ticket record (R1). The number is the slot's: generation × 256 + slot. -/
structure Ticket where
  state : TicketState
  account : Nat
  cashAllowed : Bool
  bank : BankId
  opened : Nat
  deadline : Nat
  lanes : LaneSet
  /-- `count[c][g][o]` at index 4c + 2g + o (R8; the order of R217). -/
  counts : Table Nat 64
  scrap : Table Nat 16
  holds : Nat
  expired : Nat
  flags : TicketFlags
  priced : Option PricedRecord
  payout : Option PayoutRecord
  settlement : Option SettlementRecord
deriving DecidableEq, Repr

/-- A slot of the ticket table (R1): its generation, and its record unless it is FREE. Index i is slot number i + 1. -/
structure TicketSlot where
  generation : Nat
  ticket : Option Ticket
deriving DecidableEq, Repr

/-! ## Verdicts and holds (chapter 4) -/

/-- The causes of a verdict, in the order of their codes (13.3). -/
inductive Cause where
  | malformed | noTicket | classClosed | watchVoid | doubleRead | foreignRefused | duplicate | watchHold
  | registerCold | noSerial | weakRead | tallyLimit | registerFull | holdPoolFull | overrun | laneMuted | stale | notCounting
deriving DecidableEq, Repr

/-- ACCEPT, HOLD or REFUSE (R74). -/
inductive Verdict where
  | accept | hold | refuse
deriving DecidableEq, Repr

/-- FULL, WORN or SCRAP. -/
inductive Grade where
  | full | worn | scrap
deriving DecidableEq, Repr

/-- OWN or FOREIGN (R68). -/
inductive Ownership where
  | own | foreign
deriving DecidableEq, Repr

/-- SERIAL, CLASS or TALLY (chapter 3). -/
inductive Mode where
  | serial | cls | tally
deriving DecidableEq, Repr

/-- A hold record (R82). The hold number is the slot's: generation × 256 + slot. `serial` 0 is absent. -/
structure Hold where
  ticket : Nat
  lane : Lane
  sequence : Nat
  cls : Option Nat
  judged : Fin 16
  grade : Grade
  quantity : Nat
  owner : Nat
  ownership : Ownership
  serial : Nat
  cause : Cause
  also : List Cause
  entryMade : Bool
  held : Nat
  deadline : Nat
deriving DecidableEq, Repr

/-- A slot of the hold pool (R81). -/
structure HoldSlot where
  generation : Nat
  hold : Option Hold
deriving DecidableEq, Repr

/-! ## The keg register (chapter 6) -/

/-- The state of a register entry, with the ticket of a PENDING one and the stamp of the others (R106). -/
inductive KegState where
  | pending (ticket : Nat)
  | credited (stamp : Nat)
  | issued (stamp : Nat)
deriving DecidableEq, Repr

/-- A register entry (R106). -/
structure KegEntry where
  serial : Nat
  owner : Nat
  cls : Fin 16
  state : KegState
deriving DecidableEq, Repr

/-- The keg register: entries with strictly rising serials, the entry count, the replacement count, and the end stamp of
the cold guard while it is active (R106). -/
structure Register where
  entries : List KegEntry
  entryCount : Nat
  replacements : Nat
  guardEnd : Option Nat
deriving DecidableEq, Repr

/-! ## Watch entries (chapter 5) -/

/-- The field a watch entry names (R90). -/
inductive WatchField where
  | serial | owner | account | cls
deriving DecidableEq, Repr

/-- NOTE, HOLD or VOID (R90). -/
inductive WatchAction where
  | note | hold | void
deriving DecidableEq, Repr

/-- The rule of a watch entry (R90). -/
structure WatchRule where
  enabled : Bool
  field : WatchField
  value : Nat
  exponent : Nat
  action : WatchAction
  oneShot : Bool
  chain : Bool
  supervisor : Bool
deriving DecidableEq, Repr

/-- A capture record (R97). -/
structure Capture where
  ticket : Nat
  lane : Lane
  sequence : Nat
  serial : Nat
  minute : Nat
deriving DecidableEq, Repr

/-- A watch entry: its rule and its evidence (R90). -/
structure WatchEntry where
  rule : WatchRule
  hit : Bool
  count : Nat
  capture : Option Capture
  locked : Bool
deriving DecidableEq, Repr

/-! ## Tariff banks (chapter 7) -/

/-- A class entry of a bank (R128). -/
structure ClassEntry where
  isOpen : Bool
  deposit : Nat
  worn : Nat
  pool : Nat
  serialRequired : Bool
  tallyLimit : Nat
deriving DecidableEq, Repr

/-- A tariff bank (R128). -/
structure Bank where
  classes : Table ClassEntry 16
  fee : Nat
deriving DecidableEq, Repr

/-- The tariff unit (R128 to R130, R135): both banks, the active-bank indicator, the reference counts, and the armed time. -/
structure Tariff where
  bankA : Bank
  bankB : Bank
  active : BankId
  refA : Nat
  refB : Nat
  armed : Option Nat
deriving DecidableEq, Repr

/-! ## Till and clock (chapters 9 and 10) -/

/-- The till's balance and reserved amount (R157). -/
structure Till where
  balance : Nat
  reserved : Nat
deriving DecidableEq, Repr

/-- The retained part of the yard clock (R176). -/
structure Clock where
  minute : Nat
  second : Nat
  unpowered : Nat
deriving DecidableEq, Repr

/-- The minute and second a pending SET_CLOCK carries (R181). -/
structure ClockSet where
  minute : Nat
  second : Nat
deriving DecidableEq, Repr

/-! ## Attention (chapter 11) -/

/-- The attention causes, in priority order (R196). -/
inductive Attention where
  | doubt | retentionLost | settingsDefault | recount | watchHit | holdWaiting | laneFault | checkError | strayItems
  | tillLow | registerHigh | changeoverDone | saveFailed
deriving DecidableEq, Repr

/-- The pending edge causes (R196, R202). -/
structure Edges where
  retentionLost : Bool
  settingsDefault : Bool
  watchHit : Bool
  laneFault : Bool
  checkError : Bool
  strayItems : Bool
  changeoverDone : Bool
  saveFailed : Bool
deriving DecidableEq, Repr

/-- No edge cause pending. -/
def Edges.none : Edges := ⟨false, false, false, false, false, false, false, false⟩

/-! ## Settings (chapter 12) -/

/-- The value of every setting (R205). Durations of seconds, ms and minutes stand in the setting's own unit. -/
structure Settings where
  speed : PerLink Nat
  modes : PerLane ModeSet
  silence : Nat
  burst : Nat
  gateFilter : Nat
  tolerance : Nat
  highMark : Nat
  ownCode : Nat
  ticketLife : Nat
  holdTime : Nat
  lockout : Nat
  retention : Nat
  payTimeout : Nat
  cashStep : Nat
  cashCap : Nat
  tillLow : Nat
deriving DecidableEq, Repr

/-- The defaults of R205. -/
def Settings.default : Settings where
  speed := PerLink.fill 57600
  modes := PerLane.fill ⟨true, true, true⟩
  silence := 5
  burst := 40
  gateFilter := 10
  tolerance := 1
  highMark := 12
  ownCode := 1
  ticketLife := 240
  holdTime := 120
  lockout := 4320
  retention := 129600
  payTimeout := 45
  cashStep := 10
  cashCap := 50000
  tillLow := 10000

/-- The settings image (R206). -/
structure Image where
  signature : Byte
  values : Settings
  crc : BitVec 16
deriving DecidableEq, Repr

/-- A save under way (R209): the copy of the live settings taken at its step 1, and the image as that step found it. -/
structure Save where
  copy : Settings
  former : Image
deriving DecidableEq, Repr

/-! ## Lane intake and negotiation (chapters 2 and 3) -/

/-- The lane link states (R26). -/
inductive LaneState where
  | down | listen | offering | acking | counting | sensed | muted | refused
deriving DecidableEq, Repr

/-- The close reasons of a batch (R40). -/
inductive CloseReason where
  | unbind | deadline | voided | down | refused
deriving DecidableEq, Repr

/-- The batch record (R26, R38). It is active while `reason` is absent, and its end is pending afterwards. -/
structure Batch where
  ticket : Nat
  mode : Option Mode
  boundAt : Nat
  gate : Nat
  frames : Nat
  gap : Bool
  reason : Option CloseReason
deriving DecidableEq, Repr

/-- The MALFORMED detail of an entry (R31). -/
structure Malformed where
  classHigh : Bool
  gradeHigh : Bool
  quantity : Bool
  serialQuantity : Bool
  classAbsent : Bool
deriving DecidableEq, Repr

/-- An entry of an item queue or a landing slot (R27, R64). -/
structure Entry where
  item : Item
  ticket : Option Nat
  mode : Option Mode
  malformed : Malformed
  batchEnd : Bool
  lostLink : Bool
deriving DecidableEq, Repr

/-- NEGOTIATED or SENSED (R50). -/
inductive Origin where
  | negotiated | sensed
deriving DecidableEq, Repr

/-- Why a lane is REFUSED (R50). -/
inductive RefusalReason where
  | noCommonMode | senseFault
deriving DecidableEq, Repr

/-- The content of a lane offer (R53). -/
structure LaneOffer where
  ability : ModeSet
  version : Nat
deriving DecidableEq, Repr

/-- A candidate level of the gate filter with its running time (R45). -/
structure Candidate where
  broken : Bool
  time : Nat
deriving DecidableEq, Repr

/-- One intake: the state of R26 and R50, the gate input's level, and whether its verdict logic has the head in hand (R66). -/
structure Intake where
  state : LaneState
  resolved : Option Mode
  former : Option LaneState
  queue : List Entry
  landing : Option Entry
  batch : Option Batch
  lastSequence : Option Nat
  burst : Nat
  muteTimer : Timer
  slow : Bool
  gateLevel : Bool
  recognised : Option Bool
  candidate : Option Candidate
  stray : Nat
  lastOffer : Option LaneOffer
  offerCount : Nat
  origin : Option Origin
  senseCheck : Bool
  refusal : Option RefusalReason
  breakTimer : Timer
  silenceTimer : Timer
  inHand : Bool
deriving DecidableEq, Repr

/-- The start values of an intake (R26, R50, R66) with the gate input at `level` and the filter time `filter`: the filter takes
the level it finds once that level has held (R45). -/
def Intake.start (level : Bool) (filter : Nat) : Intake where
  state := .down
  resolved := none
  former := none
  queue := []
  landing := none
  batch := none
  lastSequence := none
  burst := 0
  muteTimer := none
  slow := false
  gateLevel := level
  recognised := none
  candidate := some ⟨level, filter⟩
  stray := 0
  lastOffer := none
  offerCount := 0
  origin := none
  senseCheck := false
  refusal := none
  breakTimer := none
  silenceTimer := none
  inHand := false

/-! ## The register arbiter (chapter 6) -/

/-- Who asked for a settle walk, and for which ticket (R116). -/
inductive Settler where
  | toAccount (ticket : Nat)
  | pay (ticket : Nat)
  | dispensed (ticket : Nat)
  | resolve (ticket amount : Nat)
deriving DecidableEq, Repr

/-- The operations of the office-side position (R109). -/
inductive OfficeOp where
  | release (hold : Nat) (verdict : Verdict) (amended : Option Grade)
  | voidWalk (ticket : Nat)
  | settle (by_ : Settler)
  | issue (serials : List Nat)
  | query (serial : Nat)
  | clearGuard
deriving DecidableEq, Repr

/-- The operations of the sweep position (R109). -/
inductive SweepOp where
  | sweep
  | expiry (hold : Nat)
deriving DecidableEq, Repr

/-- The operation in service. -/
inductive RegisterOp where
  | verdict (n : Lane)
  | office (op : OfficeOp)
  | sweep (op : SweepOp)
  | rebase
deriving DecidableEq, Repr

/-- The five positions of the rotation (R110). -/
inductive Position where
  | lane (n : Lane)
  | office
  | sweep
deriving DecidableEq, Repr

/-- The register arbiter (R110, R111; log 8). -/
structure Arbiter where
  serving : Option RegisterOp
  lanes : LaneSet
  office : List OfficeOp
  sweeps : List SweepOp
  last : Position
deriving DecidableEq, Repr

/-- The arbiter at every start (R108). -/
def Arbiter.start : Arbiter := ⟨none, LaneSet.empty, [], [], .sweep⟩

/-! ## Answers, frames and ports (chapters 11 and 13) -/

/-- The result codes (13.3). -/
inductive Result where
  | ok | clamped | wait | wrongState | noSuchTicket | noSuchHold | tableFull | busy | ticketBusy | notCounting | locked
  | bankInUse | chainConflict | registerFull | conflict | tillEmpty | belowReserved | late | malformed | unknownKind
  | notAllowed | notFound | issueConflict | price | paygo | result | bound | saveFailed | removed | issued
deriving DecidableEq, Repr

/-- The part's own offer (R53). -/
structure PartOffer where
  ability : ModeSet
  ack : Bool
  state : LaneState
  mode : Option Mode
  refusal : Option RefusalReason
deriving DecidableEq, Repr

/-- The register summary of REGISTER_QUERY (R121). -/
structure RegisterSummary where
  entries : Nat
  pending : Nat
  credited : Nat
  issued : Nat
  replacements : Nat
  guardEnd : Option Nat
  remaining : Nat
deriving DecidableEq, Repr

/-- How a watch entry is chained (R104). -/
inductive Chained where
  | no | head | tail
deriving DecidableEq, Repr

/-- VALID, INVALID or WRITING (R206, R208). -/
inductive ImageState where
  | valid | invalid | writing
deriving DecidableEq, Repr

/-- The fields an answer carries after its result (13.4 to 13.9). -/
inductive Body where
  | empty
  | offer (o : PartOffer)
  | bound (ticket : Nat)
  | opened (ticket : Nat) (bank : BankId) (deadline : Nat)
  | state (st : TicketState)
  | counter (value : Nat)
  | released (ticket holds : Nat)
  | hold (number : Nat) (h : Hold)
  | holdList (numbers : List Nat)
  | ticket (number : Nat) (t : Ticket)
  | reasons (lanes holds recount : Bool)
  | price (p : PricedRecord)
  | paygo (reservation cash credit : Nat)
  | paid (cash credit : Nat)
  | till (balance reserved available : Nat)
  | classEntry (bank : BankId) (cls : Nat) (e : ClassEntry)
  | fee (bank : BankId) (fee : Nat)
  | bank (bank : BankId) (cls : Nat) (e : ClassEntry) (fee : Nat) (standby : Bool) (refs : Nat) (armed : Option Nat)
  | changeover (armed : Option Nat) (active : BankId)
  | watchRule (entry : Nat) (r : WatchRule)
  | watchEntry (entry : Nat) (e : WatchEntry) (chained : Chained)
  | capture (entry : Nat) (c : Option Capture) (hit : Bool) (count : Nat)
  | issue (results : List Result)
  | query (found : Option KegEntry) (age : Nat) (summary : RegisterSummary)
  | clockSet (minute second : Nat)
  | clock (minute second : Nat) (setPending batteryLow : Bool)
  | setting (identifier index value : Nat)
  | settings (image : ImageState) (differs : Bool) (values : Settings)
  | linkStatus (record : List Byte)
  | attention (highest : Option Attention) (pending : List Attention)
  | rejected (kind : Nat)
deriving DecidableEq, Repr

/-- An answer: its result and the fields it carries (R214). -/
structure Answer where
  result : Result
  body : Body
deriving DecidableEq, Repr

/-- A VERDICT frame (R80, R28). `cause` is absent for NONE. -/
structure VerdictFrame where
  sequence : Nat
  verdict : Verdict
  cause : Option Cause
  also : List Cause
  hold : Nat
  note : Bool
deriving DecidableEq, Repr

/-- The frames the part sends to a lane of its own accord (R193). UNBOUND reports what R43 gives it, and the bound-at minute of the batch (R26). -/
inductive OwnFrame where
  | verdict (v : VerdictFrame)
  | flow (slow : Bool)
  | unbound (ticket : Nat) (reason : CloseReason) (boundAt gate frames : Nat) (failed : Bool)
  | offer (o : PartOffer)
deriving DecidableEq, Repr

/-- A request of an outstanding list (R191, R192): its KIND and TAG, and its answer once made. -/
structure Request where
  kind : Nat
  tag : Nat
  answer : Option Answer
deriving DecidableEq, Repr

/-- The assembly states of a port (R187). -/
inductive Assembly where
  | hunt | length | body | check
deriving DecidableEq, Repr

/-- The last reason of a port (R187). -/
inductive DiscardReason where
  | none | truncated | length | check
deriving DecidableEq, Repr

/-- What a ready frame is: the next answer of the outstanding list, or the next frame of the unsolicited list (R193). -/
inductive Ready where
  | answer | own
deriving DecidableEq, Repr

/-- A link port (R187). `unsolicited` and `lost` are used on lane ports, `up` and `silence` on K and F. `order` lists the frames
ready and not yet fully sent, the one being sent first, and `segment` is the segment of an answer being sent (log 26). -/
structure Port where
  speed : Nat
  assembly : Assembly
  buffer : List Byte
  gap : Timer
  error : Bool
  reason : DiscardReason
  outstanding : List Request
  overflow : Nat
  unsolicited : List OwnFrame
  lost : Nat
  up : Bool
  silence : Timer
  order : List Ready
  segment : Nat
deriving DecidableEq, Repr

/-- The start values of a port (R187). -/
def Port.start (speed : Nat) : Port where
  speed := speed
  assembly := .hunt
  buffer := []
  gap := none
  error := false
  reason := .none
  outstanding := []
  overflow := 0
  unsolicited := []
  lost := 0
  up := false
  silence := none
  order := []
  segment := 0

/-! ## The whole state -/

/-- The kinds of start (R204, R213). A RESET recognised during a start begins that start again. -/
inductive StartKind where
  /-- At power-on, with the retention check passed. -/
  | warm
  /-- At power-on, with the retention check failed; `latch` is the battery-fall latch as the clearing found it (log 28). -/
  | cold (latch : Bool)
  /-- At a unit reset. -/
  | unit
deriving DecidableEq, Repr

/-- Supply and start-up (R210, R213). `powerOn` tells a RESET held during a start at power-on from one that is a unit reset. -/
inductive Phase where
  /-- Supply off. -/
  | off
  /-- A recognised RESET input is still active. -/
  | held (powerOn : Bool)
  /-- The start has made steps 1 to 4 of R210 and the silent period lasts. -/
  | starting (kind : StartKind)
  /-- The links are open. -/
  | running
deriving DecidableEq, Repr

/-- The state of the JT54. -/
structure State where
  phase : Phase
  key : Bool
  batteryLow : Bool
  -- the retained domain (R203)
  tickets : Table TicketSlot 24
  holds : Table HoldSlot 64
  holdOrder : List Nat
  register : Register
  watch : Table WatchEntry 8
  tariff : Tariff
  till : Till
  clock : Clock
  edges : Edges
  retentionMark : Bool
  batteryFall : Bool
  -- settings and their store (R205, R206, R209)
  settings : Settings
  image : Image
  saving : Option Save
  -- not retained
  lanes : PerLane Intake
  ports : PerLink Port
  arbiter : Arbiter
  payTimer : Timer
  setPending : Option ClockSet
  -- the model's own fields
  freeIndex : Nat
  pending : List Instr
deriving DecidableEq, Repr

/-- The JT54 stops with no fault: the spec answers every request and gives every event an effect or none. Safe: nothing stops. -/
inductive Fault : Type
deriving DecidableEq, Repr

/-- Why a command has no meaning. -/
inductive Refusal where
  /-- Raised by an arm of `exec` whose command has no meaning yet (none is left). Safe: the machine stops. -/
  | notModelled (mnemonic : String)
deriving DecidableEq, Repr

/-- The class entry of every class after a cold start (R129). -/
def ClassEntry.cold : ClassEntry := ⟨false, 0, 100, 100, false, 64⟩

/-- Both banks after a cold start (R129). -/
def Bank.cold : Bank := ⟨Table.fill 16 ClassEntry.cold, 0⟩

/-- The tariff unit after a cold start (R129, R135). -/
def Tariff.cold : Tariff := ⟨Bank.cold, Bank.cold, .a, 0, 0, none⟩

/-- Every watch entry after a cold start (R91). -/
def WatchEntry.cold : WatchEntry := ⟨⟨false, .serial, 0, 0, .note, false, false, false⟩, false, 0, none, false⟩

/-- The register after a cold start: empty, with the cold guard active until the lockout has passed (R108, R126). -/
def Register.cold (lockout : Nat) : Register := ⟨[], 0, 0, some lockout⟩

/-- The image of a board that leaves the factory: invalid (R206). Its contents are the model's choice (log 17). -/
def Image.factory : Image := ⟨0xFF, Settings.default, 0⟩

/-- Right after the power-on reset of a board that has never run: the settings image is invalid, so the defaults are live and
SETTINGS_DEFAULT is raised; the retention mark did not hold, so the start is cold (R210), and the last steps of its clearing have written
the mark and cleared the latch (R212). The silent period lasts until END_OF_START_UP (log 1). -/
def State.reset : State where
  phase := .starting (.cold false)
  key := false
  batteryLow := false
  tickets := Table.fill 24 ⟨0, none⟩
  holds := Table.fill 64 ⟨0, none⟩
  holdOrder := []
  register := Register.cold 4320
  watch := Table.fill 8 WatchEntry.cold
  tariff := Tariff.cold
  till := ⟨0, 0⟩
  clock := ⟨0, 0, 0⟩
  edges := { Edges.none with retentionLost := true, settingsDefault := true }
  retentionMark := true
  batteryFall := false
  settings := Settings.default
  image := Image.factory
  saving := none
  lanes := PerLane.fill (Intake.start false 10)
  ports := PerLink.fill (Port.start 57600)
  arbiter := Arbiter.start
  payTimer := none
  setPending := none
  freeIndex := 0
  pending := []

end Sys2Proof.Machine
end

