-- ==== Sys2Proof/Machine/Ops.lean ====
section
/-! DEFINITION. The named operations every meaning shares: minute arithmetic, reading and changing the parts of the state, naming tickets and
holds, raising edge causes, the ports' outstanding and unsolicited lists, and the register arbiter. -/

namespace Sys2Proof.Machine

open Sys2Proof

/-- What a command answers. -/
abbrev Outcome := Host.Outcome State Fault Refusal

/-! ## Minutes and saturating counts -/

/-- The number of yard minutes: 20 bits (R176). -/
def minuteMod : Nat := 1048576

/-- `a` plus `b`, modulo 1,048,576. -/
def minuteAdd (a b : Nat) : Nat := (a + b) % minuteMod

/-- (a − b) mod 1,048,576 (R179). -/
def minuteDiff (a b : Nat) : Nat := (a + (minuteMod - b % minuteMod)) % minuteMod

/-- `a` is at or after `b` by the window rule (R179). -/
def atOrAfter (a b : Nat) : Bool := minuteDiff a b < 524288

/-- One more, stopping at `top`. -/
def bump (top n : Nat) : Nat := if n < top then n + 1 else top

/-! ## Reading and changing the state's parts -/

/-- Whether the links are open. -/
def State.running (s : State) : Bool := s.phase == .running

/-- The intake of a lane. -/
def State.lane (s : State) (n : Lane) : Intake := s.lanes.get n

/-- The port of a link. -/
def State.port (s : State) (l : Link) : Port := s.ports.get l

/-- One intake changed. -/
def State.modifyLane (s : State) (n : Lane) (f : Intake → Intake) : State := { s with lanes := s.lanes.modify n f }

/-- One port changed. -/
def State.modifyPort (s : State) (l : Link) (f : Port → Port) : State := { s with ports := s.ports.modify l f }

/-- The arbiter changed. -/
def State.modifyArbiter (s : State) (f : Arbiter → Arbiter) : State := { s with arbiter := f s.arbiter }

/-- The edge causes changed. -/
def State.modifyEdges (s : State) (f : Edges → Edges) : State := { s with edges := f s.edges }

/-- The supervisor key input as it stands when a request is taken (log 7). -/
def State.withKey (s : State) (key : Bool) : State := { s with key := key }

/-- The record in a slot of the ticket table, absent when the slot is FREE. -/
def State.ticketAt (s : State) (i : Fin 24) : Option Ticket := (s.tickets.get i).ticket

/-- The record in a slot changed; a FREE slot stays FREE. -/
def State.modifyTicket (s : State) (i : Fin 24) (f : Ticket → Ticket) : State :=
  { s with tickets := s.tickets.modify i (fun sl => { sl with ticket := sl.ticket.map f }) }

/-- The number of the ticket in slot index `i`: generation × 256 + slot number (R1). -/
def State.ticketNumber (s : State) (i : Fin 24) : Nat := (s.tickets.get i).generation * 256 + (i.val + 1)

/-- Which slot a number names, if it names a ticket (R1): its slot lies in 1..24, is not FREE, and has the number's generation. -/
def State.findTicket (s : State) (number : Nat) : Option (Fin 24) :=
  if h : 1 ≤ number % 256 ∧ number % 256 ≤ 24 then
    let i : Fin 24 := ⟨number % 256 - 1, by omega⟩
    if (s.ticketAt i).isSome && (s.tickets.get i).generation == number / 256 then some i else none
  else none

/-- The slot and record a number names. -/
def State.lookupTicket (s : State) (number : Nat) : Option (Fin 24 × Ticket) :=
  match s.findTicket number with
  | none => none
  | some i => match s.ticketAt i with
    | none => none
    | some t => some (i, t)

/-- The first FREE slot of the ticket table (R3). -/
def State.freeTicketSlot (s : State) : Option (Fin 24) :=
  (List.finRange 24).find? (fun i => (s.ticketAt i).isNone)

/-- The one ticket in PAYING (R157). -/
def State.payingTicket (s : State) : Option (Fin 24) :=
  (List.finRange 24).find? (fun i => match s.ticketAt i with | some t => t.state == .paying | none => false)

/-- Whether a record is OPEN or CLOSING, and so holds a bank reference (R2, R5). -/
def Ticket.counting (t : Ticket) : Bool := t.state == .opened || t.state == .closing

/-- The number of the hold in slot `i` (R81). -/
def State.holdNumber (s : State) (i : Fin 64) : Nat := (s.holds.get i).generation * 256 + i.val

/-- Which slot a number names, if it names a hold (R81). -/
def State.findHold (s : State) (number : Nat) : Option (Fin 64) :=
  if h : number % 256 < 64 then
    let i : Fin 64 := ⟨number % 256, h⟩
    if (s.holds.get i).hold.isSome && (s.holds.get i).generation == number / 256 then some i else none
  else none

/-- The slot and record a hold number names. -/
def State.lookupHold (s : State) (number : Nat) : Option (Fin 64 × Hold) :=
  match s.findHold number with
  | none => none
  | some i => match (s.holds.get i).hold with
    | none => none
    | some h => some (i, h)

/-- The first free slot of the hold pool (R81). -/
def State.freeHoldSlot (s : State) : Option (Fin 64) :=
  (List.finRange 64).find? (fun i => (s.holds.get i).hold.isNone)

/-- The bank a name gives. -/
def Tariff.bank (t : Tariff) : BankId → Bank
  | .a => t.bankA
  | .b => t.bankB

/-- The other bank. -/
def BankId.other : BankId → BankId
  | .a => .b
  | .b => .a

/-- A bank's reference count (R130). -/
def Tariff.refs (t : Tariff) : BankId → Nat
  | .a => t.refA
  | .b => t.refB

/-- One reference more on a bank (R5). -/
def Tariff.takeRef (t : Tariff) : BankId → Tariff
  | .a => { t with refA := t.refA + 1 }
  | .b => { t with refB := t.refB + 1 }

/-- One reference less on a bank (R5). -/
def Tariff.dropRef (t : Tariff) : BankId → Tariff
  | .a => { t with refA := t.refA - 1 }
  | .b => { t with refB := t.refB - 1 }

/-- The till's available amount (R157). -/
def Till.available (t : Till) : Nat := t.balance - t.reserved

/-! ## Edge causes (R197) -/

/-- CHECK_ERROR raised. -/
def State.raiseCheckError (s : State) : State := s.modifyEdges (fun e => { e with checkError := true })

/-- LANE_FAULT raised. -/
def State.raiseLaneFault (s : State) : State := s.modifyEdges (fun e => { e with laneFault := true })

/-- WATCH_HIT raised. -/
def State.raiseWatchHit (s : State) : State := s.modifyEdges (fun e => { e with watchHit := true })

/-- STRAY_ITEMS raised. -/
def State.raiseStrayItems (s : State) : State := s.modifyEdges (fun e => { e with strayItems := true })

/-- CHANGEOVER_DONE raised. -/
def State.raiseChangeoverDone (s : State) : State := s.modifyEdges (fun e => { e with changeoverDone := true })

/-- SETTINGS_DEFAULT raised. -/
def State.raiseSettingsDefault (s : State) : State := s.modifyEdges (fun e => { e with settingsDefault := true })

/-- SAVE_FAILED raised. -/
def State.raiseSaveFailed (s : State) : State := s.modifyEdges (fun e => { e with saveFailed := true })

/-! ## Answers and the part's own frames (R191 to R193) -/

/-- How many requests at the head of the outstanding list have had their answers made. -/
def Port.made (p : Port) : Nat := (p.outstanding.takeWhile (fun r => r.answer.isSome)).length

/-- Answers that have become ready join the order of ready frames: an answer is ready once every request ahead of it has had its
answer made (R192, R193). -/
def Port.refresh (p : Port) : Port :=
  { p with order := p.order ++ List.replicate (p.made - p.order.count .answer) .answer }

/-- A request joins the tail of the outstanding list (R191). -/
def Port.enqueue (kind tag : Nat) (p : Port) : Port := { p with outstanding := p.outstanding ++ [⟨kind, tag, none⟩] }

/-- The answer of the last request of a list. -/
def answerLast (a : Answer) : List Request → List Request
  | [] => []
  | [r] => [{ r with answer := some a }]
  | r :: rs => r :: answerLast a rs

/-- The answer of the oldest request of a KIND whose answer is not made (log 27). -/
def answerOldest (kind : Nat) (a : Answer) : List Request → List Request
  | [] => []
  | r :: rs => if r.kind = kind ∧ r.answer = none then { r with answer := some a } :: rs else r :: answerOldest kind a rs

/-- The answer to the request just taken. -/
def Port.reply (a : Answer) (p : Port) : Port := { p with outstanding := answerLast a p.outstanding }.refresh

/-- The answer to a request whose work is complete. -/
def Port.replyOldest (kind : Nat) (a : Answer) (p : Port) : Port :=
  { p with outstanding := answerOldest kind a p.outstanding }.refresh

/-- An unsolicited frame that verdict logic did not make: sent while the list holds fewer than 15 frames, else lost (R193). -/
def Port.sendOwn (f : OwnFrame) (p : Port) : Port :=
  if p.unsolicited.length < 15 then { p with unsolicited := p.unsolicited ++ [f], order := p.order ++ [.own] }
  else { p with lost := bump 65535 p.lost }

/-- A VERDICT of verdict logic, for which the last of the 16 places is kept (R193). -/
def Port.sendJudged (f : OwnFrame) (p : Port) : Port :=
  if p.unsolicited.length < 16 then { p with unsolicited := p.unsolicited ++ [f], order := p.order ++ [.own] }
  else { p with lost := bump 65535 p.lost }

/-- The answer to the request just taken on a link. -/
def State.reply (s : State) (l : Link) (a : Answer) : State := s.modifyPort l (Port.reply a)

/-- An answer that carries its result alone. -/
def State.replyCode (s : State) (l : Link) (r : Result) : State := s.reply l ⟨r, .empty⟩

/-- The answer to a request whose work is complete. -/
def State.replyOldest (s : State) (l : Link) (kind : Nat) (a : Answer) : State := s.modifyPort l (Port.replyOldest kind a)

/-- A frame of the intake's own on its lane link: none is made while the lane is DOWN (R51). -/
def State.sendOwn (s : State) (n : Lane) (f : OwnFrame) : State :=
  s.modifyPort (.lane n) (fun p => if (s.lane n).state = .down then p else p.sendOwn f)

/-- Whether frames that reach a link are taken: the links are open, and a lane link's lane is not DOWN (R37, R210). -/
def State.listening (s : State) : Link → Bool
  | .lane n => s.running && (s.lane n).state != .down
  | .k => s.running
  | .f => s.running

/-- A timer running for a number of seconds. -/
def seconds (n : Nat) : Timer := some (n * 1000)

/-- Whether the silence timer runs in a lane state (R62). -/
def LaneState.silenceRuns : LaneState → Bool
  | .down => false
  | .listen => false
  | _ => true

/-- A frame taken on K or F sets the link UP and restarts its silence timer, before its handling (R194). -/
def State.heardDesk (s : State) : Link → State
  | .lane _ => s
  | .k => s.modifyPort .k (fun p => { p with up := true, silence := seconds s.settings.silence })
  | .f => s.modifyPort .f (fun p => { p with up := true, silence := seconds s.settings.silence })

/-- A frame taken on a lane link restarts the lane's silence timer in the states where it runs, wherever the frame has put the lane (R62). -/
def State.heardLane (s : State) : Link → State
  | .lane n => s.modifyLane n (fun i =>
      if i.state.silenceRuns then { i with silenceTimer := seconds s.settings.silence } else i)
  | .k => s
  | .f => s

/-- A complete frame not taken because 32 requests are outstanding (R191). -/
def State.overflow (s : State) (l : Link) : State :=
  (s.modifyPort l (fun p => { p with overflow := bump 65535 p.overflow })).raiseCheckError

/-- Whether a port can take a frame: fewer than 32 requests outstanding (R191). -/
def State.hasRoom (s : State) (l : Link) : Bool := (s.port l).outstanding.length < 32

/-- A request frame reaches its port (R191): dropped when frames are not taken, counted as overflow when 32 requests are outstanding, else it
joins the outstanding list, its owner handles it, and its link has been heard. -/
def State.takeRequest (s : State) (l : Link) (kind tag : Nat) (handle : State → State) : State :=
  if s.listening l then
    if s.hasRoom l then (handle ((s.heardDesk l).modifyPort l (Port.enqueue kind tag))).heardLane l
    else s.overflow l
  else s

/-! ## The register arbiter (R110, R111) -/

/-- The position after one, in the cyclic order. -/
def Position.next : Position → Position
  | .lane .l0 => .lane .l1
  | .lane .l1 => .lane .l2
  | .lane .l2 => .office
  | .office => .sweep
  | .sweep => .lane .l0

/-- The five positions in the order they are looked at after `p` was served. -/
def Position.rotation (p : Position) : List Position :=
  [p.next, p.next.next, p.next.next.next, p.next.next.next.next, p]

/-- Whether a position has an operation waiting. -/
def Arbiter.waits (a : Arbiter) : Position → Bool
  | .lane n => a.lanes.mem n
  | .office => !a.office.isEmpty
  | .sweep => !a.sweeps.isEmpty

/-- The oldest operation of a position goes into service. -/
def Arbiter.serve (a : Arbiter) : Position → Arbiter
  | .lane n => { a with serving := some (.verdict n), lanes := a.lanes.drop n, last := .lane n }
  | .office => match a.office with
    | [] => { a with serving := none }
    | op :: rest => { a with serving := some (.office op), office := rest, last := .office }
  | .sweep => match a.sweeps with
    | [] => { a with serving := none }
    | op :: rest => { a with serving := some (.sweep op), sweeps := rest, last := .sweep }

/-- The next position with an operation waiting is served, or none is (R110). -/
def Arbiter.rotate (a : Arbiter) : Arbiter :=
  match a.last.rotation.find? a.waits with
  | some p => a.serve p
  | none => { a with serving := none }

/-- An idle register serves what waits at once. -/
def Arbiter.settle (a : Arbiter) : Arbiter := if a.serving.isNone then a.rotate else a

/-- A verdict operation waits at its lane's position, or is served at once (R109, R110). -/
def Arbiter.raiseVerdict (n : Lane) (a : Arbiter) : Arbiter := { a with lanes := a.lanes.add n }.settle

/-- An office-side operation waits, or is served at once. -/
def Arbiter.raiseOffice (op : OfficeOp) (a : Arbiter) : Arbiter := { a with office := a.office ++ [op] }.settle

/-- Operations of the sweep position wait, or the first is served at once. -/
def Arbiter.raiseSweeps (ops : List SweepOp) (a : Arbiter) : Arbiter := { a with sweeps := a.sweeps ++ ops }.settle

/-- Whether the office-side queue has room: it holds up to 16 waiting operations (R110; log 9). -/
def Arbiter.officeRoom (a : Arbiter) : Bool := a.office.length < 16

/-- The operation in service has completed: a waiting rebase is served before any waiting operation, else the rotation goes on (R110, R111). -/
def State.completeOperation (s : State) : State :=
  if s.setPending.isSome then s.modifyArbiter (fun a => { a with serving := some .rebase })
  else s.modifyArbiter (fun a => { a with serving := none }.rotate)

/-- A request raises an office-side operation, or is refused BUSY when it would be the seventeenth waiting (R110). -/
def State.raiseOrBusy (s : State) (l : Link) (op : OfficeOp) : State :=
  if s.arbiter.officeRoom then s.modifyArbiter (Arbiter.raiseOffice op) else s.replyCode l .busy

end Sys2Proof.Machine
end

