-- ==== Sys2Proof/Machine/Flags.lean ====
section
/-! DEFINITION. Attention and outputs: the level conditions (R198), the pending set, its highest cause (R196, R199), the ATTN output and the
LEDs (R200, R201). -/

namespace Sys2Proof.Machine

open Sys2Proof

/-- Whether some ticket's record satisfies a test. -/
def State.anyTicket (s : State) (test : Ticket → Bool) : Bool :=
  s.tickets.cells.any (fun sl => match sl.ticket with | some t => test t | none => false)

/-- At least one ticket is in DOUBT (R170). -/
def State.doubtStands (s : State) : Bool := s.anyTicket (fun t => t.state == .doubt)

/-- At least one ticket in OPEN or CLOSING has RECOUNT set (R10). -/
def State.recountStands (s : State) : Bool := s.anyTicket (fun t => t.counting && t.flags.recount)

/-- The pool holds at least one hold (R81). -/
def State.holdWaits (s : State) : Bool := s.holds.cells.any (fun sl => sl.hold.isSome)

/-- The available amount is below the till low mark (R161). -/
def State.tillLowStands (s : State) : Bool := s.till.available < s.settings.tillLow

/-- The register holds 3,840 entries or more (R125). -/
def State.registerHigh (s : State) : Bool := 3840 ≤ s.register.entryCount

/-- Whether a cause is in the pending set (R197, R198). -/
def State.isPending (s : State) : Attention → Bool
  | .doubt => s.doubtStands
  | .retentionLost => s.edges.retentionLost
  | .settingsDefault => s.edges.settingsDefault
  | .recount => s.recountStands
  | .watchHit => s.edges.watchHit
  | .holdWaiting => s.holdWaits
  | .laneFault => s.edges.laneFault
  | .checkError => s.edges.checkError
  | .strayItems => s.edges.strayItems
  | .tillLow => s.tillLowStands
  | .registerHigh => s.registerHigh
  | .changeoverDone => s.edges.changeoverDone
  | .saveFailed => s.edges.saveFailed

/-- The causes in priority order, highest first (R196). -/
def Attention.all : List Attention :=
  [.doubt, .retentionLost, .settingsDefault, .recount, .watchHit, .holdWaiting, .laneFault, .checkError, .strayItems, .tillLow,
   .registerHigh, .changeoverDone, .saveFailed]

/-- The pending set, in priority order. -/
def State.pendingCauses (s : State) : List Attention := Attention.all.filter s.isPending

/-- The ATTN output: active while the pending set is not empty, held inactive during the silent period (R200). -/
def State.attn (s : State) : Bool := s.running && !s.pendingCauses.isEmpty

/-- Whether a lane state is a counting state. -/
def LaneState.counts : LaneState → Bool
  | .counting => true
  | .sensed => true
  | .muted => true
  | _ => false

/-- The green LED of a lane (R201). -/
def State.laneLed (s : State) (n : Lane) : Bool := s.running && (s.lane n).state.counts

/-- The green LED of K or F (R201); a lane's is `laneLed`. -/
def State.linkLed (s : State) : Link → Bool
  | .lane n => s.laneLed n
  | .k => s.running && (s.port .k).up
  | .f => s.running && (s.port .f).up

/-- The BATT LED: lit with supply applied while the cell is below its working voltage (R201, R204). -/
def State.battLed (s : State) : Bool := s.phase != .off && s.batteryLow

end Sys2Proof.Machine
end

