-- ==== Sys2Proof/Machine/Pricing.lean ====
section
/-! DEFINITION. The pricing unit (chapter 8) and the pricing event (R13, R145). -/

namespace Sys2Proof.Machine

open Sys2Proof

/-- The index of `count[c][g][o]` (R8, R217). SCRAP has no line; its index is not used. -/
def lineIndex (c : Fin 16) (g : Grade) (o : Ownership) : Fin 64 :=
  ⟨4 * c.val + 2 * (match g with | .full => 0 | .worn => 1 | .scrap => 0) + (match o with | .own => 0 | .foreign => 1), by
    have := c.isLt
    cases g <;> cases o <;> simp <;> omega⟩

/-- A counter of a ticket: a line's, or the class's scrap count whatever the ownership (R8). -/
def Ticket.counter (t : Ticket) (c : Fin 16) (g : Grade) (o : Ownership) : Nat :=
  match g with
  | .scrap => t.scrap.get c
  | .full => t.counts.get (lineIndex c .full o)
  | .worn => t.counts.get (lineIndex c .worn o)

/-- A counter of a ticket set. -/
def Ticket.setCounter (t : Ticket) (c : Fin 16) (g : Grade) (o : Ownership) (v : Nat) : Ticket :=
  match g with
  | .scrap => { t with scrap := t.scrap.set c v }
  | .full => { t with counts := t.counts.set (lineIndex c .full o) v }
  | .worn => { t with counts := t.counts.set (lineIndex c .worn o) v }

/-- Whether adding a quantity to a counter would carry it beyond 65,535 (R8). -/
def Ticket.saturates (t : Ticket) (c : Fin 16) (g : Grade) (o : Ownership) (q : Nat) : Bool := 65535 < t.counter c g o + q

/-- A quantity added to a counter, held at 65,535 with COUNT_SATURATED set (R8, R77). -/
def Ticket.addCount (t : Ticket) (c : Fin 16) (g : Grade) (o : Ownership) (q : Nat) : Ticket :=
  let t' := t.setCounter c g o (min 65535 (t.counter c g o + q))
  { t' with flags := { t'.flags with countSaturated := t'.flags.countSaturated || t.saturates c g o q } }

/-- The value of a line: its product, rounded once to the nearest minor unit, halves up (R147, R149). -/
def lineValue (n d gp op : Nat) : Nat := (n * d * gp * op + 5000) / 10000

/-- The four lines of a class; a class not open is worth 0 (R147, R148). -/
def classValue (e : ClassEntry) (t : Ticket) (c : Fin 16) : Nat :=
  if e.isOpen then
    lineValue (t.counter c .full .own) e.deposit 100 100 + lineValue (t.counter c .full .foreign) e.deposit 100 e.pool
      + lineValue (t.counter c .worn .own) e.deposit e.worn 100 + lineValue (t.counter c .worn .foreign) e.deposit e.worn e.pool
  else 0

/-- The exact sum of the 64 line values (R150). -/
def lineSum (b : Bank) (t : Ticket) : Nat :=
  ((List.finRange 16).map (fun c => classValue (b.classes.get c) t c)).sum

/-- The largest amount (00 CONVENTIONS). -/
def maxAmount : Nat := 99999999

/-- The cash quote of a net (R152, R153). -/
def cashQuote (allowed : Bool) (step cap net : Nat) : Nat := if allowed then min net cap / step * step else 0

/-- The priced record (R150 to R155). -/
def priceTicket (b : Bank) (step cap : Nat) (t : Ticket) : PricedRecord :=
  let gross := min maxAmount (lineSum b t)
  let fee := min gross b.fee
  let net := gross - fee
  let cash := cashQuote t.cashAllowed step cap net
  ⟨gross, fee, net, cash, net - cash, step, cap⟩

/-- Whether the gross is held at its limit (R150). -/
def grossClamped (b : Bank) (t : Ticket) : Bool := maxAmount < lineSum b t

/-- The pricing condition on a record (R13): CLOSING, no lane listed, no hold outstanding, RECOUNT clear. -/
def Ticket.clearToPrice (t : Ticket) : Bool :=
  t.state == .closing && t.lanes.card == 0 && t.holds == 0 && !t.flags.recount

/-- A record as the pricing event leaves it (R13, R145). -/
def Ticket.priceWith (b : Bank) (step cap : Nat) (t : Ticket) : Ticket :=
  { t with
    state := .priced
    priced := some (priceTicket b step cap t)
    flags := { t.flags with totalClamped := t.flags.totalClamped || grossClamped b t } }

/-- The pricing test (R13): a CLOSING ticket whose conditions are all clear is priced from its stamped bank and its reference is released, in one
step (R145). -/
def State.priceTest (s : State) (i : Fin 24) : State :=
  match s.ticketAt i with
  | none => s
  | some t =>
    if t.clearToPrice then
      { s.modifyTicket i (Ticket.priceWith (s.tariff.bank t.bank) s.settings.cashStep s.settings.cashCap) with
        tariff := s.tariff.dropRef t.bank }
    else s

end Sys2Proof.Machine
end

