-- ==== Sys2Proof/Machine/Intake.lean ====
section
/-! DEFINITION. Lane intake (chapter 2): batches and their release, the queue and flow marks, entry to DOWN and REFUSED, and the commands
ITEM, BIND, UNBIND, MUTE_RELEASE, BURST_WINDOW_RESTART, GATE_INPUT_CHANGE and GATE_EDGE. -/

namespace Sys2Proof.Machine

open Sys2Proof

/-! ## Batches -/

/-- Whether a batch is active: not yet closed (R26). -/
def Batch.active (b : Batch) : Bool := b.reason.isNone

/-- The lane's active batch. -/
def Intake.activeBatch (i : Intake) : Option Batch := i.batch.filter Batch.active

/-- Whether the batch fails reconciliation (R44). -/
def reconcileFails (tolerance : Nat) (b : Batch) : Bool :=
  let allowed := if b.mode = some .tally then 0 else tolerance
  decide (allowed < b.gate - b.frames) || decide (allowed < b.frames - b.gate) || b.gap
    || b.reason == some .down || b.reason == some .refused

/-- A batch release reaches the ticket (R7): RECOUNT on failure, the lane removed, then the pricing test when CLOSING. A number that names no
ticket, or a ticket that does not list the lane, is left as it stands. -/
def State.ticketRelease (s : State) (n : Lane) (number : Nat) (failed : Bool) : State :=
  match s.lookupTicket number with
  | none => s
  | some (i, t) =>
    if t.lanes.mem n then
      (s.modifyTicket i (fun t =>
        { t with lanes := t.lanes.drop n, flags := { t.flags with recount := t.flags.recount || failed } })).priceTest i
    else s

/-- A batch is released (R43): reconciled, handed to its ticket, reported by UNBOUND unless the link is lost, and dropped. -/
def State.releaseBatch (s : State) (n : Lane) (lost : Bool) : State :=
  match (s.lane n).batch with
  | none => s
  | some b =>
    let failed := reconcileFails s.settings.tolerance b
    let s1 := s.ticketRelease n b.ticket failed
    let s2 := match b.reason with
      | none => s1
      | some .down => s1
      | some r => if lost then s1 else s1.sendOwn n (.unbound b.ticket r b.boundAt b.gate b.frames failed)
    s2.modifyLane n (fun i => { i with batch := none })

/-- Whether an entry belongs to the batch of a ticket. -/
def Entry.ofBatch (ticket : Nat) (e : Entry) : Bool := e.ticket == some ticket

/-- The last entry of a list that satisfies a test, marked. -/
def markLast (test : Entry → Bool) : List Entry → List Entry
  | [] => []
  | e :: es =>
    if es.any test then e :: markLast test es
    else if test e then { e with batchEnd := true } :: es
    else e :: es

/-- Whether the intake holds an entry of the batch (R40). -/
def Intake.holdsEntryOf (i : Intake) (ticket : Nat) : Bool :=
  i.queue.any (Entry.ofBatch ticket) || i.landing.any (Entry.ofBatch ticket)

/-- The batch-end mark set on the last entry of the batch to arrive (R40, R41). -/
def Intake.markBatchEnd (i : Intake) (ticket : Nat) : Intake :=
  if i.landing.any (Entry.ofBatch ticket) then { i with landing := i.landing.map (fun e => { e with batchEnd := true }) }
  else { i with queue := markLast (Entry.ofBatch ticket) i.queue }

/-- A batch is closed (R40); one already closed, or none, is left as it stands. -/
def State.closeBatch (s : State) (n : Lane) (why : CloseReason) : State :=
  match (s.lane n).activeBatch with
  | none => s
  | some b =>
    let s1 := s.modifyLane n (fun i => { i with batch := some { b with reason := some why } })
    if (s.lane n).holdsEntryOf b.ticket then s1.modifyLane n (fun i => i.markBatchEnd b.ticket)
    else s1.releaseBatch n false

/-! ## Entry to DOWN and REFUSED -/

/-- What entry to DOWN leaves of an intake, after its batch is closed (R47, R51). -/
def Intake.goDown (i : Intake) : Intake :=
  { i with
    state := .down
    queue := i.queue.map (fun e => { e with lostLink := true })
    landing := i.landing.map (fun e => { e with lostLink := true })
    slow := false
    muteTimer := none
    former := none
    resolved := none
    lastSequence := none
    origin := none
    lastOffer := none
    refusal := none
    offerCount := 0
    senseCheck := false
    silenceTimer := none
    breakTimer := seconds 2 }

/-- A lane enters DOWN, other than at a start (R51). -/
def State.enterDown (s : State) (n : Lane) : State :=
  ((s.closeBatch n .down).modifyLane n Intake.goDown).raiseLaneFault

/-- A lane enters REFUSED (R61). -/
def State.enterRefused (s : State) (n : Lane) (why : RefusalReason) : State :=
  (s.modifyLane n (fun i =>
    { i with state := .refused, refusal := some why, resolved := none, origin := none, former := none, senseCheck := false })).raiseLaneFault

/-! ## The queue and the flow marks -/

/-- The flow test after an insertion (R34); none is made while the lane is DOWN (log 19). -/
def State.flowAfterInsertion (s : State) (n : Lane) : State :=
  let i := s.lane n
  if i.state ≠ .down ∧ i.slow = false ∧ s.settings.highMark ≤ i.queue.length then
    (s.sendOwn n (.flow true)).modifyLane n (fun i => { i with slow := true })
  else s

/-- The flow test after a removal (R34). -/
def State.flowAfterRemoval (s : State) (n : Lane) : State :=
  let i := s.lane n
  if i.state ≠ .down ∧ i.slow = true ∧ i.queue.length + 4 ≤ s.settings.highMark then
    (s.sendOwn n (.flow false)).modifyLane n (fun i => { i with slow := false })
  else s

/-- The queue after its head is removed: the landing entry joins the tail (R33). -/
def Intake.removeHead (i : Intake) : Intake :=
  { i with queue := i.queue.tail ++ i.landing.toList, landing := none, inHand := false }

/-- The head entry, completed, is removed (R33): the landing entry moves in, the flow marks are tested, and a marked entry releases its batch. -/
def State.removeHead (s : State) (n : Lane) (e : Entry) : State :=
  let moved := (s.lane n).landing.isSome
  let s1 := s.modifyLane n Intake.removeHead
  let s2 := if moved then s1.flowAfterInsertion n else s1
  let s3 := s2.flowAfterRemoval n
  if e.batchEnd then s3.releaseBatch n e.lostLink else s3

/-- A refusal at once (R28): a VERDICT REFUSE with the one cause, subject to R193. -/
def State.refuseAtOnce (s : State) (n : Lane) (sequence : Nat) (why : Cause) : State :=
  s.sendOwn n (.verdict ⟨sequence, .refuse, some why, [why], 0xFFFF, false⟩)

/-- The MALFORMED detail of an item in a lane's resolved mode (R31). -/
def malformedDetail (mode : Option Mode) (it : Item) : Malformed where
  classHigh := match it.cls with | some c => decide (15 < c) | none => false
  gradeHigh := decide (2 < it.grade)
  quantity := it.quantity == 0 || decide (64 < it.quantity)
  serialQuantity := it.serial != 0 && it.quantity != 1
  classAbsent := it.cls.isNone && (mode == some .serial || mode == some .cls)

/-- Whether the MALFORMED detail holds anything. -/
def Malformed.any (m : Malformed) : Bool := m.classHigh || m.gradeHigh || m.quantity || m.serialQuantity || m.classAbsent

/-- The entry an item makes (R27, R28 step 6, R64). -/
def Intake.entryFor (i : Intake) (it : Item) : Entry :=
  ⟨it, i.activeBatch.map Batch.ticket, i.resolved, malformedDetail i.resolved it, false, false⟩

/-- The landing entry is refused OVERRUN and the new entry takes the slot (R32). A marked entry's batch-end mark passes to the tail of the
queue when that entry belongs to the batch, and otherwise the batch is released at once (R41). No VERDICT is sent for an entry with the
lost-link mark (log 18). -/
def State.overrun (s : State) (n : Lane) (old new : Entry) : State :=
  let s1 := if old.lostLink then s else s.refuseAtOnce n old.item.sequence .overrun
  let s2 := s1.modifyLane n (fun i => { i with landing := some new })
  if old.batchEnd then
    match (s.lane n).batch with
    | none => s2
    | some b =>
      if (s.lane n).queue.getLast?.any (Entry.ofBatch b.ticket) then
        s2.modifyLane n (fun i => { i with queue := markLast (Entry.ofBatch b.ticket) i.queue })
      else s2.releaseBatch n old.lostLink
  else s2

/-- An entry is placed in the queue or the landing slot (R32). -/
def State.placeEntry (s : State) (n : Lane) (e : Entry) : State :=
  if (s.lane n).queue.length < 16 then
    (s.modifyLane n (fun i => { i with queue := i.queue ++ [e] })).flowAfterInsertion n
  else
    match (s.lane n).landing with
    | none => s.modifyLane n (fun i => { i with landing := some e })
    | some old => s.overrun n old e

/-! ## ITEM -/

/-- The outcome of the sequence check (R29). -/
inductive SequenceCheck where
  | normal | stale | gap
deriving DecidableEq, Repr

/-- The sequence check (R29). -/
def checkSequence (last : Option Nat) (q : Nat) : SequenceCheck :=
  match last with
  | none => .normal
  | some l =>
    let d := (q + (65536 - l % 65536)) % 65536
    if d = 1 then .normal else if d = 0 ∨ 32770 ≤ d then .stale else .gap

/-- Step 1 of R28: the burst window count, the mute release timer, and entry to MUTED (R35, R36). -/
def State.itemBurst (s : State) (n : Lane) : State :=
  let i := s.lane n
  let count := bump 255 i.burst
  if i.state = .muted then s.modifyLane n (fun i => { i with burst := count, muteTimer := seconds 1 })
  else if s.settings.burst < count then
    (s.modifyLane n (fun i =>
      { i with burst := count, former := some i.state, state := .muted, muteTimer := seconds 1 })).raiseLaneFault
  else s.modifyLane n (fun i => { i with burst := count })

/-- Steps 3 and 4 of R28: the last sequence, the gap flag and the frame count of an active batch. -/
def Intake.countItem (i : Intake) (q : Nat) (gap : Bool) : Intake :=
  { i with
    lastSequence := some q
    batch := i.batch.map (fun b =>
      if b.active then { b with gap := b.gap || gap, frames := bump 65535 b.frames } else b) }

/-- An ITEM taken in a counting state (R28). -/
def State.handleItem (s : State) (n : Lane) (it : Item) : State :=
  let s1 := s.itemBurst n
  match checkSequence (s1.lane n).lastSequence it.sequence with
  | .stale => s1.refuseAtOnce n it.sequence .stale
  | c =>
    let s2 := s1.modifyLane n (fun i => i.countItem it.sequence (c == .gap))
    if (s2.lane n).state = .muted then s2.refuseAtOnce n it.sequence .laneMuted
    else s2.placeEntry n ((s2.lane n).entryFor it)

/-- The mode sensing chooses for an item (R58). -/
def sensedMode (advertised : ModeSet) (it : Item) : Option Mode :=
  if it.cls.isSome && advertised.cls then some .cls
  else if advertised.tally then some .tally
  else none

/-- A lane enters SENSED (R58); its silence timer starts as the frame is heard. -/
def Intake.enterSensed (i : Intake) (m : Mode) : Intake :=
  { i with state := .sensed, resolved := some m, origin := some .sensed, lastSequence := none, senseCheck := true }

/-- An ITEM taken in LISTEN starts sensing (R58). -/
def State.senseItem (s : State) (n : Lane) (it : Item) : State :=
  match sensedMode (s.settings.modes.get n) it with
  | some m => (s.modifyLane n (fun i => i.enterSensed m)).handleItem n it
  | none => (s.enterRefused n .noCommonMode).refuseAtOnce n it.sequence .notCounting

/-- The second item after sensing is checked against the sensed mode (R59). -/
def State.checkSensed (s : State) (n : Lane) (it : Item) : State :=
  if sensedMode (s.settings.modes.get n) it = (s.lane n).resolved ∧ (s.lane n).resolved ≠ none then
    (s.modifyLane n (fun i => { i with senseCheck := false })).handleItem n it
  else ((s.closeBatch n .refused).enterRefused n .senseFault).refuseAtOnce n it.sequence .notCounting

/-- An ITEM by the lane state (R37). -/
def State.itemByState (s : State) (n : Lane) (it : Item) : State :=
  match (s.lane n).state with
  | .down => s
  | .listen => s.senseItem n it
  | .offering => s.refuseAtOnce n it.sequence .notCounting
  | .acking => s.refuseAtOnce n it.sequence .notCounting
  | .refused => s.refuseAtOnce n it.sequence .notCounting
  | .counting => s.handleItem n it
  | .muted => s.handleItem n it
  | .sensed => if (s.lane n).senseCheck then s.checkSensed n it else s.handleItem n it

/-- An ITEM frame reaches its port (R191): it is no request, joins no list and receives no answer. -/
def State.takeItem (s : State) (n : Lane) (it : Item) : State :=
  if s.listening (.lane n) then
    if s.hasRoom (.lane n) then (s.itemByState n it).heardLane (.lane n) else s.overflow (.lane n)
  else s

/-- ITEM (R28). -/
def execItem (n : Lane) (it : Item) (s : State) : Outcome := .next (s.takeItem n it)

/-! ## BIND and UNBIND -/

/-- The batch record a taken BIND makes (R38). -/
def Intake.newBatch (i : Intake) (ticket minute : Nat) : Batch := ⟨ticket, i.resolved, minute, 0, 0, false, none⟩

/-- The ticket table's part of a BIND (R38 tests 4 to 7, R6). -/
def State.bindTicket (s : State) (n : Lane) (ticket : Nat) : State :=
  match s.lookupTicket ticket with
  | none => s.replyCode (.lane n) .noSuchTicket
  | some (i, t) =>
    if t.state ≠ .opened then s.replyCode (.lane n) .wrongState
    else if 2 ≤ t.lanes.card then s.replyCode (.lane n) .ticketBusy
    else
      ((s.modifyTicket i (fun t => { t with lanes := t.lanes.add n })).modifyLane n (fun i =>
        { i with batch := some (i.newBatch ticket s.clock.minute) })).reply (.lane n) ⟨.bound, .bound ticket⟩

/-- A BIND taken (R37, R38). -/
def State.handleBind (s : State) (n : Lane) (ticket : Nat) : State :=
  if (s.lane n).state.counts then
    match (s.lane n).batch with
    | some b =>
      if b.active = false then s.replyCode (.lane n) .busy
      else if b.ticket = ticket then s.reply (.lane n) ⟨.bound, .bound ticket⟩
      else s.replyCode (.lane n) .busy
    | none => s.bindTicket n ticket
  else s.replyCode (.lane n) .notCounting

/-- BIND (R38). -/
def execBind (n : Lane) (tag ticket : Nat) (s : State) : Outcome :=
  .next (s.takeRequest (.lane n) 0x03 tag (fun s => s.handleBind n ticket))

/-- An UNBIND taken (R37, R39): the OK goes out ahead of the UNBOUND of a release at once. -/
def State.handleUnbind (s : State) (n : Lane) : State :=
  if (s.lane n).state.counts then
    match (s.lane n).batch with
    | none => s.replyCode (.lane n) .wrongState
    | some b => if b.active then (s.replyCode (.lane n) .ok).closeBatch n .unbind else s.replyCode (.lane n) .ok
  else s.replyCode (.lane n) .notCounting

/-- UNBIND (R39). -/
def execUnbind (n : Lane) (tag : Nat) (s : State) : Outcome :=
  .next (s.takeRequest (.lane n) 0x04 tag (fun s => s.handleUnbind n))

/-! ## Mute, burst window and gate -/

/-- The mute release timer expires (R36); a stopped timer does not. -/
def execMuteRelease (n : Lane) (s : State) : Outcome :=
  .next (s.modifyLane n (fun i =>
    match i.muteTimer, i.former with
    | some _, some st => { i with state := st, former := none, muteTimer := none }
    | _, _ => i))

/-- A second boundary of the sub-minute timebase restarts every burst window (R35). -/
def execBurstWindowRestart (s : State) : Outcome :=
  .next (if s.running then { s with lanes := s.lanes.map (fun i => { i with burst := 0 }) } else s)

/-- A gate input takes a level (R45): away from the recognised level it becomes the candidate, back to it the candidate is dropped. While no
level is recognised yet, the level found becomes the candidate. Without supply only the input changes. -/
def Intake.gateChange (i : Intake) (powered : Bool) (filter : Nat) (broken : Bool) : Intake :=
  if i.gateLevel = broken then i
  else
    let i := { i with gateLevel := broken }
    if powered then
      if i.recognised = some broken then { i with candidate := none } else { i with candidate := some ⟨broken, filter⟩ }
    else i

/-- GATE_INPUT_CHANGE (R45). The filter time is read at the change. -/
def execGateInputChange (n : Lane) (broken : Bool) (s : State) : Outcome :=
  .next (s.modifyLane n (fun i => i.gateChange (s.phase != .off) s.settings.gateFilter broken))

/-- A gate edge is counted where the lane stands (R46). -/
def State.countEdge (s : State) (n : Lane) : State :=
  match (s.lane n).activeBatch with
  | some b => s.modifyLane n (fun i => { i with batch := some { b with gate := bump 65535 b.gate } })
  | none => (s.modifyLane n (fun i => { i with stray := bump 65535 i.stray })).raiseStrayItems

/-- A candidate level has held for the filter time and is recognised; a change from clear to broken is a gate edge (R45, R46). No edge is counted
for the first level recognised, nor during the silent period (R48, R210). -/
def State.recogniseGate (s : State) (n : Lane) : State :=
  match (s.lane n).candidate with
  | none => s
  | some c =>
    let s1 := s.modifyLane n (fun i => { i with recognised := some c.broken, candidate := none })
    if (s.lane n).recognised = some false ∧ c.broken = true ∧ s.running then s1.countEdge n else s1

/-- GATE_EDGE (R46). -/
def execGateEdge (n : Lane) (s : State) : Outcome :=
  .next (if s.phase = .off then s else s.recogniseGate n)

end Sys2Proof.Machine
end

