-- ==== Sys2Proof/Machine/Operands.lean ====
section
/-! DEFINITION. Operand codes and ranges: what a coded field stands for (R215, R216), and how a setting's value is brought into range (R207). -/

namespace Sys2Proof.Machine

open Sys2Proof

/-- A yes-or-no byte (R215). -/
def yesNo (n : Nat) : Option Bool :=
  match n with
  | 0 => some false
  | 1 => some true
  | _ => none

/-- FULL 0, WORN 1, SCRAP 2. -/
def gradeOfCode (n : Nat) : Option Grade :=
  match n with
  | 0 => some .full
  | 1 => some .worn
  | 2 => some .scrap
  | _ => none

/-- OWN 0, FOREIGN 1. -/
def ownershipOfCode (n : Nat) : Option Ownership :=
  match n with
  | 0 => some .own
  | 1 => some .foreign
  | _ => none

/-- The RELEASE verdict: ACCEPT 0, REFUSE 2. -/
def releaseVerdict (n : Nat) : Option Verdict :=
  match n with
  | 0 => some .accept
  | 2 => some .refuse
  | _ => none

/-- The amended grade of a RELEASE: a grade, or 0xFF for none. The outer option is the form check. -/
def amendedGrade (n : Nat) : Option (Option Grade) :=
  match n with
  | 0 => some (some .full)
  | 1 => some (some .worn)
  | 2 => some (some .scrap)
  | 255 => some none
  | _ => none

/-- Bank A 0, B 1. -/
def bankOfCode (n : Nat) : Option BankId :=
  match n with
  | 0 => some .a
  | 1 => some .b
  | _ => none

/-- A class 0..15. -/
def classIndex (n : Nat) : Option (Fin 16) := if h : n < 16 then some ⟨n, h⟩ else none

/-- A watch entry 0..7. -/
def watchIndex (n : Nat) : Option (Fin 8) := if h : n < 8 then some ⟨n, h⟩ else none

/-- A lane 0..2. -/
def laneOfNumber (n : Nat) : Option Lane :=
  match n with
  | 0 => some .l0
  | 1 => some .l1
  | 2 => some .l2
  | _ => none

/-- SERIAL 0, OWNER 1, ACCOUNT 2, CLASS 3. -/
def watchFieldOfCode (n : Nat) : Option WatchField :=
  match n with
  | 0 => some .serial
  | 1 => some .owner
  | 2 => some .account
  | 3 => some .cls
  | _ => none

/-- NOTE 0, HOLD 1, VOID 2. -/
def watchActionOfCode (n : Nat) : Option WatchAction :=
  match n with
  | 0 => some .note
  | 1 => some .hold
  | 2 => some .void
  | _ => none

/-- The largest value of a watch entry's field (R90). -/
def WatchField.top : WatchField → Nat
  | .serial => 4294967295
  | .owner => 255
  | .account => 999999
  | .cls => 15

/-- The form check of a WATCH_WRITE rule (R100, R215): every coded field in its coding, the value in the range of its field, the block exponent
at most 20. -/
def ruleOfRaw (r : RawRule) : Option WatchRule :=
  match yesNo r.enabled, watchFieldOfCode r.field, watchActionOfCode r.action, yesNo r.oneShot, yesNo r.chain, yesNo r.supervisor with
  | some en, some fi, some ac, some os, some ch, some su =>
      if r.value ≤ fi.top ∧ r.exponent ≤ 20 then some ⟨en, fi, r.value, r.exponent, ac, os, ch, su⟩ else none
  | _, _, _, _, _, _ => none

/-- The link a link-speed index names (R219). -/
def linkOfIndex (n : Nat) : Option Link :=
  match n with
  | 0 => some (.lane .l0)
  | 1 => some (.lane .l1)
  | 2 => some (.lane .l2)
  | 3 => some .k
  | 4 => some .f
  | _ => none

/-- A value brought into a range of numbers (R207). -/
def clampTo (low high v : Nat) : Nat := max low (min high v)

/-- The largest permitted value not above `v`, or the smallest when `v` is below all: `allowed` stands in rising order after `least` (R207). -/
def largestNotAbove (least : Nat) (allowed : List Nat) (v : Nat) : Nat :=
  allowed.foldl (fun best a => if a ≤ v then a else best) least

/-- The gate filter: a range end outside 2..40, the next lower even number when odd (R207). -/
def clampFilter (v : Nat) : Nat := let c := clampTo 2 40 v; c - c % 2

/-- Which settings a SETTINGS_WRITE changes, and the value stored: absent when it is refused MALFORMED (R207, R219). -/
def Settings.write (st : Settings) (identifier index value : Nat) : Option (Settings × Nat) :=
  match identifier with
  | 0 => match linkOfIndex index with
    | some l => let v := largestNotAbove 19200 [57600, 115200] value; some ({ st with speed := st.speed.modify l (fun _ => v) }, v)
    | none => none
  | 1 => match laneOfNumber index with
    | some n =>
        if value > 7 then none
        else let v := if value = 0 then 7 else value
          some ({ st with modes := st.modes.modify n (fun _ => ModeSet.ofCode v) }, v)
    | none => none
  | 2 => let v := clampTo 1 30 value; some ({ st with silence := v }, v)
  | 3 => let v := clampTo 8 120 value; some ({ st with burst := v }, v)
  | 4 => let v := clampFilter value; some ({ st with gateFilter := v }, v)
  | 5 => let v := clampTo 0 3 value; some ({ st with tolerance := v }, v)
  | 6 => let v := largestNotAbove 4 [8, 12, 16] value; some ({ st with highMark := v }, v)
  | 7 => let v := clampTo 1 255 value; some ({ st with ownCode := v }, v)
  | 8 => let v := clampTo 10 1440 value; some ({ st with ticketLife := v }, v)
  | 9 => let v := clampTo 5 1440 value; some ({ st with holdTime := v }, v)
  | 10 => let v := min st.retention (clampTo 60 20160 value); some ({ st with lockout := v }, v)
  | 11 => let v := max st.lockout (min 262143 value); some ({ st with retention := v }, v)
  | 12 => let v := clampTo 5 120 value; some ({ st with payTimeout := v }, v)
  | 13 => let v := largestNotAbove 1 [5, 10, 20, 50, 100] value; some ({ st with cashStep := v }, v)
  | 14 => let v := clampTo 0 1000000 value; some ({ st with cashCap := v }, v)
  | 15 => let v := clampTo 0 10000000 value; some ({ st with tillLow := v }, v)
  | _ => none

end Sys2Proof.Machine
end

