-- ==== Sys2Proof/Machine/Negotiation.lean ====
section
/-! DEFINITION. Lane negotiation (chapter 3): OFFER, LANE_SILENCE_EXPIRY, BREAK_INTERVAL_END and RESTART_LANE. -/

namespace Sys2Proof.Machine

open Sys2Proof

/-- The intersection of a lane offer with the advertised set; empty for a version other than 1 (R53). -/
def offerCommon (advertised : ModeSet) (o : LaneOffer) : ModeSet :=
  if o.version = 1 then o.ability.inter advertised else ⟨false, false, false⟩

/-- The highest mode of a set (R56). -/
def highestMode (m : ModeSet) : Option Mode :=
  if m.serial then some .serial else if m.cls then some .cls else if m.tally then some .tally else none

/-- The part's own offer as the lane stands (R53): ACK in ACKING and COUNTING, the resolved mode in COUNTING, the refusal reason in REFUSED. -/
def State.partOffer (s : State) (n : Lane) : PartOffer :=
  let i := s.lane n
  { ability := s.settings.modes.get n
    ack := i.state == .acking || i.state == .counting
    state := i.state
    mode := if i.state = .counting then i.resolved else none
    refusal := if i.state = .refused then i.refusal else none }

/-- The part's offer as the answer to an OFFER (R53). No rule names the result byte it follows; the model sends OK, also when the lane is REFUSED
(the model's choice, log 42). -/
def State.answerOffer (s : State) (n : Lane) : State := s.reply (.lane n) ⟨.ok, .offer (s.partOffer n)⟩

/-- The lane is in OFFERING with an offer counted `count` times. -/
def Intake.offeringWith (i : Intake) (o : LaneOffer) (count : Nat) : Intake :=
  { i with state := .offering, lastOffer := some o, offerCount := count }

/-- A lane enters COUNTING (R56). -/
def Intake.enterCounting (i : Intake) (m : Option Mode) : Intake :=
  { i with state := .counting, resolved := m, origin := some .negotiated, lastSequence := none, senseCheck := false }

/-- An empty intersection: the lane enters REFUSED with NO_COMMON_MODE and the offer becomes the last lane offer (R54, R55). The offer count is
left as it stands (log 21). -/
def State.refuseOffer (s : State) (n : Lane) (o : LaneOffer) : State :=
  (s.enterRefused n .noCommonMode).modifyLane n (fun i => { i with lastOffer := some o })

/-- An offer handled as in LISTEN (R54, R60, R61). -/
def State.listenOffer (s : State) (n : Lane) (o : LaneOffer) : State :=
  if (offerCommon (s.settings.modes.get n) o).isEmpty then s.refuseOffer n o
  else s.modifyLane n (fun i => i.offeringWith o 1)

/-- An offer taken in OFFERING (R54). -/
def State.offeringOffer (s : State) (n : Lane) (o : LaneOffer) : State :=
  if (offerCommon (s.settings.modes.get n) o).isEmpty then s.refuseOffer n o
  else if (s.lane n).lastOffer = some o then
    s.modifyLane n (fun i =>
      let count := bump 3 i.offerCount
      { i with offerCount := count, state := if count = 3 then .acking else .offering })
  else s.modifyLane n (fun i => i.offeringWith o 1)

/-- An offer taken in ACKING (R55). -/
def State.ackingOffer (s : State) (n : Lane) (o : LaneOffer) (ack : Bool) : State :=
  let common := offerCommon (s.settings.modes.get n) o
  if common.isEmpty then s.refuseOffer n o
  else if (s.lane n).lastOffer = some o then
    if ack then s.modifyLane n (fun i => i.enterCounting (highestMode common)) else s
  else s.modifyLane n (fun i => i.offeringWith o 1)

/-- A lane leaves its counting state to renegotiate (R60). -/
def Intake.leaveCounting (i : Intake) : Intake :=
  { i with resolved := none, origin := none, former := none, senseCheck := false }

/-- An OFFER taken (R54, R55, R60, R61). -/
def State.handleOffer (s : State) (n : Lane) (o : LaneOffer) (ack : Bool) : State :=
  match (s.lane n).state with
  | .down => s
  | .listen => (s.listenOffer n o).answerOffer n
  | .offering => (s.offeringOffer n o).answerOffer n
  | .acking => (s.ackingOffer n o ack).answerOffer n
  | .muted => s.replyCode (.lane n) .busy
  | .counting =>
    if (s.lane n).batch.isSome then s.replyCode (.lane n) .busy
    else ((s.modifyLane n Intake.leaveCounting).listenOffer n o).answerOffer n
  | .sensed =>
    if (s.lane n).batch.isSome then s.replyCode (.lane n) .busy
    else ((s.modifyLane n Intake.leaveCounting).listenOffer n o).answerOffer n
  | .refused =>
    if (s.lane n).lastOffer = some o then s.answerOffer n
    else ((s.modifyLane n (fun i => { i with refusal := none })).listenOffer n o).answerOffer n

/-- OFFER (R54). -/
def execOffer (n : Lane) (tag : Nat) (ability : ModeSet) (version : Nat) (ack : Bool) (s : State) : Outcome :=
  .next (s.takeRequest (.lane n) 0x01 tag (fun s => s.handleOffer n ⟨ability, version⟩ ack))

/-- The silence timer of a lane expires: the lane enters DOWN (R62). A stopped timer does not expire (log 4). -/
def execLaneSilenceExpiry (n : Lane) (s : State) : Outcome :=
  .next (if (s.lane n).silenceTimer.isSome then s.enterDown n else s)

/-- The break timer of a lane expires (R51): the lane enters LISTEN and the unsolicited OFFER is made. -/
def State.endBreak (s : State) (n : Lane) : State :=
  let s1 := s.modifyLane n (fun i => { i with state := .listen, breakTimer := none })
  s1.sendOwn n (.offer (s1.partOffer n))

/-- BREAK_INTERVAL_END (R51). -/
def execBreakIntervalEnd (n : Lane) (s : State) : Outcome :=
  .next (if (s.lane n).breakTimer.isSome ∧ (s.lane n).state = .down then s.endBreak n else s)

/-- RESTART_LANE (R63): answered OK, then the lane enters DOWN and its stray count is cleared. -/
def execRestartLane (tag lane : Nat) (s : State) : Outcome :=
  .next (s.takeRequest .f 0x59 tag (fun s =>
    match laneOfNumber lane with
    | none => s.replyCode .f .malformed
    | some n => ((s.replyCode .f .ok).enterDown n).modifyLane n (fun i => { i with stray := 0 })))

end Sys2Proof.Machine
end

