-- ==== Sys2Proof/Machine/Tariff.lean ====
section
/-! DEFINITION. Tariff banks and changeover (chapter 7). -/

namespace Sys2Proof.Machine

open Sys2Proof

/-- The standby bank (R129). -/
def Tariff.standby (t : Tariff) : BankId := t.active.other

/-- A bank changed. -/
def Tariff.modifyBank (t : Tariff) (b : BankId) (f : Bank → Bank) : Tariff :=
  match b with
  | .a => { t with bankA := f t.bankA }
  | .b => { t with bankB := f t.bankB }

/-- A class entry brought into range as it is stored (R131). -/
def storedClassEntry (isOpen serialRequired : Bool) (e : RawClassEntry) : ClassEntry :=
  ⟨isOpen, min 50000 e.deposit, min 100 e.worn, min 100 e.pool, serialRequired, clampTo 1 64 e.tallyLimit⟩

/-- Whether any value of a class entry was brought into range (R131). -/
def classEntryClamped (e : RawClassEntry) : Bool :=
  decide (50000 < e.deposit) || decide (100 < e.worn) || decide (100 < e.pool) || e.tallyLimit == 0 || decide (64 < e.tallyLimit)

/-- OK, or CLAMPED when a value was brought into range. -/
def okOrClamped (clamped : Bool) : Result := if clamped then .clamped else .ok

/-- A BANK_WRITE taken (R131): form, use, store. -/
def State.handleBankWrite (s : State) (cls : Nat) (e : RawClassEntry) : State :=
  match classIndex cls, yesNo e.opened, yesNo e.serialRequired with
  | some c, some op, some sr =>
    let b := s.tariff.standby
    if 0 < s.tariff.refs b then s.replyCode .f .bankInUse
    else
      let stored := storedClassEntry op sr e
      ({ s with tariff := s.tariff.modifyBank b (fun k => { k with classes := k.classes.set c stored }) } : State).reply .f
        ⟨okOrClamped (classEntryClamped e), .classEntry b cls stored⟩
  | _, _, _ => s.replyCode .f .malformed

/-- BANK_WRITE (R131). -/
def execBankWrite (tag cls : Nat) (e : RawClassEntry) (s : State) : Outcome :=
  .next (s.takeRequest .f 0x30 tag (fun s => s.handleBankWrite cls e))

/-- A FEE_WRITE taken (R132). -/
def State.handleFeeWrite (s : State) (fee : Nat) : State :=
  let b := s.tariff.standby
  if 0 < s.tariff.refs b then s.replyCode .f .bankInUse
  else
    ({ s with tariff := s.tariff.modifyBank b (fun k => { k with fee := min 10000 fee }) } : State).reply .f
      ⟨okOrClamped (decide (10000 < fee)), .fee b (min 10000 fee)⟩

/-- FEE_WRITE (R132). -/
def execFeeWrite (tag fee : Nat) (s : State) : Outcome :=
  .next (s.takeRequest .f 0x31 tag (fun s => s.handleFeeWrite fee))

/-- BANK_READ (R134). -/
def execBankRead (tag bank cls : Nat) (s : State) : Outcome :=
  .next (s.takeRequest .f 0x32 tag (fun s =>
    match bankOfCode bank, classIndex cls with
    | some b, some c =>
      s.reply .f ⟨.ok, .bank b cls ((s.tariff.bank b).classes.get c) (s.tariff.bank b).fee (b == s.tariff.standby) (s.tariff.refs b)
        s.tariff.armed⟩
    | _, _ => s.replyCode .f .malformed))

/-- The swap (R139): the roles are exchanged, the changeover is not armed, and CHANGEOVER_DONE is raised. -/
def State.swap (s : State) : State :=
  ({ s with tariff := { s.tariff with active := s.tariff.active.other, armed := none } } : State).raiseChangeoverDone

/-- The reached test of the armed changeover (R138). -/
def State.reachedTest (s : State) : State :=
  match s.tariff.armed with
  | none => s
  | some t => if atOrAfter s.clock.minute t then s.swap else s

/-- CHANGEOVER_ARM (R136). -/
def execChangeoverArm (tag time : Nat) (s : State) : Outcome :=
  .next (s.takeRequest .f 0x33 tag (fun s =>
    if minuteMod ≤ time then s.replyCode .f .malformed
    else
      let s1 := ({ s with tariff := { s.tariff with armed := some time } } : State).reachedTest
      s1.reply .f ⟨.ok, .changeover s1.tariff.armed s1.tariff.active⟩))

/-- CHANGEOVER_DISARM (R137). -/
def execChangeoverDisarm (tag : Nat) (s : State) : Outcome :=
  .next (s.takeRequest .f 0x34 tag (fun s =>
    ({ s with tariff := { s.tariff with armed := none } } : State).reply .f ⟨.ok, .changeover none s.tariff.active⟩))

end Sys2Proof.Machine
end

