-- ==== Sys2Proof/Machine/Register.lean ====
section
/-! DEFINITION. The keg register (chapter 6): lookup, insert, the walks' changes, ISSUE, REGISTER_QUERY, CLEAR_GUARD and the sweep. -/

namespace Sys2Proof.Machine

open Sys2Proof

/-! ## Entries -/

/-- The capacity of the register (R106). -/
def capacity : Nat := 4096

/-- The entry of a serial (R73, R106). -/
def Register.find (r : Register) (serial : Nat) : Option KegEntry := r.entries.find? (fun e => e.serial == serial)

/-- An entry put in its place by serial. -/
def insertSorted (k : KegEntry) : List KegEntry → List KegEntry
  | [] => [k]
  | e :: es => if k.serial < e.serial then k :: e :: es else e :: insertSorted k es

/-- The entries that satisfy a test are kept, and the entry count falls by the number removed. -/
def Register.keep (r : Register) (test : KegEntry → Bool) : Register :=
  let kept := r.entries.filter test
  { r with entries := kept, entryCount := r.entryCount - (r.entries.length - kept.length) }

/-- Every entry changed, its serial kept. -/
def Register.update (r : Register) (f : KegEntry → KegEntry) : Register :=
  { r with entries := r.entries.map (fun e => { f e with serial := e.serial }) }

/-- The entry of a serial changed. -/
def Register.updateSerial (r : Register) (serial : Nat) (f : KegEntry → KegEntry) : Register :=
  r.update (fun e => if e.serial = serial then f e else e)

/-- The entry of a serial removed. -/
def Register.removeSerial (r : Register) (serial : Nat) : Register := r.keep (fun e => e.serial != serial)

/-- The age of a stamp (R179). -/
def ageAt (minute stamp : Nat) : Nat := minuteDiff minute stamp

/-- The serial and age of the oldest ISSUED entry; among equal ages the first, which has the lowest serial (R114). -/
def oldestIssued (minute : Nat) : List KegEntry → Option (Nat × Nat)
  | [] => none
  | e :: es =>
    match e.state, oldestIssued minute es with
    | .issued st, some (serial, age) => if age ≤ ageAt minute st then some (e.serial, ageAt minute st) else some (serial, age)
    | .issued st, none => some (e.serial, ageAt minute st)
    | _, rest => rest

/-- An insert of a new PENDING entry, its serial having no entry (R114): absent when the register is full with no ISSUED entry to replace. -/
def Register.insert (r : Register) (minute : Nat) (k : KegEntry) : Option Register :=
  if r.entryCount < capacity then some { r with entries := insertSorted k r.entries, entryCount := r.entryCount + 1 }
  else match oldestIssued minute r.entries with
    | some (serial, _) =>
      some { r with
        entries := insertSorted k (r.entries.filter (fun e => e.serial != serial))
        replacements := bump 65535 r.replacements }
    | none => none

/-- Whether an entry is PENDING on a ticket. -/
def KegEntry.pendingOn (ticket : Nat) (e : KegEntry) : Bool := e.state == .pending ticket

/-- The settle walk's change: every PENDING entry of the ticket is CREDITED at the minute (R116). -/
def Register.creditTicket (r : Register) (minute ticket : Nat) : Register :=
  r.update (fun e => if e.pendingOn ticket then { e with state := .credited minute } else e)

/-- The void walk's change: every PENDING entry of the ticket is removed (R117). -/
def Register.voidTicket (r : Register) (ticket : Nat) : Register := r.keep (fun e => !e.pendingOn ticket)

/-- The PENDING entry a hold made is removed (R84, R85, R86). -/
def Register.dropPending (r : Register) (serial ticket : Nat) : Register :=
  r.keep (fun e => !(e.serial == serial && e.pendingOn ticket))

/-- What a sweep removes (R123): ISSUED entries at or above the lockout, CREDITED entries at or above the retention. -/
def swept (minute lockout retention : Nat) (e : KegEntry) : Bool :=
  match e.state with
  | .pending _ => false
  | .credited st => decide (retention ≤ ageAt minute st)
  | .issued st => decide (lockout ≤ ageAt minute st)

/-- The sweep (R123): the aged entries go, and the cold guard ends when its end stamp is reached. -/
def Register.sweep (r : Register) (minute lockout retention : Nat) : Register :=
  let k := r.keep (fun e => !swept minute lockout retention e)
  { k with guardEnd := match r.guardEnd with
      | some stop => if atOrAfter minute stop then none else some stop
      | none => none }

/-! ## ISSUE (R118, R119) -/

/-- One serial of an ISSUE (R119). -/
def Register.issueOne (r : Register) (minute lockout serial : Nat) : Register × Result :=
  match r.find serial with
  | none => (r, .notFound)
  | some e =>
    match e.state with
    | .pending _ => (r, .issueConflict)
    | .credited st =>
      if lockout ≤ ageAt minute st then (r.removeSerial serial, .removed)
      else (r.updateSerial serial (fun e => { e with state := .issued st }), .issued)
    | .issued st => if lockout ≤ ageAt minute st then (r.removeSerial serial, .removed) else (r, .issued)

/-- The serials of an ISSUE in the request's order, each seeing the result of those before it (R118). -/
def Register.issueAll (r : Register) (minute lockout : Nat) : List Nat → Register × List Result
  | [] => (r, [])
  | n :: ns =>
    let (r1, a) := r.issueOne minute lockout n
    let (r2, as) := r1.issueAll minute lockout ns
    (r2, a :: as)

/-- ISSUE (R118): 1 to 12 serials, none 0. -/
def execIssue (tag : Nat) (serials : List Nat) (s : State) : Outcome :=
  .next (s.takeRequest .f 0x40 tag (fun s =>
    if serials.length = 0 ∨ 12 < serials.length ∨ serials.contains 0 then s.replyCode .f .malformed
    else s.raiseOrBusy .f (.issue serials)))

/-- A served ISSUE (R119). -/
def execIssueOperation (s : State) : Outcome :=
  .next (match s.arbiter.serving with
    | some (.office (.issue serials)) =>
      let (r, results) := s.register.issueAll s.clock.minute s.settings.lockout serials
      (({ s with register := r } : State).replyOldest .f 0x40 ⟨.ok, .issue results⟩).completeOperation
    | _ => s)

/-! ## REGISTER_QUERY (R121) -/

/-- How many entries satisfy a test. -/
def Register.count (r : Register) (test : KegState → Bool) : Nat := r.entries.countP (fun e => test e.state)

/-- The register summary (R121). The minutes remaining of a guard whose end is reached are 0 (log 23). -/
def Register.summary (r : Register) (minute : Nat) : RegisterSummary where
  entries := r.entryCount
  pending := r.count (fun st => match st with | .pending _ => true | .credited _ => false | .issued _ => false)
  credited := r.count (fun st => match st with | .pending _ => false | .credited _ => true | .issued _ => false)
  issued := r.count (fun st => match st with | .pending _ => false | .credited _ => false | .issued _ => true)
  replacements := r.replacements
  guardEnd := r.guardEnd
  remaining := match r.guardEnd with
    | some stop => if atOrAfter minute stop then 0 else minuteDiff stop minute
    | none => 0

/-- The age of an entry's stamp; a PENDING entry has none. -/
def KegEntry.age (minute : Nat) (e : KegEntry) : Nat :=
  match e.state with
  | .pending _ => 0
  | .credited st => ageAt minute st
  | .issued st => ageAt minute st

/-- The answer to a served REGISTER_QUERY (R121). -/
def Register.queryAnswer (r : Register) (minute serial : Nat) : Answer :=
  match r.find serial with
  | some e => ⟨.ok, .query (some e) (e.age minute) (r.summary minute)⟩
  | none => ⟨.notFound, .query none 0 (r.summary minute)⟩

/-- REGISTER_QUERY (R121). -/
def execRegisterQuery (tag serial : Nat) (s : State) : Outcome :=
  .next (s.takeRequest .f 0x41 tag (fun s =>
    if serial = 0 then s.replyCode .f .malformed else s.raiseOrBusy .f (.query serial)))

/-- A served REGISTER_QUERY (R121). -/
def execRegisterQueryOperation (s : State) : Outcome :=
  .next (match s.arbiter.serving with
    | some (.office (.query serial)) =>
      (s.replyOldest .f 0x41 (s.register.queryAnswer s.clock.minute serial)).completeOperation
    | _ => s)

/-! ## CLEAR_GUARD (R127) and the sweep (R123, R124) -/

/-- CLEAR_GUARD (R127). -/
def execClearGuard (key : Bool) (tag : Nat) (s : State) : Outcome :=
  .next ((s.withKey key).takeRequest .f 0x42 tag (fun s =>
    if key then s.raiseOrBusy .f .clearGuard else s.replyCode .f .locked))

/-- A served CLEAR_GUARD (R127). -/
def execClearGuardOperation (s : State) : Outcome :=
  .next (match s.arbiter.serving with
    | some (.office .clearGuard) =>
      (({ s with register := { s.register with guardEnd := none } } : State).replyOldest .f 0x42 ⟨.ok, .empty⟩).completeOperation
    | _ => s)

/-- A sweep is raised, unless one waits already (R124). -/
def State.raiseSweep (s : State) : State :=
  if s.arbiter.sweeps.contains .sweep then s else s.modifyArbiter (Arbiter.raiseSweeps [.sweep])

/-- A served sweep (R123). -/
def execSweep (s : State) : Outcome :=
  .next (match s.arbiter.serving with
    | some (.sweep .sweep) =>
      ({ s with register := s.register.sweep s.clock.minute s.settings.lockout s.settings.retention } : State).completeOperation
    | _ => s)

end Sys2Proof.Machine
end

