-- ==== Sys2Proof/Machine/Watch.lean ====
section
/-! DEFINITION. Watch entries (chapter 5): matching, firing, and the three office requests. -/

namespace Sys2Proof.Machine

open Sys2Proof

/-! ## Matching and firing -/

/-- What verdict logic hands the watch table for an item (R72), with the capture a firing makes (R97). -/
structure Watched where
  serial : Nat
  owner : Nat
  account : Nat
  cls : Nat
  capture : Capture
deriving DecidableEq, Repr

/-- Whether a rule matches an item (R92, R93). -/
def WatchRule.matchesItem (r : WatchRule) (w : Watched) : Bool :=
  match r.field with
  | .serial => w.serial != 0 && w.serial / 2 ^ r.exponent == r.value / 2 ^ r.exponent
  | .owner => w.owner != 0 && w.owner == r.value
  | .account => w.account == r.value
  | .cls => w.cls == r.value

/-- Whether a rule is enabled and matches (R94, R95). -/
def WatchRule.ready (r : WatchRule) (w : Watched) : Bool := r.enabled && r.matchesItem w

/-- What a firing does to an entry (R96). -/
def WatchEntry.fire (e : WatchEntry) (c : Capture) : WatchEntry :=
  { rule := { e.rule with enabled := e.rule.enabled && !e.rule.oneShot }
    hit := true
    count := bump 65535 e.count
    capture := if e.locked then e.capture else some c
    locked := true }

/-- The head of entry `i`'s pair, and its tail (R90). -/
def pairHead (i : Fin 8) : Fin 8 := ⟨i.val - i.val % 2, by omega⟩

/-- The odd entry of entry `i`'s pair. -/
def pairTail (i : Fin 8) : Fin 8 := ⟨i.val - i.val % 2 + 1, by omega⟩

/-- Whether an entry fires on an item (R94, R95): a chained pair fires as one, when both its entries are ready. -/
def fires (t : Table WatchEntry 8) (w : Watched) (i : Fin 8) : Bool :=
  let head := (t.get (pairHead i)).rule
  let tail := (t.get (pairTail i)).rule
  if head.chain then head.ready w && tail.ready w else (t.get i).rule.ready w

/-- Whether an entry's own action is the action of a firing: not the head of a chained pair, whose action is its tail's (R95). -/
def actsItself (t : Table WatchEntry 8) (i : Fin 8) : Bool :=
  !((t.get (pairHead i)).rule.chain && i == pairHead i)

/-- What fired on an item (R98): whether anything did, and the actions among the firings. -/
structure Fired where
  any : Bool
  void : Bool
  hold : Bool
  note : Bool
deriving DecidableEq, Repr

/-- Whether a firing with an action takes place (R98). -/
def firesWith (t : Table WatchEntry 8) (w : Watched) (a : WatchAction) : Bool :=
  (List.finRange 8).any (fun i => fires t w i && actsItself t i && (t.get i).rule.action == a)

/-- What fired on an item (R98). -/
def firedOn (t : Table WatchEntry 8) (w : Watched) : Fired :=
  ⟨(List.finRange 8).any (fires t w), firesWith t w .void, firesWith t w .hold, firesWith t w .note⟩

/-- The watch table after a consultation (R96, R99): each entry that fires is changed, the others are not. -/
def consulted (t : Table WatchEntry 8) (w : Watched) : Table WatchEntry 8 :=
  (List.finRange 8).foldl (fun acc i => if fires t w i then acc.modify i (fun e => e.fire w.capture) else acc) t

/-! ## Office requests -/

/-- How an entry is chained (R104). -/
def chainedAs (t : Table WatchEntry 8) (i : Fin 8) : Chained :=
  if (t.get (pairHead i)).rule.chain then (if i = pairHead i then .head else .tail) else .no

/-- The rule as stored (R101, R103): a block exponent on another field than SERIAL becomes 0; chain on an odd entry becomes no, and so does chain
written on a head without the key when the tail carries the supervisor flag. -/
def storedRule (t : Table WatchEntry 8) (key : Bool) (i : Fin 8) (r : WatchRule) : WatchRule :=
  { r with
    exponent := if r.field = .serial then r.exponent else 0
    chain := r.chain && i == pairHead i && !(!key && (t.get (pairTail i)).rule.supervisor) }

/-- CHAIN_CONFLICT (R103): a head written with the key chains a supervisor tail without carrying the flag, or a supervisor rule is written on
the tail of a chained head without it. -/
def chainConflict (t : Table WatchEntry 8) (key : Bool) (i : Fin 8) (r : WatchRule) : Bool :=
  if i = pairHead i then key && r.chain && (t.get (pairTail i)).rule.supervisor && !r.supervisor
  else r.supervisor && (t.get (pairHead i)).rule.chain && !(t.get (pairHead i)).rule.supervisor

/-- An entry right after its rule is written: its evidence is cleared (R101). -/
def WatchEntry.fresh (r : WatchRule) : WatchEntry := ⟨r, false, 0, none, false⟩

/-- A WATCH_WRITE taken (R100): form, key, chain and supervisor, stored form. -/
def State.handleWatchWrite (s : State) (key : Bool) (entry : Nat) (raw : RawRule) : State :=
  match watchIndex entry, ruleOfRaw raw with
  | some i, some r =>
    if !key && ((s.watch.get i).rule.supervisor || r.supervisor) then s.replyCode .f .locked
    else if chainConflict s.watch key i r then s.replyCode .f .chainConflict
    else
      let stored := storedRule s.watch key i r
      ({ s with watch := s.watch.set i (WatchEntry.fresh stored) } : State).reply .f
        ⟨if stored = r then .ok else .clamped, .watchRule entry stored⟩
  | _, _ => s.replyCode .f .malformed

/-- WATCH_WRITE (R100). -/
def execWatchWrite (key : Bool) (tag entry : Nat) (raw : RawRule) (s : State) : Outcome :=
  .next ((s.withKey key).takeRequest .f 0x38 tag (fun s => s.handleWatchWrite key entry raw))

/-- WATCH_READ (R104). -/
def execWatchRead (tag entry : Nat) (s : State) : Outcome :=
  .next (s.takeRequest .f 0x39 tag (fun s =>
    match watchIndex entry with
    | some i => s.reply .f ⟨.ok, .watchEntry entry (s.watch.get i) (chainedAs s.watch i)⟩
    | none => s.replyCode .f .malformed))

/-- A CAPTURE_READ taken (R105): the capture is reported as it stands, then it is unlocked and the hit flag is cleared. -/
def State.handleCaptureRead (s : State) (key : Bool) (entry : Nat) : State :=
  match watchIndex entry with
  | some i =>
    let e := s.watch.get i
    if !key && e.rule.supervisor then s.replyCode .f .locked
    else
      ({ s with watch := s.watch.set i { e with hit := false, locked := false } } : State).reply .f
        ⟨.ok, .capture entry e.capture e.hit e.count⟩
  | none => s.replyCode .f .malformed

/-- CAPTURE_READ (R105). -/
def execCaptureRead (key : Bool) (tag entry : Nat) (s : State) : Outcome :=
  .next ((s.withKey key).takeRequest .f 0x3A tag (fun s => s.handleCaptureRead key entry))

end Sys2Proof.Machine
end

