-- ==== Sys2Proof/Machine/Verdict.lean ====
section
/-! DEFINITION. Verdict logic (chapter 4, R66 to R80): what is judged, the causes, the verdict and its effects, TAKE_IN_HAND and
VERDICT_OPERATION. -/

namespace Sys2Proof.Machine

open Sys2Proof

/-! ## What is judged (R68) -/

/-- The grade of an entry that is not MALFORMED. -/
def gradeOf (n : Nat) : Grade :=
  match n with
  | 0 => .full
  | 1 => .worn
  | _ => .scrap

/-- The class as judged (R68): class 0 for an absent class. An entry that is not MALFORMED has a class of at most 15, or none in TALLY. -/
def judgedClass (it : Item) : Fin 16 :=
  match it.cls with
  | none => 0
  | some c => Fin.ofNat 16 c

/-- OWN for no owner code or the own brewery code, else FOREIGN (R68). -/
def ownershipOf (ownCode owner : Nat) : Ownership := if owner = 0 ∨ owner = ownCode then .own else .foreign

/-- A register item: it carries a serial and its grade is FULL or WORN (R68). -/
def itemInRegister (it : Item) : Bool := it.serial != 0 && gradeOf it.grade != .scrap

/-- The ticket an entry is judged against: that of its batch, when it is OPEN or CLOSING (R70). -/
def State.liveTicket (s : State) (e : Entry) : Option (Fin 24 × Ticket) :=
  match e.ticket with
  | none => none
  | some number =>
    match s.lookupTicket number with
    | none => none
    | some (i, t) => if t.counting then some (i, t) else none

/-- Whether an entry is evaluated as a verdict operation at the register (R67). -/
def Entry.needsRegister (e : Entry) : Bool := !e.malformed.any && e.ticket.isSome && itemInRegister e.item

/-! ## Causes and verdict (R69 to R74) -/

/-- The also-set of the causes found: `found` says which, in priority order. -/
def causeList (found : List (Cause × Bool)) : List Cause := (found.filter Prod.snd).map Prod.fst

/-- The verdict a deciding cause gives (R74). -/
def Cause.verdict : Cause → Verdict
  | .duplicate => .hold
  | .watchHold => .hold
  | .registerCold => .hold
  | .noSerial => .hold
  | .weakRead => .hold
  | .tallyLimit => .hold
  | .registerFull => .hold
  | _ => .refuse

/-- The register lookup of a register item (R73): the entry found, if any. -/
def Register.lookupItem (r : Register) (it : Item) : Option KegEntry := if itemInRegister it then r.find it.serial else none

/-- The causes of an entry that is neither MALFORMED nor NO_TICKET (R71 to R73), in priority order. `number` is its ticket's. -/
def foundCauses (ce : ClassEntry) (own : Ownership) (mode : Option Mode) (it : Item) (f : Fired) (number : Nat) (found : Option KegEntry)
    (cold : Bool) : List Cause :=
  causeList [
    (.classClosed, !ce.isOpen),
    (.watchVoid, f.void),
    (.doubleRead, found.any (fun k => k.pendingOn number)),
    (.foreignRefused, own == .foreign && gradeOf it.grade != .scrap && ce.pool == 0),
    (.duplicate, found.any (fun k => !k.pendingOn number)),
    (.watchHold, f.hold),
    (.registerCold, itemInRegister it && cold),
    (.noSerial, ce.serialRequired && (it.serial == 0 || mode != some .serial)),
    (.weakRead, it.weak),
    (.tallyLimit, mode == some .tally && decide (ce.tallyLimit < it.quantity))]

/-- The causes of an entry that is MALFORMED or NO_TICKET (R69, R70). -/
def blockedCauses (e : Entry) (noTicket : Bool) : List Cause :=
  causeList [(.malformed, e.malformed.any), (.noTicket, noTicket), (.weakRead, e.item.weak)]

/-! ## The evaluation (R67) -/

/-- The values an entry is judged by (R68). -/
structure Case where
  lane : Lane
  entry : Entry
  slot : Fin 24
  number : Nat
  cls : Fin 16
  grade : Grade
  ownership : Ownership
  found : Option KegEntry
  note : Bool
deriving DecidableEq, Repr

/-- The VERDICT of a case. -/
def Case.frame (c : Case) (v : Verdict) (cause : Option Cause) (also : List Cause) (hold : Nat) : VerdictFrame :=
  ⟨c.entry.item.sequence, v, cause, also, hold, c.note⟩

/-- The PENDING entry an insert for the case writes (R75, R114). -/
def Case.keg (c : Case) : KegEntry := ⟨c.entry.item.serial, c.entry.item.owner, c.cls, .pending c.number⟩

/-- A REFUSE: nothing more than what fired (R79). -/
def State.judgeRefuse (s : State) (c : Case) (cause : Cause) (also : List Cause) : State × VerdictFrame :=
  (s, c.frame .refuse (some cause) also 0xFFFF)

/-- A hold record claimed in slot `i` (R78, R81, R82). -/
def State.makeHold (s : State) (i : Fin 64) (c : Case) (cause : Cause) (also : List Cause) (entryMade : Bool) : State :=
  let generation := ((s.holds.get i).generation + 1) % 256
  let h : Hold :=
    { ticket := c.number, lane := c.lane, sequence := c.entry.item.sequence, cls := c.entry.item.cls, judged := c.cls, grade := c.grade,
      quantity := c.entry.item.quantity, owner := c.entry.item.owner, ownership := c.ownership, serial := c.entry.item.serial,
      cause := cause, also := also, entryMade := entryMade, held := s.clock.minute,
      deadline := minuteAdd s.clock.minute s.settings.holdTime }
  ({ s with holds := s.holds.set i ⟨generation, some h⟩, holdOrder := s.holdOrder ++ [generation * 256 + i.val] } : State).modifyTicket c.slot
    (fun t => { t with holds := t.holds + 1 })

/-- A HOLD (R75, R76, R78): a record is claimed first, else the item is refused HOLD_POOL_FULL; then, for a WATCH_HOLD on a register item with no
entry, the insert is attempted. -/
def State.judgeHold (s : State) (c : Case) (cause : Cause) (also : List Cause) : State × VerdictFrame :=
  match s.freeHoldSlot with
  | none => s.judgeRefuse c .holdPoolFull (also ++ [.holdPoolFull])
  | some i =>
    let number := ((s.holds.get i).generation + 1) % 256 * 256 + i.val
    if cause = .watchHold ∧ itemInRegister c.entry.item ∧ c.found = none then
      match s.register.insert s.clock.minute c.keg with
      | some r =>
        (({ s with register := r } : State).makeHold i c cause also true, c.frame .hold (some cause) also number)
      | none =>
        (s.makeHold i c cause (also ++ [.registerFull]) false, c.frame .hold (some cause) (also ++ [.registerFull]) number)
    else (s.makeHold i c cause also false, c.frame .hold (some cause) also number)

/-- The item counted to its ticket (R77). -/
def State.countCase (s : State) (c : Case) : State :=
  s.modifyTicket c.slot (fun t => t.addCount c.cls c.grade c.ownership c.entry.item.quantity)

/-- An ACCEPT (R75, R77): a register item is entered first; a full register with no ISSUED entry turns it into a HOLD REGISTER_FULL. -/
def State.judgeAccept (s : State) (c : Case) : State × VerdictFrame :=
  if itemInRegister c.entry.item then
    match s.register.insert s.clock.minute c.keg with
    | some r => (({ s with register := r } : State).countCase c, c.frame .accept none [] 0xFFFF)
    | none => s.judgeHold c .registerFull [.registerFull]
  else (s.countCase c, c.frame .accept none [] 0xFFFF)

/-- The verdict of the causes found, and its effects (R74). -/
def State.judgeCauses (s : State) (c : Case) (also : List Cause) : State × VerdictFrame :=
  match also with
  | [] => s.judgeAccept c
  | cause :: _ =>
    if cause.verdict = .hold then s.judgeHold c cause also else s.judgeRefuse c cause also

/-- What the watch table is handed for an entry (R72, R97). -/
def watchedOf (s : State) (n : Lane) (e : Entry) (t : Ticket) (number : Nat) : Watched :=
  { serial := e.item.serial, owner := e.item.owner, account := t.account, cls := (judgedClass e.item).val,
    capture := ⟨number, n, e.item.sequence, e.item.serial, s.clock.minute⟩ }

/-- The firing effects of a consultation (R72, R96, R98): the watch entries, the ticket's NOTE flag and WATCH_HIT. -/
def State.applyWatch (s : State) (i : Fin 24) (w : Watched) (f : Fired) : State :=
  let s1 : State := { s with watch := consulted s.watch w }
  let s2 := s1.modifyTicket i (fun t => { t with flags := { t.flags with note := t.flags.note || f.note } })
  if f.any then s2.raiseWatchHit else s2

/-- An entry judged against its live ticket (R71 to R79). -/
def State.judgeLive (s : State) (n : Lane) (e : Entry) (i : Fin 24) (t : Ticket) : State × VerdictFrame :=
  let number := s.ticketNumber i
  let w := watchedOf s n e t number
  let f := firedOn s.watch w
  let found := s.register.lookupItem e.item
  let own := ownershipOf s.settings.ownCode e.item.owner
  let ce := (s.tariff.bank t.bank).classes.get (judgedClass e.item)
  let also := foundCauses ce own e.mode e.item f number found s.register.guardEnd.isSome
  (s.applyWatch i w f).judgeCauses ⟨n, e, i, number, judgedClass e.item, gradeOf e.item.grade, own, found, f.note⟩ also

/-- The evaluation of an entry (R67): every effect but the sending of its VERDICT and its removal. -/
def State.judgeEntry (s : State) (n : Lane) (e : Entry) : State × VerdictFrame :=
  let blocked (noTicket : Bool) : State × VerdictFrame :=
    let also := blockedCauses e noTicket
    (s, ⟨e.item.sequence, .refuse, also.head?, also, 0xFFFF, false⟩)
  match s.liveTicket e with
  | none => blocked true
  | some (i, t) => if e.malformed.any then blocked false else s.judgeLive n e i t

/-- The VERDICT of a judged entry, unless the entry has the lost-link mark or the lane is DOWN (R33, R80). -/
def State.sendVerdict (s : State) (n : Lane) (e : Entry) (v : VerdictFrame) : State :=
  s.modifyPort (.lane n) (fun p => if e.lostLink ∨ (s.lane n).state = .down then p else p.sendJudged (.verdict v))

/-- The head entry is judged, its VERDICT made, and the entry removed (R66). -/
def State.completeHead (s : State) (n : Lane) (e : Entry) : State :=
  let (s1, v) := s.judgeEntry n e
  (s1.sendVerdict n e v).removeHead n e

/-- Whether the VERDICT of an entry will be sent (R193). -/
def State.verdictWillBeSent (s : State) (n : Lane) (e : Entry) : Bool := !e.lostLink && (s.lane n).state != .down

/-- Verdict logic takes the head in hand (R66, R67, R193): with no entry in hand, and room in the unsolicited list for a VERDICT that will be
sent. An entry that needs the register waits there; any other is completed. -/
def State.takeInHand (s : State) (n : Lane) : State :=
  match (s.lane n).queue with
  | [] => s
  | e :: _ =>
    if (s.lane n).inHand then s
    else if s.verdictWillBeSent n e ∧ 15 ≤ (s.port (.lane n)).unsolicited.length then s
    else if e.needsRegister then
      (s.modifyLane n (fun i => { i with inHand := true })).modifyArbiter (Arbiter.raiseVerdict n)
    else s.completeHead n e

/-- TAKE_IN_HAND (R66). -/
def execTakeInHand (n : Lane) (s : State) : Outcome := .next (if s.running then s.takeInHand n else s)

/-- A served verdict operation (R113) completes the head entry of its lane. -/
def execVerdictOperation (s : State) : Outcome :=
  .next (match s.arbiter.serving with
    | some (.verdict n) =>
      (match (s.lane n).queue with
        | [] => s
        | e :: _ => s.completeHead n e).completeOperation
    | _ => s)

end Sys2Proof.Machine
end

