-- ==== Sys2Proof/Machine/Holds.lean ====
section
/-! DEFINITION. Holds after they are made (chapter 4, R83 to R88): RELEASE, expiry, and HOLD_READ. -/

namespace Sys2Proof.Machine

open Sys2Proof

/-- A hold record is freed, its slot's generation kept (R81). -/
def State.freeHold (s : State) (i : Fin 64) : State :=
  { s with
    holds := s.holds.modify i (fun sl => { sl with hold := none })
    holdOrder := s.holdOrder.filter (fun n => n != s.holdNumber i) }

/-- A hold is resolved: its record freed, its ticket's holds outstanding down by one, then the pricing test (R9, R84, R85). `expired` counts an
expiry, stopping at 64 (R86). -/
def State.resolveHold (s : State) (i : Fin 64) (h : Hold) (expired : Bool) : State :=
  let s1 := s.freeHold i
  match s1.findTicket h.ticket with
  | none => s1
  | some k =>
    (s1.modifyTicket k (fun t =>
      { t with holds := t.holds - 1, expired := if expired then bump 64 t.expired else t.expired })).priceTest k

/-- The holds outstanding of a ticket number. -/
def State.holdsOutstanding (s : State) (number : Nat) : Nat :=
  match s.lookupTicket number with
  | some (_, t) => t.holds
  | none => 0

/-! ## RELEASE -/

/-- The resulting grade of a RELEASE (R83). -/
def resultingGrade (h : Hold) (v : Verdict) (amended : Option Grade) : Grade :=
  match v, amended with
  | .accept, some g => g
  | _, _ => h.grade

/-- Whether a RELEASE of a hold needs the register (R83). -/
def releaseNeedsRegister (h : Hold) (v : Verdict) (amended : Option Grade) : Bool :=
  h.serial != 0 && ((v == .accept && resultingGrade h v amended != .scrap) || h.entryMade)

/-- The register's part of a RELEASE with ACCEPT of a serial hold graded FULL or WORN (R84): the register after it, or the refusal. -/
def releaseAcceptRegister (r : Register) (minute : Nat) (h : Hold) : Except Result Register :=
  let keg : KegEntry := ⟨h.serial, h.owner, h.judged, .pending h.ticket⟩
  match r.find h.serial with
  | none => match r.insert minute keg with
    | some r1 => .ok r1
    | none => .error .registerFull
  | some e => match e.state with
    | .pending t => if t = h.ticket then .ok r else .error .conflict
    | .credited _ => .ok (r.updateSerial h.serial (fun _ => keg))
    | .issued _ => .ok (r.updateSerial h.serial (fun _ => keg))

/-- The register after a RELEASE, or its refusal (R84, R85). -/
def releaseRegister (r : Register) (minute : Nat) (h : Hold) (v : Verdict) (amended : Option Grade) : Except Result Register :=
  if v = .accept ∧ h.serial ≠ 0 ∧ resultingGrade h v amended ≠ .scrap then releaseAcceptRegister r minute h
  else if h.entryMade then .ok (r.dropPending h.serial h.ticket)
  else .ok r

/-- A RELEASE is carried out (R84, R85): the state after it and its answer. -/
def State.carryRelease (s : State) (i : Fin 64) (h : Hold) (v : Verdict) (amended : Option Grade) : State × Answer :=
  match releaseRegister s.register s.clock.minute h v amended with
  | .error why => (s, ⟨why, .empty⟩)
  | .ok r =>
    let g := resultingGrade h v amended
    let clamped := match v, s.lookupTicket h.ticket with
      | .accept, some (_, t) => t.saturates h.judged g h.ownership h.quantity
      | _, _ => false
    let s1 : State := { s with register := r }
    let s2 := match v, s.findTicket h.ticket with
      | .accept, some k => s1.modifyTicket k (fun t => t.addCount h.judged g h.ownership h.quantity)
      | _, _ => s1
    let s3 := s2.resolveHold i h false
    (s3, ⟨if clamped then .clamped else .ok, .released h.ticket (s3.holdsOutstanding h.ticket)⟩)

/-- A RELEASE taken (R83). -/
def State.handleRelease (s : State) (hold verdict amended : Nat) : State :=
  match releaseVerdict verdict, amendedGrade amended with
  | some v, some am =>
    match s.lookupHold hold with
    | none => s.replyCode .f .noSuchHold
    | some (i, h) =>
      if releaseNeedsRegister h v am then s.raiseOrBusy .f (.release hold v am)
      else
        let (s1, a) := s.carryRelease i h v am
        s1.reply .f a
  | _, _ => s.replyCode .f .malformed

/-- RELEASE (R83). -/
def execRelease (tag hold verdict amended : Nat) (s : State) : Outcome :=
  .next (s.takeRequest .f 0x20 tag (fun s => s.handleRelease hold verdict amended))

/-- A served RELEASE (R83, R84): the number is checked again. -/
def execReleaseOperation (s : State) : Outcome :=
  .next (match s.arbiter.serving with
    | some (.office (.release hold v am)) =>
      (match s.lookupHold hold with
        | none => s.replyOldest .f 0x20 ⟨.noSuchHold, .empty⟩
        | some (i, h) =>
          let (s1, a) := s.carryRelease i h v am
          s1.replyOldest .f 0x20 a).completeOperation
    | _ => s)

/-! ## Expiry (R86) -/

/-- Whether an expiry of a hold number has been raised and not completed. -/
def Arbiter.expiryRaised (a : Arbiter) (number : Nat) : Bool :=
  a.sweeps.contains (.expiry number) || a.serving == some (.sweep (.expiry number))

/-- Whether the hold in a slot has reached its deadline (R86). -/
def State.holdDue (s : State) (i : Fin 64) : Bool :=
  match (s.holds.get i).hold with
  | none => false
  | some h => atOrAfter s.clock.minute h.deadline

/-- The deadline test of one slot for a hold that made no entry: it expires at the test (R86). -/
def State.expireAtTest (s : State) (i : Fin 64) : State :=
  match (s.holds.get i).hold with
  | none => s
  | some h => if atOrAfter s.clock.minute h.deadline && !h.entryMade then s.resolveHold i h true else s

/-- The expiries to raise: due holds that made an entry and whose expiry is not raised already, in slot order (R86). -/
def State.dueExpiries (s : State) : List SweepOp :=
  ((List.finRange 64).filter (fun i =>
    match (s.holds.get i).hold with
    | none => false
    | some h => atOrAfter s.clock.minute h.deadline && h.entryMade && !s.arbiter.expiryRaised (s.holdNumber i))).map
    (fun i => .expiry (s.holdNumber i))

/-- The deadline tests of the hold pool for holds without an entry (R86). -/
def State.expireHolds (s : State) : State := (List.finRange 64).foldl State.expireAtTest s

/-- The expiries to raise in the order they are raised: R86 names none, so it is free (log 15). -/
def State.orderedExpiries (s : State) : List SweepOp :=
  let rank : SweepOp → Nat
    | .expiry number => Config.expiryRank s.freeIndex number
    | .sweep => 0
  s.dueExpiries.insertionSort (fun a b => rank a ≤ rank b)

/-- The hold pool's expiries and the sweep are raised (R86, R124). Which is raised first is free when both are (log 14). -/
def State.raiseExpiriesAndSweep (s : State) : State :=
  match s.orderedExpiries with
  | [] => s.raiseSweep
  | due =>
    if Config.sweepFirst s.freeIndex then
      { s.raiseSweep.modifyArbiter (Arbiter.raiseSweeps due) with freeIndex := s.freeIndex + 1 }
    else { (s.modifyArbiter (Arbiter.raiseSweeps due)).raiseSweep with freeIndex := s.freeIndex + 1 }

/-- A served hold expiry (R86): the PENDING entry goes and the hold resolves as REFUSE; a number that names no hold does nothing. -/
def execHoldExpiryOperation (s : State) : Outcome :=
  .next (match s.arbiter.serving with
    | some (.sweep (.expiry number)) =>
      (match s.lookupHold number with
        | none => s
        | some (i, h) =>
          ({ s with register := s.register.dropPending h.serial h.ticket } : State).resolveHold i h true).completeOperation
    | _ => s)

/-! ## HOLD_READ (R88) -/

/-- The hold numbers naming a ticket, in the order they were made (R81, R88). -/
def State.holdsOf (s : State) (ticket : Nat) : List Nat :=
  s.holdOrder.filter (fun n => match s.lookupHold n with | some (_, h) => h.ticket == ticket | none => false)

/-- HOLD_READ (R88). -/
def execHoldRead (tag selector number : Nat) (s : State) : Outcome :=
  .next (s.takeRequest .f 0x21 tag (fun s =>
    match selector with
    | 0 => match s.lookupHold number with
      | some (_, h) => s.reply .f ⟨.ok, .hold number h⟩
      | none => s.replyCode .f .noSuchHold
    | 1 => match s.findTicket number with
      | some _ => s.reply .f ⟨.ok, .holdList (s.holdsOf number)⟩
      | none => s.replyCode .f .noSuchTicket
    | _ => s.replyCode .f .malformed))

end Sys2Proof.Machine
end

