-- ==== Sys2Proof/Machine/Tickets.lean ====
section
/-! DEFINITION. Return tickets (chapter 1): OPEN, QUOTE, CLOSE, ADJUST, CONFIRM_COUNT, VOID and its walk, SETTLE_TO_ACCOUNT, COLLECT,
TICKET_READ, and the deadline test. -/

namespace Sys2Proof.Machine

open Sys2Proof

/-! ## Opening -/

/-- The record a taken OPEN makes (R4). -/
def Ticket.fresh (account : Nat) (cash : Bool) (bank : BankId) (opened deadline : Nat) : Ticket where
  state := .opened
  account := account
  cashAllowed := cash
  bank := bank
  opened := opened
  deadline := deadline
  lanes := LaneSet.empty
  counts := Table.fill 64 0
  scrap := Table.fill 16 0
  holds := 0
  expired := 0
  flags := ⟨false, false, false, false, false⟩
  priced := none
  payout := none
  settlement := none

/-- The generation of a slot used again (R3): from 255 to 0 at the wrap. -/
def nextGeneration (g : Nat) : Nat := (g + 1) % 256

/-- The ticket of an OPEN made in FREE slot `i` (R3 to R5). -/
def State.makeTicket (s : State) (i : Fin 24) (account : Nat) (cash : Bool) : State :=
  { s with
    tickets := s.tickets.set i ⟨nextGeneration (s.tickets.get i).generation,
      some (Ticket.fresh account cash s.tariff.active s.clock.minute (minuteAdd s.clock.minute s.settings.ticketLife))⟩
    tariff := s.tariff.takeRef s.tariff.active }

/-- An OPEN with good fields taken (R3). -/
def State.handleOpen (s : State) (l : Link) (account : Nat) (cash : Bool) : State :=
  if 999999 < account then s.replyCode l .malformed
  else match s.freeTicketSlot with
    | none => s.replyCode l .tableFull
    | some i =>
      (s.makeTicket i account cash).reply l
        ⟨.ok, .opened (nextGeneration (s.tickets.get i).generation * 256 + (i.val + 1)) s.tariff.active
          (minuteAdd s.clock.minute s.settings.ticketLife)⟩

/-- OPEN (R3): from the kiosk without a cash_allowed value, from the office with one. -/
def execOpenTicket (tag account : Nat) (cash : Option Nat) (s : State) : Outcome :=
  .next (match cash with
    | none => s.takeRequest .k 0x10 tag (fun s => s.handleOpen .k account (account == 0))
    | some c => s.takeRequest .f 0x10 tag (fun s =>
        match yesNo c with
        | some b => s.handleOpen .f account b
        | none => s.replyCode .f .malformed))

/-! ## Closing -/

/-- A ticket closed: OPEN becomes CLOSING, another state stands (R11, R12, R14). -/
def Ticket.toClosing (t : Ticket) : Ticket := if t.state = .opened then { t with state := .closing } else t

/-- The close of a ticket and the pricing test (R11, R12). -/
def State.closeTicket (s : State) (i : Fin 24) : State := (s.modifyTicket i Ticket.toClosing).priceTest i

/-- The answer to a QUOTE for a record in CLOSING or PRICED (R12). -/
def quoteAnswer (t : Ticket) : Answer :=
  match t.state, t.priced with
  | .closing, _ => ⟨.wait, .reasons (t.lanes.card != 0) (t.holds != 0) t.flags.recount⟩
  | .priced, some p => ⟨.price, .price p⟩
  | _, _ => ⟨.wrongState, .empty⟩

/-- The answer to a QUOTE as the ticket in a slot stands. -/
def State.answerQuote (s : State) (i : Fin 24) : State :=
  match s.ticketAt i with
  | some t => s.reply .k (quoteAnswer t)
  | none => s.replyCode .k .wrongState

/-- A QUOTE taken (R12). -/
def State.handleQuote (s : State) (ticket : Nat) : State :=
  match s.lookupTicket ticket with
  | none => s.replyCode .k .noSuchTicket
  | some (i, t) => if t.state = .opened then (s.closeTicket i).answerQuote i else s.answerQuote i

/-- QUOTE (R12). -/
def execQuote (tag ticket : Nat) (s : State) : Outcome :=
  .next (s.takeRequest .k 0x11 tag (fun s => s.handleQuote ticket))

/-- The state of the ticket in a slot; a FREE slot has none and reads as VOID. -/
def State.ticketStateAt (s : State) (i : Fin 24) : TicketState := ((s.ticketAt i).map Ticket.state).getD .voided

/-- A CLOSE taken (R11). -/
def State.handleClose (s : State) (ticket : Nat) : State :=
  match s.lookupTicket ticket with
  | none => s.replyCode .f .noSuchTicket
  | some (i, t) =>
    if t.state = .opened then
      let s1 := s.closeTicket i
      s1.reply .f ⟨.ok, .state (s1.ticketStateAt i)⟩
    else if t.state = .closing then s.reply .f ⟨.ok, .state .closing⟩
    else s.replyCode .f .wrongState

/-- CLOSE (R11). -/
def execClose (tag ticket : Nat) (s : State) : Outcome :=
  .next (s.takeRequest .f 0x14 tag (fun s => s.handleClose ticket))

/-! ## Corrections -/

/-- A counter plus a signed delta, held within 0..65,535 (R16). -/
def adjusted (counter : Nat) (delta : Int) : Nat :=
  let z : Int := counter + delta
  if z < 0 then 0 else if 65535 < z then 65535 else z.toNat

/-- Whether an ADJUST was held at either end (R16). -/
def adjustHeld (counter : Nat) (delta : Int) : Bool := decide ((counter : Int) + delta < 0) || decide (65535 < (counter : Int) + delta)

/-- A record after an ADJUST (R16). -/
def Ticket.adjust (t : Ticket) (c : Fin 16) (g : Grade) (o : Ownership) (delta : Int) : Ticket :=
  let t' := t.setCounter c g o (adjusted (t.counter c g o) delta)
  { t' with flags := { t'.flags with countSaturated := t'.flags.countSaturated || decide (65535 < (t.counter c g o : Int) + delta) } }

/-- An ADJUST with good fields taken (R16). -/
def State.adjustTicket (s : State) (ticket : Nat) (c : Fin 16) (g : Grade) (o : Ownership) (delta : Int) : State :=
  match s.lookupTicket ticket with
  | none => s.replyCode .f .noSuchTicket
  | some (i, t) =>
    if t.counting then
      (s.modifyTicket i (fun t => t.adjust c g o delta)).reply .f
        ⟨if adjustHeld (t.counter c g o) delta then .clamped else .ok, .counter (adjusted (t.counter c g o) delta)⟩
    else s.replyCode .f .wrongState

/-- An ADJUST taken (R16): the form first. -/
def State.handleAdjust (s : State) (ticket cls grade ownership : Nat) (delta : Int) : State :=
  match classIndex cls, gradeOfCode grade, ownershipOfCode ownership with
  | some c, some g, some o =>
    if -65535 ≤ delta ∧ delta ≤ 65535 then s.adjustTicket ticket c g o delta else s.replyCode .f .malformed
  | _, _, _ => s.replyCode .f .malformed

/-- ADJUST (R16). -/
def execAdjust (tag ticket cls grade ownership : Nat) (delta : Int) (s : State) : Outcome :=
  .next (s.takeRequest .f 0x18 tag (fun s => s.handleAdjust ticket cls grade ownership delta))

/-- RECOUNT cleared (R17). -/
def Ticket.clearRecount (t : Ticket) : Ticket := { t with flags := { t.flags with recount := false } }

/-- A CONFIRM_COUNT taken (R17). -/
def State.handleConfirmCount (s : State) (ticket : Nat) : State :=
  match s.lookupTicket ticket with
  | none => s.replyCode .f .noSuchTicket
  | some (i, t) =>
    if t.counting then ((s.modifyTicket i Ticket.clearRecount).priceTest i).replyCode .f .ok
    else s.replyCode .f .wrongState

/-- CONFIRM_COUNT (R17). -/
def execConfirmCount (tag ticket : Nat) (s : State) : Outcome :=
  .next (s.takeRequest .f 0x19 tag (fun s => s.handleConfirmCount ticket))

/-! ## Voiding -/

/-- VOID (R18): taken when its number names a ticket. -/
def execVoid (tag ticket : Nat) (s : State) : Outcome :=
  .next (s.takeRequest .f 0x15 tag (fun s =>
    match s.findTicket ticket with
    | none => s.replyCode .f .noSuchTicket
    | some _ => s.raiseOrBusy .f (.voidWalk ticket)))

/-- Every hold record naming a ticket is dropped and its slot freed (R19, R87). -/
def State.dropHolds (s : State) (ticket : Nat) : State :=
  { s with
    holds := s.holds.map (fun sl => { sl with hold := sl.hold.filter (fun h => h.ticket != ticket) })
    holdOrder := s.holdOrder.filter (fun n => match s.lookupHold n with | some (_, h) => h.ticket != ticket | none => true) }

/-- The record of a voided ticket (R19). -/
def Ticket.toVoid (t : Ticket) : Ticket := { t with state := .voided, holds := 0, lanes := LaneSet.empty }

/-- Batches closed by force on a list of lanes. -/
def State.closeBatches (s : State) (ns : List Lane) (why : CloseReason) : State := ns.foldl (fun s n => s.closeBatch n why) s

/-- The void of a ticket in OPEN, CLOSING or PRICED (R19). -/
def State.voidTicket (s : State) (ticket : Nat) (i : Fin 24) (t : Ticket) : State :=
  let s1 := s.modifyTicket i Ticket.toVoid
  let s2 : State := { s1 with register := s1.register.voidTicket ticket }
  let s3 := (s2.dropHolds ticket).closeBatches t.lanes.members .voided
  if t.counting then { s3 with tariff := s3.tariff.dropRef t.bank } else s3

/-- A served void (R18): the state after it, and its answer. -/
def State.carryVoid (s : State) (ticket : Nat) : State × Result :=
  match s.lookupTicket ticket with
  | none => (s, .noSuchTicket)
  | some (i, t) => if t.counting || t.state == .priced then (s.voidTicket ticket i t, .ok) else (s, .wrongState)

/-- VOID_WALK (R19). -/
def execVoidWalk (s : State) : Outcome :=
  .next (match s.arbiter.serving with
    | some (.office (.voidWalk ticket)) =>
      let (s1, r) := s.carryVoid ticket
      (s1.replyOldest .f 0x15 ⟨r, .empty⟩).completeOperation
    | _ => s)

/-! ## Settling to account, collecting and reading -/

/-- SETTLE_TO_ACCOUNT (R20): taken when its number names a ticket. -/
def execSettleToAccount (tag ticket : Nat) (s : State) : Outcome :=
  .next (s.takeRequest .f 0x1A tag (fun s =>
    match s.findTicket ticket with
    | none => s.replyCode .f .noSuchTicket
    | some _ => s.raiseOrBusy .f (.settle (.toAccount ticket))))

/-- The final record of COLLECT (R21): without lane set, holds outstanding and payout record. -/
def Ticket.final (t : Ticket) : Ticket := { t with lanes := LaneSet.empty, holds := 0, payout := none }

/-- A slot becomes FREE, its generation kept (R21). -/
def State.freeTicket (s : State) (i : Fin 24) : State := { s with tickets := s.tickets.modify i (fun sl => { sl with ticket := none }) }

/-- A COLLECT taken (R21). -/
def State.handleCollect (s : State) (ticket : Nat) : State :=
  match s.lookupTicket ticket with
  | none => s.replyCode .f .noSuchTicket
  | some (i, t) =>
    if t.state = .settled ∨ t.state = .voided then (s.freeTicket i).reply .f ⟨.ok, .ticket ticket t.final⟩
    else s.replyCode .f .wrongState

/-- COLLECT (R21). -/
def execCollect (tag ticket : Nat) (s : State) : Outcome :=
  .next (s.takeRequest .f 0x16 tag (fun s => s.handleCollect ticket))

/-- TICKET_READ (R22). -/
def execTicketRead (tag ticket : Nat) (s : State) : Outcome :=
  .next (s.takeRequest .f 0x17 tag (fun s =>
    match s.lookupTicket ticket with
    | none => s.replyCode .f .noSuchTicket
    | some (_, t) => s.reply .f ⟨.ok, .ticket ticket t⟩))

/-! ## The deadline (R14) -/

/-- Whether a record fires at a minute (R14). -/
def Ticket.firesAt (t : Ticket) (minute : Nat) : Bool := t.counting && !t.flags.forcedClose && atOrAfter minute t.deadline

/-- FORCED_CLOSE set (R14). -/
def Ticket.forceClose (t : Ticket) : Ticket := { t with flags := { t.flags with forcedClose := true } }

/-- The deadline test of one slot (R14). -/
def State.deadlineTest (s : State) (i : Fin 24) : State :=
  match s.ticketAt i with
  | none => s
  | some t =>
    if t.firesAt s.clock.minute then
      ((s.modifyTicket i Ticket.forceClose).closeBatches t.lanes.members .deadline).closeTicket i
    else s

/-- The deadline tests of the ticket table (R14). -/
def State.deadlineTests (s : State) : State := (List.finRange 24).foldl State.deadlineTest s

end Sys2Proof.Machine
end

