-- ==== Sys2Proof/Machine/Clock.lean ====
section
/-! DEFINITION. The yard clock (chapter 10): SET_CLOCK, REBASE, CLOCK_READ, CLOCK_SECOND and MINUTE_BOUNDARY. -/

namespace Sys2Proof.Machine

open Sys2Proof

/-! ## SET_CLOCK (R181) -/

/-- A rebase is raised (R181): served at once when the register is idle, else right after the operation in service (R111). -/
def Arbiter.raiseRebase (a : Arbiter) : Arbiter := if a.serving.isNone then { a with serving := some .rebase } else a

/-- A SET_CLOCK taken (R181). -/
def State.handleSetClock (s : State) (minute second : Nat) : State :=
  if minuteMod ≤ minute ∨ 59 < second then s.replyCode .f .malformed
  else if s.setPending.isSome then s.replyCode .f .busy
  else ({ s with setPending := some ⟨minute, second⟩ } : State).modifyArbiter Arbiter.raiseRebase

/-- SET_CLOCK (R181). -/
def execSetClock (tag minute second : Nat) (s : State) : Outcome :=
  .next (s.takeRequest .f 0x48 tag (fun s => s.handleSetClock minute second))

/-! ## The rebase (R182) -/

/-- A register entry's stamp moved (R182 step 1). -/
def KegEntry.rebase (delta : Nat) (e : KegEntry) : KegEntry :=
  { e with state := match e.state with
      | .pending t => .pending t
      | .credited st => .credited (minuteAdd st delta)
      | .issued st => .issued (minuteAdd st delta) }

/-- The register's stamps moved, the cold guard's end included (R182 step 1). -/
def Register.rebase (delta : Nat) (r : Register) : Register :=
  { r.update (KegEntry.rebase delta) with guardEnd := r.guardEnd.map (fun st => minuteAdd st delta) }

/-- A ticket's stamps moved (R182 step 2). -/
def Ticket.rebase (delta : Nat) (t : Ticket) : Ticket :=
  { t with opened := minuteAdd t.opened delta, deadline := minuteAdd t.deadline delta }

/-- A hold's stamps moved (R182 step 3). -/
def Hold.rebase (delta : Nat) (h : Hold) : Hold :=
  { h with held := minuteAdd h.held delta, deadline := minuteAdd h.deadline delta }

/-- A batch record's stamp moved (R182 step 4). -/
def Batch.rebase (delta : Nat) (b : Batch) : Batch := { b with boundAt := minuteAdd b.boundAt delta }

/-- The clock and every moving stamp changed in one step (R182). The five stamps of R180 that move are all here; the capture minute and the armed
time are not moved. -/
def State.rebaseTo (s : State) (c : ClockSet) : State :=
  let delta := minuteDiff c.minute s.clock.minute
  { s with
    register := s.register.rebase delta
    tickets := s.tickets.map (fun sl => { sl with ticket := sl.ticket.map (Ticket.rebase delta) })
    holds := s.holds.map (fun sl => { sl with hold := sl.hold.map (Hold.rebase delta) })
    lanes := s.lanes.map (fun i => { i with batch := i.batch.map (Batch.rebase delta) })
    clock := { s.clock with minute := c.minute, second := c.second }
    setPending := none }

/-- REBASE (R182): the step, its answer, the reached test, and the rotation goes on from the position last served. -/
def execRebase (s : State) : Outcome :=
  .next (match s.arbiter.serving, s.setPending with
    | some .rebase, some c =>
      (((s.rebaseTo c).replyOldest .f 0x48 ⟨.ok, .clockSet c.minute c.second⟩).reachedTest).completeOperation
    | _, _ => s)

/-! ## Reading the clock (R185) -/

/-- CLOCK_READ (R185). -/
def execClockRead (tag : Nat) (s : State) : Outcome :=
  .next (s.takeRequest .f 0x49 tag (fun s =>
    s.reply .f ⟨.ok, .clock s.clock.minute s.clock.second s.setPending.isSome s.batteryLow⟩))

/-! ## Counting time (R176, R178) -/

/-- The second goes from 59 to 0 and the minute count goes up by one (R176). -/
def Clock.minuteStep (c : Clock) : Clock := { c with minute := minuteAdd c.minute 1, second := 0 }

/-- The boundary is handed to the four blocks (R178). They touch different state and need no order among them. -/
def State.handBoundary (s : State) : State := s.deadlineTests.expireHolds.reachedTest.raiseExpiriesAndSweep

/-- A minute boundary (R176, R178): handed to the blocks while the part runs, counted as unpowered without supply, and only counted during a start
(R210). -/
def State.minuteBoundary (s : State) : State :=
  let s1 : State := { s with clock := s.clock.minuteStep }
  match s.phase with
  | .running => s1.handBoundary
  | .off => { s1 with clock := { s1.clock with unpowered := bump 262144 s1.clock.unpowered } }
  | .held _ => s1
  | .starting _ => s1

/-- MINUTE_BOUNDARY (R178; log 5). -/
def execMinuteBoundary (s : State) : Outcome := .next s.minuteBoundary

/-- CLOCK_SECOND (R176): its step from 59 to 0 is a minute boundary. -/
def execClockSecond (s : State) : Outcome :=
  .next (if s.clock.second < 59 then { s with clock := { s.clock with second := s.clock.second + 1 } } else s.minuteBoundary)

end Sys2Proof.Machine
end

