-- ==== Sys2Proof/Machine/Settings.lean ====
section
/-! DEFINITION. The settings store (chapter 12): the image and its check, SETTINGS_WRITE, SETTINGS_READ, SAVE_SETTINGS and SAVE_COMPLETE. -/

namespace Sys2Proof.Machine

open Sys2Proof

/-- The value of every setting, in identifier order and within an identifier in index order (R219). -/
def Settings.values (st : Settings) : List Nat :=
  [st.speed.lane.l0, st.speed.lane.l1, st.speed.lane.l2, st.speed.k, st.speed.f,
   st.modes.l0.code, st.modes.l1.code, st.modes.l2.code,
   st.silence, st.burst, st.gateFilter, st.tolerance, st.highMark, st.ownCode, st.ticketLife, st.holdTime, st.lockout, st.retention,
   st.payTimeout, st.cashStep, st.cashCap, st.tillLow]

/-- The values in four bytes each (R219; for the image, log 17). -/
def Settings.bytes (st : Settings) : List Byte := st.values.flatMap (leBytes 4)

/-- The signature of a valid image (R206). -/
def goodSignature : Byte := 0x5C

/-- The CRC-16 over a signature and values, computed as the frame check is (R206). -/
def imageCrc (signature : Byte) (st : Settings) : BitVec 16 := crc16 (signature :: st.bytes)

/-- An image is valid when its signature is 0x5C and its CRC matches its contents (R206). -/
def Image.valid (i : Image) : Bool := i.signature == goodSignature && i.crc == imageCrc i.signature i.values

/-- The image a save writes (R209 step 3). -/
def Image.of (st : Settings) : Image := ⟨goodSignature, st, imageCrc goodSignature st⟩

/-- An image whose signature is erased (R209 step 2; log 17). -/
def Image.erased (i : Image) : Image := { i with signature := 0xFF }

/-- The image state (R206, R208). -/
def State.imageState (s : State) : ImageState :=
  if s.saving.isSome then .writing else if s.image.valid then .valid else .invalid

/-- The differs flag (R208). -/
def State.differs (s : State) : Bool := s.imageState != .valid || s.image.values != s.settings

/-- The live settings a start loads, and whether they came from the image (R205, R210 step 1). -/
def Image.load (i : Image) : Settings := if i.valid then i.values else Settings.default

/-! ## SETTINGS_WRITE (R207) -/

/-- The work that waits on a written setting (R207): a sweep for the lockout and the retention. -/
def State.afterWrite (s : State) (identifier : Nat) : State :=
  if identifier = 10 ∨ identifier = 11 then s.raiseSweep else s

/-- A SETTINGS_WRITE taken (R207). -/
def State.handleSettingsWrite (s : State) (identifier index value : Nat) : State :=
  match s.settings.write identifier index value with
  | none => s.replyCode .f .malformed
  | some (st, stored) =>
    (({ s with settings := st } : State).afterWrite identifier).reply .f
      ⟨if stored = value then .ok else .clamped, .setting identifier index stored⟩

/-- SETTINGS_WRITE (R207). -/
def execSettingsWrite (tag identifier index value : Nat) (s : State) : Outcome :=
  .next (s.takeRequest .f 0x50 tag (fun s => s.handleSettingsWrite identifier index value))

/-- SETTINGS_READ (R208). -/
def execSettingsRead (tag : Nat) (s : State) : Outcome :=
  .next (s.takeRequest .f 0x51 tag (fun s => s.reply .f ⟨.ok, .settings s.imageState s.differs s.settings⟩))

/-! ## The save (R209) -/

/-- SAVE_SETTINGS (R209 steps 1 and 2): the copy is taken and the signature erased; the image as it was stays known to a reset during step 1. -/
def execSaveSettings (tag : Nat) (s : State) : Outcome :=
  .next (s.takeRequest .f 0x52 tag (fun s =>
    if s.saving.isSome then s.replyCode .f .busy
    else { s with saving := some ⟨s.settings, s.image⟩, image := s.image.erased }))

/-- SAVE_COMPLETE (R209): the read-back is the same as the copy, or differs. -/
def execSaveComplete (same : Bool) (s : State) : Outcome :=
  .next (match s.saving with
    | none => s
    | some save =>
      if same then ({ s with saving := none, image := Image.of save.copy } : State).replyOldest .f 0x52 ⟨.ok, .empty⟩
      else ((({ s with saving := none } : State).raiseSaveFailed).replyOldest .f 0x52 ⟨.saveFailed, .empty⟩))

end Sys2Proof.Machine
end

