-- ==== Sys2Proof/Machine/Frames.lean ====
section
/-! DEFINITION. The frames the part sends (chapter 13): codes, records, answer payloads and their segments, the part's own frames, and the
bytes of the frame being sent on a link. -/

namespace Sys2Proof.Machine

open Sys2Proof

/-! ## Codes -/

/-- The result codes (13.3). -/
def Result.code : Result → Nat
  | .ok => 0x00
  | .clamped => 0x01
  | .wait => 0x02
  | .wrongState => 0x03
  | .noSuchTicket => 0x04
  | .noSuchHold => 0x05
  | .tableFull => 0x06
  | .busy => 0x07
  | .ticketBusy => 0x08
  | .notCounting => 0x09
  | .locked => 0x0A
  | .bankInUse => 0x0B
  | .chainConflict => 0x0C
  | .registerFull => 0x0D
  | .conflict => 0x0E
  | .tillEmpty => 0x0F
  | .belowReserved => 0x10
  | .late => 0x11
  | .malformed => 0x12
  | .unknownKind => 0x13
  | .notAllowed => 0x14
  | .notFound => 0x15
  | .issueConflict => 0x16
  | .price => 0x20
  | .paygo => 0x21
  | .result => 0x22
  | .bound => 0x23
  | .saveFailed => 0x24
  | .removed => 0x25
  | .issued => 0x26

/-- The cause codes (13.3); NONE is 0. -/
def Cause.code : Cause → Nat
  | .malformed => 1
  | .noTicket => 2
  | .classClosed => 3
  | .watchVoid => 4
  | .doubleRead => 5
  | .foreignRefused => 6
  | .duplicate => 7
  | .watchHold => 8
  | .registerCold => 9
  | .noSerial => 10
  | .weakRead => 11
  | .tallyLimit => 12
  | .registerFull => 13
  | .holdPoolFull => 14
  | .overrun => 15
  | .laneMuted => 16
  | .stale => 17
  | .notCounting => 18

/-- An attention cause is coded by its priority (R196, R218). -/
def Attention.code : Attention → Nat
  | .doubt => 1
  | .retentionLost => 2
  | .settingsDefault => 3
  | .recount => 4
  | .watchHit => 5
  | .holdWaiting => 6
  | .laneFault => 7
  | .checkError => 8
  | .strayItems => 9
  | .tillLow => 10
  | .registerHigh => 11
  | .changeoverDone => 12
  | .saveFailed => 13

/-- A set coded with a bit for each member's code. -/
def setCode (codes : List Nat) : Nat := codes.foldl (fun a n => a ||| 2 ^ n) 0

/-- ACCEPT 0, HOLD 1, REFUSE 2 (13.4). -/
def Verdict.code : Verdict → Nat
  | .accept => 0
  | .hold => 1
  | .refuse => 2

/-- FULL 0, WORN 1, SCRAP 2 (R215). -/
def Grade.code : Grade → Nat
  | .full => 0
  | .worn => 1
  | .scrap => 2

/-- OWN 0, FOREIGN 1 (R215). -/
def Ownership.code : Ownership → Nat
  | .own => 0
  | .foreign => 1

/-- SERIAL 0, CLASS 1, TALLY 2; 0xFF absent (R215). -/
def modeCode : Option Mode → Nat
  | some .serial => 0
  | some .cls => 1
  | some .tally => 2
  | none => 0xFF

/-- The lane states (13.4). -/
def LaneState.code : LaneState → Nat
  | .down => 0
  | .listen => 1
  | .offering => 2
  | .acking => 3
  | .counting => 4
  | .sensed => 5
  | .muted => 6
  | .refused => 7

/-- NO_COMMON_MODE 0, SENSE_FAULT 1, 0xFF absent (13.4). -/
def refusalCode : Option RefusalReason → Nat
  | some .noCommonMode => 0
  | some .senseFault => 1
  | none => 0xFF

/-- UNBOUND reasons (R216). -/
def CloseReason.code : CloseReason → Nat
  | .unbind => 0
  | .deadline => 1
  | .voided => 2
  | .down => 3
  | .refused => 4

/-- A 0, B 1 (R216). -/
def BankId.code : BankId → Nat
  | .a => 0
  | .b => 1

/-- The ticket states (R217). -/
def TicketState.code : TicketState → Nat
  | .opened => 1
  | .closing => 2
  | .priced => 3
  | .paying => 4
  | .doubt => 5
  | .settled => 6
  | .voided => 7

/-- The watch fields (R216). -/
def WatchField.code : WatchField → Nat
  | .serial => 0
  | .owner => 1
  | .account => 2
  | .cls => 3

/-- The watch actions (R216). -/
def WatchAction.code : WatchAction → Nat
  | .note => 0
  | .hold => 1
  | .void => 2

/-- no 0, head 1, tail 2 (R218). -/
def Chained.code : Chained → Nat
  | .no => 0
  | .head => 1
  | .tail => 2

/-- VALID 0, INVALID 1, WRITING 2 (R219). -/
def ImageState.code : ImageState → Nat
  | .valid => 0
  | .invalid => 1
  | .writing => 2

/-- none 0, TRUNCATED 1, LENGTH 2, CHECK 3 (R220). -/
def DiscardReason.code : DiscardReason → Nat
  | .none => 0
  | .truncated => 1
  | .length => 2
  | .check => 3

/-- A lane set with bit n for lane n (R215). -/
def laneSetCode (ls : LaneSet) : Nat := setCode (ls.members.map Lane.num)

/-- 19,200 0, 57,600 1, 115,200 2 (R220). -/
def speedCode (baud : Nat) : Nat := if baud = 19200 then 0 else if baud = 57600 then 1 else 2

/-! ## Records -/

/-- The fields of a priced record (R217 offset 179). -/
def pricedFields : Option PricedRecord → List (Nat × Nat)
  | some p => [(4, p.gross), (2, p.fee), (4, p.net), (4, p.cash), (4, p.credit), (1, p.step), (4, p.cap)]
  | none => [(4, 0), (2, 0), (4, 0), (4, 0), (4, 0), (1, 0), (4, 0)]

/-- The fields of a payout record (R217 offset 202). -/
def payoutFields : Option PayoutRecord → List (Nat × Nat)
  | some o => [(4, o.reservation), (4, o.report.getD 0), (4, o.claim.getD 0)]
  | none => [(4, 0), (4, 0), (4, 0)]

/-- The fields of a settlement record (R217 offset 214). -/
def settlementFields : Option SettlementRecord → List (Nat × Nat)
  | some r => [(4, r.cash), (4, r.credit), (1, r.excess.toNat), (4, r.claim.getD 0)]
  | none => [(4, 0), (4, 0), (1, 0), (4, 0)]

/-- The flag byte of a ticket record (R217 offset 17). -/
def TicketFlags.code (f : TicketFlags) : Nat :=
  f.recount.toNat + 2 * f.countSaturated.toNat + 4 * f.totalClamped.toNat + 8 * f.note.toNat + 16 * f.forcedClose.toNat

/-- The present byte of a ticket record (R217 offset 18). -/
def Ticket.present (t : Ticket) : Nat :=
  t.priced.isSome.toNat + 2 * t.payout.isSome.toNat + 4 * (t.payout.any (fun o => o.report.isSome)).toNat
    + 8 * (t.payout.any (fun o => o.claim.isSome)).toNat + 16 * t.settlement.isSome.toNat
    + 32 * (t.settlement.any (fun r => r.claim.isSome)).toNat

/-- The 227-byte ticket record (R217). -/
def ticketRecord (number : Nat) (t : Ticket) : List Byte :=
  joinFields ([(2, number), (1, t.state.code), (3, t.account), (1, t.cashAllowed.toNat), (1, t.bank.code), (3, t.opened), (3, t.deadline),
      (1, laneSetCode t.lanes), (1, t.holds), (1, t.expired), (1, t.flags.code), (1, t.present)]
    ++ t.counts.cells.map (fun n => (2, n)) ++ t.scrap.cells.map (fun n => (2, n))
    ++ pricedFields t.priced ++ payoutFields t.payout ++ settlementFields t.settlement)

/-- The 29-byte hold record (R218). -/
def holdRecord (number : Nat) (h : Hold) : List Byte :=
  joinFields [(2, number), (2, h.ticket), (1, h.lane.num), (2, h.sequence), (1, classCode h.cls), (1, h.judged.val), (1, h.grade.code),
    (1, h.quantity), (1, h.owner), (1, h.ownership.code), (4, h.serial), (1, h.cause.code), (4, setCode (h.also.map Cause.code)),
    (1, h.entryMade.toNat), (3, h.held), (3, h.deadline)]

/-- The 90-byte SETTINGS_READ record (R219). -/
def settingsRecord (image : ImageState) (differs : Bool) (st : Settings) : List Byte :=
  joinFields [(1, image.code), (1, differs.toNat)] ++ st.bytes

/-- The six bytes of a link in LINK_STATUS (R220). -/
def linkBlock (p : Port) : List Byte :=
  joinFields [(1, speedCode p.speed), (1, p.error.toNat), (1, p.reason.code), (1, p.outstanding.length), (2, p.overflow)]

/-- The 28 bytes of a lane in LINK_STATUS (R220), with the tenths left of its break interval. -/
def laneBlock (p : Port) (i : Intake) (tenths : Nat) : List Byte :=
  joinFields [(2, p.lost), (1, i.state.code), (1, modeCode i.resolved),
    (1, match i.origin with | some .negotiated => 0 | some .sensed => 1 | none => 0xFF),
    (1, match i.former with | some st => st.code | none => 0xFF), (1, refusalCode i.refusal),
    (1, i.lastOffer.isSome.toNat), (1, match i.lastOffer with | some o => o.ability.code | none => 0),
    (1, match i.lastOffer with | some o => o.version | none => 0), (1, i.offerCount), (1, tenths),
    (1, i.queue.length), (1, i.landing.isSome.toNat), (1, i.slow.toNat), (2, i.stray),
    (1, match i.batch with | none => 0 | some b => if b.reason.isNone then 1 else 2),
    (2, match i.batch with | none => 0 | some b => b.ticket), (3, match i.batch with | none => 0 | some b => b.boundAt),
    (2, match i.batch with | none => 0 | some b => b.gate), (2, match i.batch with | none => 0 | some b => b.frames),
    (1, match i.batch with | none => 0 | some b => b.gap.toNat)]

/-- The tenths left of a lane's break interval, within 1..20 while its break timer runs, else 0 (R65; a free value, log 13). -/
def breakTenths (i : Intake) (index : Nat) : Nat := if i.breakTimer.isSome then 1 + min 19 (Config.breakTenths index) else 0

/-- The 116-byte LINK_STATUS record (R220). -/
def linkStatusRecord (s : State) : List Byte :=
  linkBlock (s.port (.lane .l0)) ++ linkBlock (s.port (.lane .l1)) ++ linkBlock (s.port (.lane .l2)) ++ linkBlock (s.port .k)
    ++ linkBlock (s.port .f)
    ++ laneBlock (s.port (.lane .l0)) (s.lane .l0) (breakTenths (s.lane .l0) s.freeIndex)
    ++ laneBlock (s.port (.lane .l1)) (s.lane .l1) (breakTenths (s.lane .l1) (s.freeIndex + 1))
    ++ laneBlock (s.port (.lane .l2)) (s.lane .l2) (breakTenths (s.lane .l2) (s.freeIndex + 2))
    ++ joinFields [(1, (s.port .k).up.toNat), (1, (s.port .f).up.toNat)]

/-! ## Answers -/

/-- The part's offer (13.4). -/
def PartOffer.fields (o : PartOffer) : List (Nat × Nat) :=
  [(1, o.ability.code), (1, 1), (1, o.ack.toNat), (1, o.state.code), (1, modeCode o.mode), (1, refusalCode o.refusal)]

/-- A class entry (R218). -/
def ClassEntry.fields (e : ClassEntry) : List (Nat × Nat) :=
  [(1, e.isOpen.toNat), (2, e.deposit), (1, e.worn), (1, e.pool), (1, e.serialRequired.toNat), (1, e.tallyLimit)]

/-- A watch rule (R218). -/
def WatchRule.fields (r : WatchRule) : List (Nat × Nat) :=
  [(1, r.enabled.toNat), (1, r.field.code), (4, r.value), (1, r.exponent), (1, r.action.code), (1, r.oneShot.toNat), (1, r.chain.toNat),
   (1, r.supervisor.toNat)]

/-- An armed time: whether armed, and T, 0 when not armed (R218; log 22). -/
def armedFields (armed : Option Nat) : List (Nat × Nat) := [(1, armed.isSome.toNat), (3, armed.getD 0)]

/-- The entry fields of a REGISTER_QUERY answer; 0 when there is none (R218). The fields a state does not have are 0 (log 22). -/
def kegFields (found : Option KegEntry) (age : Nat) : List (Nat × Nat) :=
  match found with
  | none => [(4, 0), (1, 0), (1, 0), (1, 0), (2, 0), (3, 0), (3, 0)]
  | some e =>
    [(4, e.serial), (1, e.owner), (1, e.cls.val)] ++
      (match e.state with
        | .pending t => [(1, 0), (2, t), (3, 0)]
        | .credited st => [(1, 1), (2, 0), (3, st)]
        | .issued st => [(1, 2), (2, 0), (3, st)])
      ++ [(3, age)]

/-- A capture; 0 when absent (R218; log 22). -/
def captureFields : Option Capture → List (Nat × Nat)
  | none => [(1, 0), (2, 0), (1, 0), (2, 0), (4, 0), (3, 0)]
  | some c => [(1, 1), (2, c.ticket), (1, c.lane.num), (2, c.sequence), (4, c.serial), (3, c.minute)]

/-- The bytes of an answer after its result byte and segment byte (13.4 to 13.9). -/
def Body.bytes : Body → List Byte
  | .empty => []
  | .offer o => joinFields o.fields
  | .bound number => joinFields [(2, number)]
  | .opened number bk deadline => joinFields [(2, number), (1, bk.code), (3, deadline)]
  | .state st => joinFields [(1, st.code)]
  | .counter v => joinFields [(2, v)]
  | .released number holds => joinFields [(2, number), (1, holds)]
  | .hold number h => holdRecord number h
  | .holdList numbers => joinFields ((1, numbers.length) :: numbers.map (fun n => (2, n)))
  | .ticket number t => ticketRecord number t
  | .reasons lanes holds recount => joinFields [(1, lanes.toNat + 2 * holds.toNat + 4 * recount.toNat)]
  | .price p => joinFields [(4, p.gross), (2, p.fee), (4, p.net), (4, p.cash), (4, p.credit)]
  | .paygo r cash credit => joinFields [(4, r), (4, cash), (4, credit)]
  | .paid cash credit => joinFields [(4, cash), (4, credit)]
  | .till balance reserved available => joinFields [(4, balance), (4, reserved), (4, available)]
  | .classEntry bk cls e => joinFields ([(1, bk.code), (1, cls)] ++ e.fields)
  | .fee bk amount => joinFields [(1, bk.code), (2, amount)]
  | .bank bk cls e amount standby refs armed =>
      joinFields ([(1, bk.code), (1, cls)] ++ e.fields ++ [(2, amount), (1, standby.toNat), (1, refs)] ++ armedFields armed)
  | .changeover armed active => joinFields (armedFields armed ++ [(1, active.code)])
  | .watchRule entry r => joinFields ((1, entry) :: r.fields)
  | .watchEntry entry e chained =>
      joinFields ((1, entry) :: e.rule.fields
        ++ [(1, chained.code), (1, e.hit.toNat), (2, e.count), (1, e.capture.isSome.toNat), (1, e.locked.toNat)])
  | .capture entry c hit count => joinFields ((1, entry) :: captureFields c ++ [(1, hit.toNat), (2, count)])
  | .issue results => joinFields (results.map (fun r => (1, r.code)))
  | .query found age s =>
      joinFields (kegFields found age ++ [(2, s.entries), (2, s.pending), (2, s.credited), (2, s.issued), (2, s.replacements),
        (1, s.guardEnd.isSome.toNat), (3, s.guardEnd.getD 0), (3, s.remaining)])
  | .clockSet minute second => joinFields [(3, minute), (1, second)]
  | .clock minute second setPending low => joinFields [(3, minute), (1, second), (1, setPending.toNat), (1, low.toNat)]
  | .setting identifier index value => joinFields [(1, identifier), (1, index), (4, value)]
  | .settings image differs values => settingsRecord image differs values
  | .linkStatus record => record
  | .attention highest pending =>
      joinFields [(1, match highest with | some a => a.code | none => 0), (2, setCode (pending.map Attention.code))]
  | .rejected kind => joinFields [(1, kind)]

/-- The KINDs whose answers are segmented (R214): COLLECT, TICKET_READ, HOLD_READ, SETTINGS_READ, LINK_STATUS. -/
def segmented (kind : Nat) : Bool := [0x16, 0x17, 0x21, 0x51, 0x58].contains kind

/-- How many segments a record of a length has (R214). -/
def segmentCount (length : Nat) : Nat := (length + 113) / 114

/-- The payload of one segment (R214): the result, the segment byte with bit 7 on the last, and 114 bytes of the record. -/
def segmentPayload (result : Nat) (record : List Byte) (index : Nat) : List Byte :=
  BitVec.ofNat 8 result :: BitVec.ofNat 8 (index + if index + 1 = segmentCount record.length then 128 else 0)
    :: (record.drop (114 * index)).take 114

/-- The KIND and payload of each frame of an answer, in the order they are sent (R214). -/
def answerFrames (kind : Nat) (a : Answer) : List (Nat × List Byte) :=
  match a.body with
  | .rejected k => [(0x7F, [BitVec.ofNat 8 k, BitVec.ofNat 8 a.result.code])]
  | .empty =>
      if segmented kind then [(kind + 0x80, [BitVec.ofNat 8 a.result.code, 0x80])]
      else [(kind + 0x80, [BitVec.ofNat 8 a.result.code])]
  | b =>
      if segmented kind then
        (List.range (segmentCount b.bytes.length)).map (fun i => (kind + 0x80, segmentPayload a.result.code b.bytes i))
      else [(kind + 0x80, BitVec.ofNat 8 a.result.code :: b.bytes)]

/-- The KIND and payload of a frame of the part's own (R216, 13.4). The 8 bytes that R216 gives UNBOUND have no place for the bound-at minute, which
the frame reports by R26 (log 40). -/
def OwnFrame.payload : OwnFrame → Nat × List Byte
  | .verdict v =>
      (0x70, joinFields [(2, v.sequence), (1, v.verdict.code), (1, match v.cause with | some c => c.code | none => 0),
        (4, setCode (v.also.map Cause.code)), (2, v.hold), (1, v.note.toNat)])
  | .flow slow => (0x71, joinFields [(1, slow.toNat)])
  | .unbound ticket reason _ gate frames failed =>
      (0x72, joinFields [(2, ticket), (1, reason.code), (2, gate), (2, frames), (1, failed.toNat)])
  | .offer o => (0x73, joinFields o.fields)

/-- The bytes of the frame being sent by a port: the head of the order of ready frames. -/
def Port.wire (p : Port) : List Byte :=
  match p.order with
  | [] => []
  | .own :: _ => match p.unsolicited with
    | [] => []
    | f :: _ => frameBytes f.payload.1 0 f.payload.2
  | .answer :: _ => match p.outstanding with
    | [] => []
    | r :: _ => match r.answer with
      | none => []
      | some a => match (answerFrames r.kind a)[p.segment]? with
        | some (kind, payload) => frameBytes kind r.tag payload
        | none => []

/-- The bytes of the frame being sent on a link. -/
def State.wire (s : State) (l : Link) : List Byte := (s.port l).wire

end Sys2Proof.Machine
end

