-- ==== Sys2Proof/Machine/Links.lean ====
section
/-! DEFINITION. Links and attention (chapter 11): KEEPALIVE, REJECT, FRAME_OVERFLOW, FRAME_DISCARD, GAP_TIMER_EXPIRY, LINK_SILENCE_EXPIRY,
LINK_STATUS, ATTENTION_READ and RESET_UNIT. -/

namespace Sys2Proof.Machine

open Sys2Proof

/-! ## Frames taken and not taken (R190, R191, R194) -/

/-- The REJECT answer to a frame of a KIND (R191): UNKNOWN_KIND, or NOT_ALLOWED for a known KIND. -/
def rejectAnswer (kind : Nat) : Answer := ⟨if knownKind kind then .notAllowed else .unknownKind, .rejected kind⟩

/-- A frame answered REJECT: it is taken, and changes no state beyond its port's lists and its link's silence timer. -/
def State.rejectFrame (s : State) (l : Link) (kind tag : Nat) : State :=
  s.takeRequest l kind tag (fun s => s.reply l (rejectAnswer kind))

/-- REJECT (R191): a KIND that names no frame kind, or a known KIND outside the link's row. A frame of an allowed KIND is not answered REJECT
(log 4). -/
def execReject (l : Link) (kind tag : Nat) (s : State) : Outcome :=
  .next (if (allowedKinds l).contains kind then s else s.rejectFrame l kind tag)

/-- KEEPALIVE (R194): answered OK on a lane link and on K. It is not a kind of link F and is answered REJECT there (R190; log 38). -/
def execKeepalive (l : Link) (tag : Nat) (s : State) : Outcome :=
  .next (if l = .f then s.rejectFrame .f 0x05 tag else s.takeRequest l 0x05 tag (fun s => s.replyCode l .ok))

/-- FRAME_OVERFLOW (R191): only a frame that would be taken, reaching a port with 32 requests outstanding. -/
def execFrameOverflow (l : Link) (s : State) : Outcome :=
  .next (if s.listening l ∧ s.hasRoom l = false then s.overflow l else s)

/-- The silence timer of K or F expires (R194). A lane's is LANE_SILENCE_EXPIRY. -/
def execLinkSilenceExpiry (l : Link) (s : State) : Outcome :=
  .next (match l with
    | .lane _ => s
    | .k => s.modifyPort .k (fun p => if p.silence.isSome then { p with up := false, silence := none } else p)
    | .f => s.modifyPort .f (fun p => if p.silence.isSome then { p with up := false, silence := none } else p))

/-! ## Discards (R189) -/

/-- The bytes of the frame being assembled are dropped, and the port returns to HUNT. -/
def Port.toHunt (p : Port) : Port := { p with assembly := .hunt, buffer := [], gap := none }

/-- The port's error flag and last reason set (R189). -/
def Port.flag (why : DiscardReason) (p : Port) : Port := { p with error := true, reason := why }

/-- The gap timer's length (R187). -/
def gapLength : Timer := some 20

/-- A SYNC is taken: LENGTH, with the byte kept and the gap timer started (R188, R189). -/
def Port.sync (p : Port) : Port := { p with assembly := .length, buffer := [syncByte], gap := gapLength }

/-- A discard (R189). A frame that would be dropped, on a lane link while the lane is DOWN or on any link in the silent period, sets no flag and
raises nothing. -/
def State.discard (s : State) (l : Link) (why : DiscardReason) : State :=
  if s.listening l then (s.modifyPort l (fun p => (p.toHunt).flag why)).raiseCheckError else s.modifyPort l Port.toHunt

/-- A LENGTH discard (R189): a LEN byte of value 0xC5 is itself the SYNC of a new frame. -/
def State.discardLength (s : State) (l : Link) (len : Byte) : State :=
  if len = syncByte then (s.discard l .length).modifyPort l Port.sync else s.discard l .length

/-- Whether a LEN byte is in 2..118 (R188). -/
def goodLen (len : Byte) : Bool := decide (2 ≤ len.toNat) && decide (len.toNat ≤ 118)

/-- FRAME_DISCARD (R189). A LEN in 2..118 is no reason to discard (log 4); the discard acts whatever the assembly state (log 37). -/
def execFrameDiscard (l : Link) (why : BadFrame) (s : State) : Outcome :=
  .next (if s.phase = .off then s
    else match why with
      | .length len => if goodLen len then s else s.discardLength l len
      | .check => s.discard l .check)

/-- GAP_TIMER_EXPIRY (R188): the running gap timer expires before the frame is complete. -/
def execGapTimerExpiry (l : Link) (s : State) : Outcome :=
  .next (if s.phase ≠ .off ∧ (s.port l).gap.isSome then s.discard l .truncated else s)

/-! ## LINK_STATUS, ATTENTION_READ, RESET_UNIT -/

/-- The error flag of every link cleared (R195). -/
def State.clearErrors (s : State) : State := { s with ports := s.ports.map (fun p => { p with error := false }) }

/-- LINK_STATUS (R195): the values as they stand, then the error flags of all five links are cleared. -/
def execLinkStatus (tag : Nat) (s : State) : Outcome :=
  .next (s.takeRequest .f 0x58 tag (fun s =>
    ({ s with freeIndex := s.freeIndex + 3 } : State).clearErrors.reply .f ⟨.ok, .linkStatus (linkStatusRecord s)⟩))

/-- ATTENTION_READ (R199): the highest cause and the whole set, and every edge cause in the answer is removed. Every pending edge cause is in it. -/
def execAttentionRead (tag : Nat) (s : State) : Outcome :=
  .next (s.takeRequest .f 0x5A tag (fun s =>
    ({ s with edges := Edges.none } : State).reply .f ⟨.ok, .attention s.pendingCauses.head? s.pendingCauses⟩))

/-- RESET_UNIT (R213): answered OK; the reset takes effect when that answer has been fully sent. -/
def execResetUnit (tag : Nat) (s : State) : Outcome :=
  .next (s.takeRequest .f 0x5B tag (fun s => s.replyCode .f .ok))

end Sys2Proof.Machine
end

