-- ==== Sys2Proof/Machine/Settlement.lean ====
section
/-! DEFINITION. Settlement, the till and payout (chapter 9): TILL_LOAD, TILL_COUNT, PAY, DISPENSED, PAY_TIMEOUT, RESOLVE, and the settle walk
(R116) with its four requesters. -/

namespace Sys2Proof.Machine

open Sys2Proof

/-! ## The till (R159, R160) -/

/-- The till as an answer carries it. -/
def Till.body (t : Till) : Body := .till t.balance t.reserved t.available

/-- A TILL_LOAD taken (R159): form, then key. -/
def State.handleTillLoad (s : State) (key : Bool) (amount : Nat) : State :=
  if maxAmount < amount then s.replyCode .f .malformed
  else if !key then s.replyCode .f .locked
  else
    let till : Till := { s.till with balance := min maxAmount (s.till.balance + amount) }
    ({ s with till := till } : State).reply .f ⟨if maxAmount < s.till.balance + amount then .clamped else .ok, till.body⟩

/-- TILL_LOAD (R159). -/
def execTillLoad (key : Bool) (tag amount : Nat) (s : State) : Outcome :=
  .next ((s.withKey key).takeRequest .f 0x29 tag (fun s => s.handleTillLoad key amount))

/-- A TILL_COUNT taken (R160): key, limit, reserved amount. -/
def State.handleTillCount (s : State) (key : Bool) (balance : Nat) : State :=
  if !key then s.replyCode .f .locked
  else if min maxAmount balance < s.till.reserved then s.replyCode .f .belowReserved
  else
    let till : Till := { s.till with balance := min maxAmount balance }
    ({ s with till := till } : State).reply .f ⟨if maxAmount < balance then .clamped else .ok, till.body⟩

/-- TILL_COUNT (R160). -/
def execTillCount (key : Bool) (tag balance : Nat) (s : State) : Outcome :=
  .next ((s.withKey key).takeRequest .f 0x2A tag (fun s => s.handleTillCount key balance))

/-! ## PAY (R162 to R165) -/

/-- The reservation of a PAY (R164): the lesser of the cash quote and the available amount rounded down to the step. -/
def reservationOf (available step cash : Nat) : Nat := min cash (available / step * step)

/-- The quotes after a PAY reserved R: a shortfall goes to credit (R164). -/
def PricedRecord.cutTo (p : PricedRecord) (r : Nat) : PricedRecord := { p with cash := r, credit := p.credit + (p.cash - r) }

/-- A record that enters PAYING with reservation R (R164). -/
def Ticket.toPaying (r : Nat) (t : Ticket) : Ticket :=
  { t with state := .paying, priced := t.priced.map (fun p => p.cutTo r), payout := some ⟨r, none, none⟩ }

/-- A PAY that reserves R above 0 (R164, R165). -/
def State.startPaying (s : State) (i : Fin 24) (p : PricedRecord) (r : Nat) : State :=
  ({ s.modifyTicket i (Ticket.toPaying r) with
      till := { s.till with reserved := s.till.reserved + r }
      payTimer := seconds s.settings.payTimeout } : State).reply .k
    ⟨.paygo, .paygo r (p.cutTo r).cash (p.cutTo r).credit⟩

/-- A PAY of a PRICED ticket while no ticket is PAYING (R163, R164). -/
def State.payPriced (s : State) (ticket : Nat) (i : Fin 24) (p : PricedRecord) : State :=
  if p.cash = 0 then s.raiseOrBusy .k (.settle (.pay ticket))
  else
    let r := reservationOf s.till.available p.step p.cash
    if r = 0 then s.replyCode .k .tillEmpty else s.startPaying i p r

/-- A PAY taken (R162): number, state, another ticket PAYING, cash quote. -/
def State.handlePay (s : State) (ticket : Nat) : State :=
  match s.lookupTicket ticket with
  | none => s.replyCode .k .noSuchTicket
  | some (i, t) =>
    match t.state, t.priced with
    | .priced, some p => if s.payingTicket.isSome then s.replyCode .k .busy else s.payPriced ticket i p
    | _, _ => s.replyCode .k .wrongState

/-- PAY (R162). -/
def execPay (tag ticket : Nat) (s : State) : Outcome :=
  .next (s.takeRequest .k 0x12 tag (fun s => s.handlePay ticket))

/-! ## DISPENSED and the pay timer (R166, R168, R169) -/

/-- The kiosk's report recorded (R166). -/
def Ticket.report (d : Nat) (t : Ticket) : Ticket := { t with payout := t.payout.map (fun p => { p with report := some d }) }

/-- The kiosk claim recorded, replacing an earlier one (R169). -/
def Ticket.claim (d : Nat) (t : Ticket) : Ticket := { t with payout := t.payout.map (fun p => { p with claim := some d }) }

/-- The kiosk's report of a record, if any. -/
def Ticket.reported (t : Ticket) : Option Nat := t.payout.bind PayoutRecord.report

/-- A report taken in PAYING (R166): refused BUSY when the office-side queue is full, and nothing is done. -/
def State.takeReport (s : State) (ticket : Nat) (i : Fin 24) (d : Nat) : State :=
  if s.arbiter.officeRoom then
    ({ s.modifyTicket i (Ticket.report d) with payTimer := none } : State).modifyArbiter
      (Arbiter.raiseOffice (.settle (.dispensed ticket)))
  else s.replyCode .k .busy

/-- A DISPENSED taken (R166, R169). -/
def State.handleDispensed (s : State) (ticket d : Nat) : State :=
  if maxAmount < d then s.replyCode .k .malformed
  else match s.lookupTicket ticket with
    | none => s.replyCode .k .noSuchTicket
    | some (i, t) =>
      if t.state = .paying then
        if t.reported.isSome then s.replyCode .k .busy else s.takeReport ticket i d
      else if t.state = .doubt then (s.modifyTicket i (Ticket.claim d)).replyCode .k .late
      else s.replyCode .k .wrongState

/-- DISPENSED (R166). -/
def execDispensed (tag ticket amount : Nat) (s : State) : Outcome :=
  .next (s.takeRequest .k 0x13 tag (fun s => s.handleDispensed ticket amount))

/-- A PAYING record enters DOUBT, its payout record kept (R168). -/
def Ticket.toDoubt (t : Ticket) : Ticket := if t.state = .paying then { t with state := .doubt } else t

/-- PAY_TIMEOUT (R168): the running pay timer expires and the paying ticket enters DOUBT. A stopped timer does not expire (log 4). -/
def execPayTimeout (s : State) : Outcome :=
  .next (match s.payTimer with
    | none => s
    | some _ =>
      let s1 : State := { s with payTimer := none }
      match s.payingTicket with
      | some i => s1.modifyTicket i Ticket.toDoubt
      | none => s1)

/-! ## RESOLVE (R171) -/

/-- A RESOLVE taken (R171): form, key, number, state. -/
def State.handleResolve (s : State) (key : Bool) (ticket p : Nat) : State :=
  if maxAmount < p then s.replyCode .f .malformed
  else if !key then s.replyCode .f .locked
  else match s.lookupTicket ticket with
    | none => s.replyCode .f .noSuchTicket
    | some (_, t) =>
      if t.state = .doubt then s.raiseOrBusy .f (.settle (.resolve ticket p)) else s.replyCode .f .wrongState

/-- RESOLVE (R171). -/
def execResolve (key : Bool) (tag ticket amount : Nat) (s : State) : Outcome :=
  .next ((s.withKey key).takeRequest .f 0x28 tag (fun s => s.handleResolve key ticket amount))

/-! ## The settle walk (R116) -/

/-- The ticket a settle walk was raised for. -/
def Settler.ticket : Settler → Nat
  | .toAccount n => n
  | .pay n => n
  | .dispensed n => n
  | .resolve n _ => n

/-- The KIND of the request that raised a settle walk. -/
def Settler.kind : Settler → Nat
  | .toAccount _ => 0x1A
  | .pay _ => 0x12
  | .dispensed _ => 0x13
  | .resolve _ _ => 0x28

/-- The link of the request that raised a settle walk. -/
def Settler.link : Settler → Link
  | .toAccount _ => .f
  | .pay _ => .k
  | .dispensed _ => .k
  | .resolve _ _ => .f

/-- How a walk settles a record: the settlement record, the reservation it takes out of the till, and the result of its answer. -/
structure Settling where
  record : SettlementRecord
  reservation : Nat
  result : Result
deriving DecidableEq, Repr

/-- How a requester's walk settles a record, absent when the record is not as the requester needs it (R20, R163, R167, R172). -/
def Settler.settling (w : Settler) (t : Ticket) : Option Settling :=
  match t.priced with
  | none => none
  | some p =>
    match w with
    | .toAccount _ => if t.state = .priced then some ⟨⟨0, p.net, false, none⟩, 0, .ok⟩ else none
    | .pay _ => if t.state = .priced then some ⟨⟨0, p.net, false, none⟩, 0, .result⟩ else none
    | .dispensed _ =>
      match t.state, t.payout with
      | .paying, some o =>
        match o.report with
        | some d => some ⟨⟨min d o.reservation, p.net - min d o.reservation, decide (o.reservation < d), none⟩, o.reservation, .result⟩
        | none => none
      | _, _ => none
    | .resolve _ a =>
      match t.state, t.payout with
      | .doubt, some o =>
        some ⟨⟨min a o.reservation, p.net - min a o.reservation, false, o.claim⟩, o.reservation,
          if o.reservation < a then .clamped else .ok⟩
      | _, _ => none

/-- A record as it enters SETTLED (R116, R173). -/
def Ticket.toSettled (r : SettlementRecord) (t : Ticket) : Ticket := { t with state := .settled, payout := none, settlement := some r }

/-- The till after a walk: reserved less the reservation, balance less the cash paid (R167, R172). -/
def Till.pay (t : Till) (reservation cash : Nat) : Till := ⟨t.balance - cash, t.reserved - reservation⟩

/-- A settle walk carried out (R116): the PENDING entries of the ticket become CREDITED in the step in which it enters SETTLED. -/
def State.settleTicket (s : State) (ticket : Nat) (i : Fin 24) (g : Settling) : State :=
  { s.modifyTicket i (Ticket.toSettled g.record) with
    register := s.register.creditTicket s.clock.minute ticket
    till := s.till.pay g.reservation g.record.cash }

/-- A served settle walk: the state after it, and its answer. The number of a DISPENSED names no ticket only in a state no run reaches: its
answer is then WRONG_STATE (R167; log 35). -/
def State.carrySettle (s : State) (w : Settler) : State × Answer :=
  match s.lookupTicket w.ticket with
  | none => (s, ⟨match w with | .dispensed _ => .wrongState | _ => .noSuchTicket, .empty⟩)
  | some (i, t) =>
    match w.settling t with
    | none => (s, ⟨.wrongState, .empty⟩)
    | some g => (s.settleTicket w.ticket i g, ⟨g.result, .paid g.record.cash g.record.credit⟩)

/-- SETTLE_WALK (R116). -/
def execSettleWalk (s : State) : Outcome :=
  .next (match s.arbiter.serving with
    | some (.office (.settle w)) =>
      let (s1, a) := s.carrySettle w
      (s1.replyOldest w.link w.kind a).completeOperation
    | _ => s)

end Sys2Proof.Machine
end

