-- ==== Sys2Proof/Machine/Startup.lean ====
section
/-! DEFINITION. Retained memory and start-up (chapter 12): POWER_ON_RESET, END_OF_START_UP, RESET_INPUT, RESET_INPUT_RELEASE, SUPPLY_LOSS, the
battery, and FRAME_SENT, whose RESET_UNIT answer starts a unit reset. -/

namespace Sys2Proof.Machine

open Sys2Proof

/-! ## What every start does -/

/-- A save cut short (R209): during step 1 the image is left as it was, before the end of step 3 as the erase left it, and during step 4 as step 3
wrote it. Which is free (log 12). -/
def State.cutSave (s : State) : State :=
  match s.saving with
  | none => s
  | some save =>
    { s with
      saving := none
      image :=
        if Config.saveWritten s.freeIndex then Image.of save.copy else if Config.saveErased s.freeIndex then s.image else save.former
      freeIndex := s.freeIndex + 1 }

/-- A cold start cut short (R204): before the last steps of the clearing it leaves the mark unwritten and the latch uncleared, and after them both as
they are (R212). Which is free (log 28). -/
def State.cutStart (s : State) : State :=
  match s.phase with
  | .starting (.cold latch) =>
    if Config.clearingDone s.freeIndex then { s with freeIndex := s.freeIndex + 1 }
    else { s with retentionMark := false, batteryFall := latch, freeIndex := s.freeIndex + 1 }
  | _ => s

/-- What a loss of supply or a recognised RESET cuts short: a save, or a cold start. -/
def State.cutShort (s : State) : State := s.cutSave.cutStart

/-- The settings load (R210 step 1): the image's values when it is valid, else the defaults with SETTINGS_DEFAULT raised. -/
def State.loadSettings (s : State) : State :=
  let s1 : State := { s with settings := s.image.load }
  if s.image.valid then s1 else s1.raiseSettingsDefault

/-- What lies outside the retained domain takes its start values (R203, R210 step 2), the ports with the speed of the live setting. -/
def State.startVolatile (s : State) : State :=
  { s with
    lanes := s.lanes.map (fun i => Intake.start i.gateLevel s.settings.gateFilter)
    ports := ⟨⟨Port.start s.settings.speed.lane.l0, Port.start s.settings.speed.lane.l1, Port.start s.settings.speed.lane.l2⟩,
      Port.start s.settings.speed.k, Port.start s.settings.speed.f⟩
    arbiter := Arbiter.start
    payTimer := none
    setPending := none }

/-- What lies outside the retained domain is lost (R203) at a recognised RESET or a loss of supply, before a start loads the settings: the ports
keep the speed in use (log 28). -/
def State.dropVolatile (s : State) : State :=
  { s with
    lanes := s.lanes.map (fun i => Intake.start i.gateLevel s.settings.gateFilter)
    ports := s.ports.map (fun p => Port.start p.speed)
    arbiter := Arbiter.start
    payTimer := none
    setPending := none }

/-! ## Warm fix-ups (R211) -/

/-- A kiosk report whose walk was not served becomes the claim (R175). -/
def PayoutRecord.afterStart (o : PayoutRecord) : PayoutRecord :=
  match o.report with
  | some d => ⟨o.reservation, none, some d⟩
  | none => o

/-- A PAYING record becomes DOUBT (R175). -/
def Ticket.doubtAtStart (t : Ticket) : Ticket :=
  if t.state = .paying then { t with state := .doubt, payout := t.payout.map PayoutRecord.afterStart } else t

/-- The lanes of a record are removed and RECOUNT is set when it listed any (R25). -/
def Ticket.unlistAtStart (t : Ticket) : Ticket :=
  if t.lanes.card = 0 then t else { t with lanes := LaneSet.empty, flags := { t.flags with recount := true } }

/-- The warm fix-ups of the retained domain (R211). -/
def State.warmFixups (s : State) : State :=
  { s with tickets := s.tickets.map (fun sl => { sl with ticket := sl.ticket.map (fun t => t.unlistAtStart.doubtAtStart) }) }

/-! ## The cold clearing (R212) -/

/-- The edge causes after a cold clearing (R202): RETENTION_LOST, and SETTINGS_DEFAULT when the image was not loaded. -/
def coldEdges (loaded : Bool) : Edges := { Edges.none with retentionLost := true, settingsDefault := !loaded }

/-- A cold start clears the retained domain; as the last steps of the clearing the mark's pattern is written and the latch cleared (R212). One cut
short before them is `State.cutStart`. -/
def State.coldClear (s : State) : State :=
  { s with
    tickets := Table.fill 24 ⟨0, none⟩
    holds := Table.fill 64 ⟨0, none⟩
    holdOrder := []
    register := Register.cold s.settings.lockout
    watch := Table.fill 8 WatchEntry.cold
    tariff := Tariff.cold
    till := ⟨0, 0⟩
    clock := ⟨0, 0, 0⟩
    edges := coldEdges s.image.valid
    retentionMark := true
    batteryFall := false }

/-! ## The two starts -/

/-- The retention check (R204): whether the start is warm. -/
def State.retained (s : State) : Bool := s.retentionMark && !s.batteryFall && decide (s.clock.unpowered < 262144)

/-- The start at power-on, steps 1 to 4 of R210. -/
def State.startAtPowerOn (s : State) : State :=
  let s1 := s.cutShort.loadSettings.startVolatile
  if s1.retained then { s1.warmFixups with clock := { s1.clock with unpowered := 0 }, phase := .starting .warm }
  else { s1.coldClear with phase := .starting (.cold s1.batteryFall) }

/-- The start of a unit reset: the same with the retention check omitted (R213). -/
def State.startAtReset (s : State) : State := { s.cutSave.loadSettings.startVolatile.warmFixups with phase := .starting .unit }

/-- POWER_ON_RESET (R210): supply rises; with supply applied already it has fallen and risen (log 28). -/
def execPowerOnReset (s : State) : Outcome := .next s.startAtPowerOn

/-- Whether a start was begun at power-on. -/
def StartKind.powerOn : StartKind → Bool
  | .warm => true
  | .cold _ => true
  | .unit => false

/-- RESET_INPUT (R213): recognised, it takes effect at once and the part is silent until the input returns inactive. -/
def State.holdReset (s : State) (powerOn : Bool) : State := { s.cutShort.dropVolatile with phase := .held powerOn }

/-- RESET_INPUT (R213): a RESET recognised during a start begins that start again (log 29). Without supply nothing is recognised. -/
def execResetInput (s : State) : Outcome :=
  .next (match s.phase with
    | .off => s
    | .held _ => s
    | .starting kind => s.holdReset kind.powerOn
    | .running => s.holdReset false)

/-- RESET_INPUT_RELEASE (R213): the start proceeds from step 1. -/
def execResetInputRelease (s : State) : Outcome :=
  .next (match s.phase with
    | .held true => s.startAtPowerOn
    | .held false => s.startAtReset
    | _ => s)

/-- The links open (R210 step 6): each lane's break timer starts at 2 s. -/
def State.openLinks (s : State) : State :=
  { s with phase := .running, lanes := s.lanes.map (fun i => { i with breakTimer := seconds 2 }) }

/-- END_OF_START_UP (R210 steps 5 and 6). The level causes are conditions read from the state, so they stand re-evaluated (log 11). -/
def execEndOfStartUp (s : State) : Outcome :=
  .next (match s.phase with
    | .starting _ => s.handBoundary.openLinks
    | _ => s)

/-- SUPPLY_LOSS (R203): the retained domain is kept, the rest is lost. A cell that is already below its working voltage has not fallen while supply
is off, so the latch and the domain stand as they are (the model's choice, log 41); a BATTERY_FALL that follows loses them. -/
def execSupplyLoss (s : State) : Outcome :=
  .next (match s.phase with
    | .off => s
    | _ => { s.cutShort.dropVolatile with phase := .off })

/-! ## The battery (R201, R204) -/

/-- The cell falls below its working voltage, or is removed, while supply is off: the latch is set (R204), and the retained domain is lost (R176),
its mark with the rest (R203, R204; log 24). -/
def State.loseDomain (s : State) : State := { s with batteryLow := true, batteryFall := true, retentionMark := false }

/-- BATTERY_FALL (R204): with supply off the latch is set and the mark lost; with supply applied only the level changes (log 24). -/
def execBatteryFall (s : State) : Outcome :=
  .next (if s.phase = .off then s.loseDomain else { s with batteryLow := true })

/-- BATTERY_LEVEL_CHANGE (R201): with supply applied the level changes and the latch stands; a fall with supply off is a BATTERY_FALL (log 24). -/
def execBatteryLevelChange (low : Bool) (s : State) : Outcome :=
  .next (if low && s.phase == .off then s.loseDomain else { s with batteryLow := low })

/-! ## FRAME_SENT (R192, R193) -/

/-- The answer being sent is fully sent: the request leaves the outstanding list (R192). -/
def Port.answerSent (p : Port) : Port := { p with outstanding := p.outstanding.tail, order := p.order.tail, segment := 0 }

/-- An unsolicited frame is fully sent (R193). -/
def Port.ownSent (p : Port) : Port := { p with unsolicited := p.unsolicited.tail, order := p.order.tail }

/-- How many frames the answer of a request has (R214). -/
def Request.frameCount (r : Request) : Nat :=
  match r.answer with
  | some a => (answerFrames r.kind a).length
  | none => 0

/-- The KIND of RESET_UNIT. -/
def resetUnitKind : Nat := 0x5B

/-- Whether a request is a RESET_UNIT answered OK (R213). -/
def Request.resets (r : Request) : Bool := r.kind == resetUnitKind && r.answer == some ⟨.ok, .empty⟩

/-- The frame of an answer has been sent (R192, R214): the next segment follows, or the request leaves the list; after a RESET_UNIT's OK the unit
reset takes effect (R213). -/
def State.answerFrameSent (s : State) (l : Link) : State :=
  match (s.port l).outstanding with
  | [] => s
  | r :: _ =>
    if (s.port l).segment + 1 < r.frameCount then s.modifyPort l (fun p => { p with segment := p.segment + 1 })
    else
      let s1 := s.modifyPort l Port.answerSent
      if r.resets then s1.startAtReset else s1

/-- FRAME_SENT (R193): a port that is sending no frame completes none. -/
def execFrameSent (l : Link) (s : State) : Outcome :=
  .next (match (s.port l).order with
    | [] => s
    | .answer :: _ => s.answerFrameSent l
    | .own :: _ => s.modifyPort l Port.ownSent)

end Sys2Proof.Machine
end

