-- ==== Sys2Proof/Machine/Bytes.lean ====
section
/-! DEFINITION. Bytes received (chapter 11, R188, R189): the assembly of a frame, and the taking of the frame its last byte completes. -/

namespace Sys2Proof.Machine

open Sys2Proof

/-- The meaning of a frame's command; a command that is no frame is never decoded and does nothing. -/
def runFrame (c : Instr) (s : State) : Outcome :=
  match c with
  | .offer n tag ability version ack => execOffer n tag ability version ack s
  | .item n it => execItem n it s
  | .bind n tag ticket => execBind n tag ticket s
  | .unbind n tag => execUnbind n tag s
  | .keepalive l tag => execKeepalive l tag s
  | .openTicket tag account cash => execOpenTicket tag account cash s
  | .quote tag ticket => execQuote tag ticket s
  | .close tag ticket => execClose tag ticket s
  | .adjust tag ticket cls grade ownership delta => execAdjust tag ticket cls grade ownership delta s
  | .confirmCount tag ticket => execConfirmCount tag ticket s
  | .void tag ticket => execVoid tag ticket s
  | .voidWalk => .next s
  | .settleToAccount tag ticket => execSettleToAccount tag ticket s
  | .settleWalk => .next s
  | .collect tag ticket => execCollect tag ticket s
  | .ticketRead tag ticket => execTicketRead tag ticket s
  | .pay tag ticket => execPay tag ticket s
  | .dispensed tag ticket amount => execDispensed tag ticket amount s
  | .payTimeout => .next s
  | .resolve key tag ticket amount => execResolve key tag ticket amount s
  | .tillLoad key tag amount => execTillLoad key tag amount s
  | .tillCount key tag balance => execTillCount key tag balance s
  | .release tag hold verdict amended => execRelease tag hold verdict amended s
  | .releaseOperation => .next s
  | .holdRead tag selector number => execHoldRead tag selector number s
  | .bankWrite tag cls entry => execBankWrite tag cls entry s
  | .feeWrite tag fee => execFeeWrite tag fee s
  | .bankRead tag bank cls => execBankRead tag bank cls s
  | .changeoverArm tag time => execChangeoverArm tag time s
  | .changeoverDisarm tag => execChangeoverDisarm tag s
  | .watchWrite key tag entry rule => execWatchWrite key tag entry rule s
  | .watchRead tag entry => execWatchRead tag entry s
  | .captureRead key tag entry => execCaptureRead key tag entry s
  | .issue tag serials => execIssue tag serials s
  | .issueOperation => .next s
  | .registerQuery tag serial => execRegisterQuery tag serial s
  | .registerQueryOperation => .next s
  | .clearGuard key tag => execClearGuard key tag s
  | .clearGuardOperation => .next s
  | .setClock tag minute second => execSetClock tag minute second s
  | .rebase => .next s
  | .clockRead tag => execClockRead tag s
  | .settingsWrite tag identifier index value => execSettingsWrite tag identifier index value s
  | .settingsRead tag => execSettingsRead tag s
  | .saveSettings tag => execSaveSettings tag s
  | .saveComplete _ => .next s
  | .linkStatus tag => execLinkStatus tag s
  | .restartLane tag lane => execRestartLane tag lane s
  | .attentionRead tag => execAttentionRead tag s
  | .resetUnit tag => execResetUnit tag s
  | .reject _ _ _ => .next s
  | .frameOverflow _ => .next s
  | .frameDiscard _ _ => .next s
  | .gapTimerExpiry _ => .next s
  | .frameSent _ => .next s
  | .takeInHand _ => .next s
  | .verdictOperation => .next s
  | .laneSilenceExpiry _ => .next s
  | .breakIntervalEnd _ => .next s
  | .muteRelease _ => .next s
  | .burstWindowRestart => .next s
  | .linkSilenceExpiry _ => .next s
  | .gateInputChange _ _ => .next s
  | .gateEdge _ => .next s
  | .minuteBoundary => .next s
  | .holdExpiryOperation => .next s
  | .sweep => .next s
  | .powerOnReset => .next s
  | .endOfStartUp => .next s
  | .resetInput => .next s
  | .resetInputRelease => .next s
  | .supplyLoss => .next s
  | .batteryFall => .next s
  | .byteReceived _ _ _ => .next s
  | .clockSecond => .next s
  | .batteryLevelChange _ => .next s

/-- An ITEM of a wrong length (R191): no VERDICT, no list, but a frame taken. -/
def State.takeBadItem (s : State) (l : Link) : State :=
  if s.listening l then (if s.hasRoom l then s.heardLane l else s.overflow l) else s

/-- A payload of a wrong length (R191): refused MALFORMED in the KIND's own answer, or for an ITEM with no answer. -/
def State.takeBadLength (s : State) (l : Link) (kind tag : Nat) : State :=
  if kind = 0x02 then s.takeBadItem l else s.takeRequest l kind tag (fun s => s.replyCode l .malformed)

/-- A complete frame is handed on (R191): dropped, not taken, answered REJECT, refused MALFORMED, or handled by its owner. -/
def takeFrame (l : Link) (key : Bool) (kind tag : Nat) (payload : List Byte) (s : State) : Outcome :=
  match decodeFrame l key kind tag payload with
  | .unknownKind => .next (s.rejectFrame l kind tag)
  | .notAllowed => .next (s.rejectFrame l kind tag)
  | .badLength => .next (s.takeBadLength l kind tag)
  | .command c => runFrame c s

/-- The LEN of the frame being assembled. -/
def Port.len (p : Port) : Nat := (p.buffer.getD 1 0).toNat

/-- A byte kept, with the gap timer restarted (R188). -/
def Port.keep (b : Byte) (p : Port) : Port := { p with buffer := p.buffer ++ [b], gap := gapLength }

/-- A body byte kept: after LEN of them the state is CHECK (R188). -/
def Port.keepBody (b : Byte) (p : Port) : Port :=
  let p' := p.keep b
  { p' with assembly := if p'.buffer.length = p.len + 2 then .check else .body }

/-- The bytes the check covers: LEN and the body (R188). -/
def Port.covered (p : Port) : List Byte := (p.buffer.drop 1).take (p.len + 1)

/-- The check of the frame whose second CHECK byte has arrived (R188). -/
def Port.checkMatches (p : Port) (b : Byte) : Bool := p.buffer.drop (p.len + 2) ++ [b] == checkBytes p.covered

/-- The second CHECK byte (R188, R189). -/
def State.endFrame (s : State) (l : Link) (key : Bool) (b : Byte) : Outcome :=
  let p := s.port l
  if p.checkMatches b then
    takeFrame l key (p.buffer.getD 2 0).toNat (p.buffer.getD 3 0).toNat ((p.buffer.drop 4).take (p.len - 2)) (s.modifyPort l Port.toHunt)
  else .next (s.discard l .check)

/-- A byte is received (R188). -/
def State.receive (s : State) (l : Link) (key : Bool) (b : Byte) : Outcome :=
  match (s.port l).assembly with
  | .hunt => .next (if b = syncByte then s.modifyPort l Port.sync else s)
  | .length =>
    .next (if goodLen b then s.modifyPort l (fun p => { p.keep b with assembly := .body }) else s.discardLength l b)
  | .body => .next (s.modifyPort l (Port.keepBody b))
  | .check =>
    if (s.port l).buffer.length = (s.port l).len + 2 then .next (s.modifyPort l (Port.keep b)) else s.endFrame l key b

/-- BYTE_RECEIVED (R188). Without supply no byte is received (log 4); the last byte of a frame runs the frame (log 34). -/
def execByteReceived (l : Link) (key : Bool) (b : Byte) (s : State) : Outcome :=
  if s.phase = .off then .next s else (s.withKey key).receive l key b

end Sys2Proof.Machine
end

