-- ==== Sys2Proof/Machine/Dispatch.lean ====
section
/-! DEFINITION. The meaning of every command: one arm per constructor of `Instr`, each a direct call of its meaning. -/

namespace Sys2Proof.Machine

open Sys2Proof

/-- A command's effect on everything but the queue of waiting commands. -/
def exec (i : Instr) (s : State) : Host.Outcome State Fault Refusal :=
  match i with
  | .offer n tag ability version ack => Sys2Proof.Machine.execOffer n tag ability version ack s
  | .item n it => Sys2Proof.Machine.execItem n it s
  | .bind n tag ticket => Sys2Proof.Machine.execBind n tag ticket s
  | .unbind n tag => Sys2Proof.Machine.execUnbind n tag s
  | .keepalive l tag => Sys2Proof.Machine.execKeepalive l tag s
  | .openTicket tag account cash => Sys2Proof.Machine.execOpenTicket tag account cash s
  | .quote tag ticket => Sys2Proof.Machine.execQuote tag ticket s
  | .close tag ticket => Sys2Proof.Machine.execClose tag ticket s
  | .adjust tag ticket cls grade ownership delta => Sys2Proof.Machine.execAdjust tag ticket cls grade ownership delta s
  | .confirmCount tag ticket => Sys2Proof.Machine.execConfirmCount tag ticket s
  | .void tag ticket => Sys2Proof.Machine.execVoid tag ticket s
  | .voidWalk => Sys2Proof.Machine.execVoidWalk s
  | .settleToAccount tag ticket => Sys2Proof.Machine.execSettleToAccount tag ticket s
  | .settleWalk => Sys2Proof.Machine.execSettleWalk s
  | .collect tag ticket => Sys2Proof.Machine.execCollect tag ticket s
  | .ticketRead tag ticket => Sys2Proof.Machine.execTicketRead tag ticket s
  | .pay tag ticket => Sys2Proof.Machine.execPay tag ticket s
  | .dispensed tag ticket amount => Sys2Proof.Machine.execDispensed tag ticket amount s
  | .payTimeout => Sys2Proof.Machine.execPayTimeout s
  | .resolve key tag ticket amount => Sys2Proof.Machine.execResolve key tag ticket amount s
  | .tillLoad key tag amount => Sys2Proof.Machine.execTillLoad key tag amount s
  | .tillCount key tag balance => Sys2Proof.Machine.execTillCount key tag balance s
  | .release tag hold verdict amended => Sys2Proof.Machine.execRelease tag hold verdict amended s
  | .releaseOperation => Sys2Proof.Machine.execReleaseOperation s
  | .holdRead tag selector number => Sys2Proof.Machine.execHoldRead tag selector number s
  | .bankWrite tag cls entry => Sys2Proof.Machine.execBankWrite tag cls entry s
  | .feeWrite tag fee => Sys2Proof.Machine.execFeeWrite tag fee s
  | .bankRead tag bank cls => Sys2Proof.Machine.execBankRead tag bank cls s
  | .changeoverArm tag time => Sys2Proof.Machine.execChangeoverArm tag time s
  | .changeoverDisarm tag => Sys2Proof.Machine.execChangeoverDisarm tag s
  | .watchWrite key tag entry rule => Sys2Proof.Machine.execWatchWrite key tag entry rule s
  | .watchRead tag entry => Sys2Proof.Machine.execWatchRead tag entry s
  | .captureRead key tag entry => Sys2Proof.Machine.execCaptureRead key tag entry s
  | .issue tag serials => Sys2Proof.Machine.execIssue tag serials s
  | .issueOperation => Sys2Proof.Machine.execIssueOperation s
  | .registerQuery tag serial => Sys2Proof.Machine.execRegisterQuery tag serial s
  | .registerQueryOperation => Sys2Proof.Machine.execRegisterQueryOperation s
  | .clearGuard key tag => Sys2Proof.Machine.execClearGuard key tag s
  | .clearGuardOperation => Sys2Proof.Machine.execClearGuardOperation s
  | .setClock tag minute second => Sys2Proof.Machine.execSetClock tag minute second s
  | .rebase => Sys2Proof.Machine.execRebase s
  | .clockRead tag => Sys2Proof.Machine.execClockRead tag s
  | .settingsWrite tag identifier index value => Sys2Proof.Machine.execSettingsWrite tag identifier index value s
  | .settingsRead tag => Sys2Proof.Machine.execSettingsRead tag s
  | .saveSettings tag => Sys2Proof.Machine.execSaveSettings tag s
  | .saveComplete same => Sys2Proof.Machine.execSaveComplete same s
  | .linkStatus tag => Sys2Proof.Machine.execLinkStatus tag s
  | .restartLane tag lane => Sys2Proof.Machine.execRestartLane tag lane s
  | .attentionRead tag => Sys2Proof.Machine.execAttentionRead tag s
  | .resetUnit tag => Sys2Proof.Machine.execResetUnit tag s
  | .reject l kind tag => Sys2Proof.Machine.execReject l kind tag s
  | .frameOverflow l => Sys2Proof.Machine.execFrameOverflow l s
  | .frameDiscard l why => Sys2Proof.Machine.execFrameDiscard l why s
  | .gapTimerExpiry l => Sys2Proof.Machine.execGapTimerExpiry l s
  | .frameSent l => Sys2Proof.Machine.execFrameSent l s
  | .takeInHand n => Sys2Proof.Machine.execTakeInHand n s
  | .verdictOperation => Sys2Proof.Machine.execVerdictOperation s
  | .laneSilenceExpiry n => Sys2Proof.Machine.execLaneSilenceExpiry n s
  | .breakIntervalEnd n => Sys2Proof.Machine.execBreakIntervalEnd n s
  | .muteRelease n => Sys2Proof.Machine.execMuteRelease n s
  | .burstWindowRestart => Sys2Proof.Machine.execBurstWindowRestart s
  | .linkSilenceExpiry l => Sys2Proof.Machine.execLinkSilenceExpiry l s
  | .gateInputChange n broken => Sys2Proof.Machine.execGateInputChange n broken s
  | .gateEdge n => Sys2Proof.Machine.execGateEdge n s
  | .minuteBoundary => Sys2Proof.Machine.execMinuteBoundary s
  | .holdExpiryOperation => Sys2Proof.Machine.execHoldExpiryOperation s
  | .sweep => Sys2Proof.Machine.execSweep s
  | .powerOnReset => Sys2Proof.Machine.execPowerOnReset s
  | .endOfStartUp => Sys2Proof.Machine.execEndOfStartUp s
  | .resetInput => Sys2Proof.Machine.execResetInput s
  | .resetInputRelease => Sys2Proof.Machine.execResetInputRelease s
  | .supplyLoss => Sys2Proof.Machine.execSupplyLoss s
  | .batteryFall => Sys2Proof.Machine.execBatteryFall s
  | .byteReceived l key b => Sys2Proof.Machine.execByteReceived l key b s
  | .clockSecond => Sys2Proof.Machine.execClockSecond s
  | .batteryLevelChange low => Sys2Proof.Machine.execBatteryLevelChange low s

end Sys2Proof.Machine
end

