-- ==== Sys2Proof/Safety.lean ====
section
/-! DEFINITION. The laws of the device as properties of a state, and the words the statements use for a request that is taken. -/

namespace Sys2Proof.Machine

open Sys2Proof

/-! ## Requests that are taken -/

/-- Frames that reach a link are taken, and its port has room for one more request (R191). -/
def State.canTake (s : State) (l : Link) : Prop := s.listening l = true ∧ s.hasRoom l = true

/-- A request joined its link's outstanding list with no answer yet, and its link has been heard (R191, R194, R62). -/
def State.waiting (s : State) (l : Link) (kind tag : Nat) : State :=
  ((s.heardDesk l).modifyPort l (Port.enqueue kind tag)).heardLane l

/-- A request joined its link's outstanding list with its answer made, and its link has been heard. -/
def State.answered (s : State) (l : Link) (kind tag : Nat) (a : Answer) : State :=
  (((s.heardDesk l).modifyPort l (Port.enqueue kind tag)).reply l a).heardLane l

/-- The same, for an answer that carries its result alone. -/
def State.refusedWith (s : State) (l : Link) (kind tag : Nat) (r : Result) : State := s.answered l kind tag ⟨r, .empty⟩

/-- The key input as a command carries it (log 7); a command that carries no key level leaves it as it stands. -/
def State.keyed (s : State) : Instr → State
  | .resolve key _ _ _ => s.withKey key
  | .tillLoad key _ _ => s.withKey key
  | .tillCount key _ _ => s.withKey key
  | .watchWrite key _ _ _ => s.withKey key
  | .captureRead key _ _ => s.withKey key
  | .clearGuard key _ => s.withKey key
  | .byteReceived _ key _ => s.withKey key
  | _ => s

/-- A frame that reaches a link while its master's frames are not taken: before the links open, or on a lane link while the lane is DOWN. -/
def State.deaf (s : State) (l : Link) : Prop := s.phase ≠ .running ∨ ∃ n : Lane, l = .lane n ∧ (s.lane n).state = .down

/-- The record in a slot of the ticket table replaced. -/
def State.putTicket (s : State) (i : Fin 24) (t : Ticket) : State := s.modifyTicket i (fun _ => t)

/-- A request joined its link's outstanding list and its office-side operation is raised (R109, R110). -/
def State.queued (s : State) (l : Link) (kind tag : Nat) (op : OfficeOp) : State :=
  (s.waiting l kind tag).modifyArbiter (Arbiter.raiseOffice op)

/-- A command that raises an office-side operation: it waits unanswered while the queue has room, and is refused BUSY when it would be the
seventeenth waiting (R110). -/
def State.asksRegister (s : State) (c : Instr) (l : Link) (kind tag : Nat) (op : OfficeOp) : Prop :=
  (s.arbiter.office.length < 16 → exec c s = .next ((s.keyed c).queued l kind tag op))
    ∧ (16 ≤ s.arbiter.office.length → exec c s = .next ((s.keyed c).refusedWith l kind tag .busy))

/-- The operation in service is complete: the answer of its request is made, and the register serves on (R110, R192). -/
def State.finished (s : State) (l : Link) (kind : Nat) (a : Answer) : State := (s.replyOldest l kind a).completeOperation

/-- The numbered slot holds a record. -/
def State.holdsTicket (s : State) (number : Nat) (i : Fin 24) (t : Ticket) : Prop := s.lookupTicket number = some (i, t)

/-- The numbered slot holds a hold. -/
def State.holdsHold (s : State) (number : Nat) (i : Fin 64) (h : Hold) : Prop := s.lookupHold number = some (i, h)

/-! ## Frames of the part's own, and bytes -/

/-- A frame of the part's own that verdict logic did not make (R193): it joins the unsolicited list of its lane port and becomes ready, or is lost
and counted when that list holds 15 frames or more. -/
def State.sentOrLost (s : State) (n : Lane) (f : OwnFrame) : State :=
  s.modifyPort (.lane n) (fun p =>
    if p.unsolicited.length < 15 then { p with unsolicited := p.unsolicited ++ [f], order := p.order ++ [.own] }
    else { p with lost := min 65535 (p.lost + 1) })

/-- A value in `width` bytes, least significant first (00 CONVENTIONS). -/
def littleEndian (width value : Nat) : List Byte := (List.range width).map (fun i => BitVec.ofNat 8 (value / 256 ^ i))

/-- The payload lengths of the KINDs a link's master may send (R216). -/
def payloadLengths (l : Link) (kind : Nat) : List Nat :=
  match l with
  | .lane _ => match kind with
    | 0x01 => [3]
    | 0x02 => [11]
    | 0x03 => [2]
    | _ => [0]
  | .k => match kind with
    | 0x05 => [0]
    | 0x10 => [3]
    | 0x13 => [6]
    | _ => [2]
  | .f =>
    if kind = 0x40 then [4, 8, 12, 16, 20, 24, 28, 32, 36, 40, 44, 48]
    else if kind ∈ [0x34, 0x42, 0x49, 0x51, 0x52, 0x58, 0x5A, 0x5B] then [0]
    else if kind ∈ [0x39, 0x3A, 0x59] then [1]
    else if kind ∈ [0x21, 0x33] then [3]
    else if kind ∈ [0x10, 0x20, 0x29, 0x2A, 0x41, 0x48] then [4]
    else if kind ∈ [0x28, 0x50] then [6]
    else if kind = 0x30 then [8]
    else if kind = 0x18 then [9]
    else if kind = 0x38 then [12]
    else [2]

/-! ## The keg register (R106) -/

/-- No serial twice, and none 0; the entry count is the number of entries, at most 4,096. -/
def Register.ok (r : Register) : Prop :=
  r.entries.Pairwise (fun a b => a.serial < b.serial) ∧ (∀ e ∈ r.entries, e.serial ≠ 0) ∧ r.entryCount = r.entries.length
    ∧ r.entryCount ≤ capacity ∧ r.replacements ≤ 65535

/-! ## The till (R157) -/

/-- The reservation of a record in PAYING or DOUBT. -/
def Ticket.reservation (t : Ticket) : Nat :=
  match t.state, t.payout with
  | .paying, some o => o.reservation
  | .doubt, some o => o.reservation
  | _, _ => 0

/-- The sum of the reservations of the tickets in PAYING and DOUBT. -/
def State.reservations (s : State) : Nat :=
  (s.tickets.cells.map (fun sl => match sl.ticket with | some t => t.reservation | none => 0)).sum

/-- The reserved amount never exceeds the balance and equals the sum of the reservations; at most one ticket is PAYING. -/
def State.tillOk (s : State) : Prop :=
  s.till.reserved ≤ s.till.balance ∧ s.till.balance ≤ maxAmount ∧ s.till.reserved = s.reservations
    ∧ ∀ i j : Fin 24, ∀ t ∈ s.ticketAt i, ∀ u ∈ s.ticketAt j, t.state = .paying → u.state = .paying → i = j

/-! ## Bank references (R130) -/

/-- How many tickets in OPEN or CLOSING name a bank. -/
def State.stampedWith (s : State) (b : BankId) : Nat :=
  s.tickets.cells.countP (fun sl => match sl.ticket with | some t => t.counting && t.bank == b | none => false)

/-- Each bank's reference count equals the number of tickets in OPEN or CLOSING whose bank field names it. -/
def State.refsOk (s : State) : Prop := ∀ b : BankId, s.tariff.refs b = s.stampedWith b

/-! ## Bounds of queues and lists (R27, R110, R187) -/

/-- A port's lists are within their limits, and its assembly buffer fits its assembly state (R187, R188). -/
def Port.ok (p : Port) : Prop :=
  p.outstanding.length ≤ 32 ∧ p.unsolicited.length ≤ 16 ∧ p.overflow ≤ 65535 ∧ p.lost ≤ 65535 ∧ p.buffer.length ≤ 122
    ∧ match p.assembly with
      | .hunt => p.buffer = [] ∧ p.gap = none
      | .length => p.buffer = [syncByte] ∧ p.gap = some 20
      | .body => 2 ≤ p.buffer.length ∧ p.buffer.length < p.len + 2 ∧ 2 ≤ p.len ∧ p.len ≤ 118 ∧ p.gap = some 20
      | .check => (p.buffer.length = p.len + 2 ∨ p.buffer.length = p.len + 3) ∧ 2 ≤ p.len ∧ p.len ≤ 118 ∧ p.gap = some 20

/-- A lane's queue holds at most 16 entries, and the landing slot is occupied only while it holds 16 (R27). -/
def Intake.ok (i : Intake) : Prop := i.queue.length ≤ 16 ∧ (i.landing.isSome = true → i.queue.length = 16)

/-- Every port, every intake and the office-side queue within their limits. -/
def State.boundsOk (s : State) : Prop :=
  (∀ l : Link, (s.port l).ok) ∧ (∀ n : Lane, (s.lane n).ok) ∧ s.arbiter.office.length ≤ 16

/-! ## Settings (R205) -/

/-- Every setting in its range. -/
def Settings.ok (st : Settings) : Prop :=
  (∀ l : Link, st.speed.get l ∈ [19200, 57600, 115200]) ∧ (∀ n : Lane, (st.modes.get n).isEmpty = false)
    ∧ (1 ≤ st.silence ∧ st.silence ≤ 30) ∧ (8 ≤ st.burst ∧ st.burst ≤ 120)
    ∧ (2 ≤ st.gateFilter ∧ st.gateFilter ≤ 40 ∧ st.gateFilter % 2 = 0) ∧ st.tolerance ≤ 3 ∧ st.highMark ∈ [4, 8, 12, 16]
    ∧ (1 ≤ st.ownCode ∧ st.ownCode ≤ 255) ∧ (10 ≤ st.ticketLife ∧ st.ticketLife ≤ 1440) ∧ (5 ≤ st.holdTime ∧ st.holdTime ≤ 1440)
    ∧ (60 ≤ st.lockout ∧ st.lockout ≤ 20160) ∧ (st.lockout ≤ st.retention ∧ st.retention ≤ 262143)
    ∧ (5 ≤ st.payTimeout ∧ st.payTimeout ≤ 120) ∧ st.cashStep ∈ [1, 5, 10, 20, 50, 100] ∧ st.cashCap ≤ 1000000
    ∧ st.tillLow ≤ 10000000

/-- The live settings, the values of a valid image, the copy being saved and the values of a valid image before the save are in range. -/
def State.settingsOk (s : State) : Prop :=
  s.settings.ok ∧ (s.image.valid = true → s.image.values.ok) ∧ ∀ v ∈ s.saving, v.copy.ok ∧ (v.former.valid = true → v.former.values.ok)

/-! ## The clock (R176) -/

/-- The clock's counts are in their ranges, and so is a pending set. -/
def State.clockOk (s : State) : Prop :=
  s.clock.minute < minuteMod ∧ s.clock.second ≤ 59 ∧ s.clock.unpowered ≤ 262144
    ∧ ∀ c ∈ s.setPending, c.minute < minuteMod ∧ c.second ≤ 59

/-! ## The register arbiter (R109 to R111) -/

/-- Whether a lane's verdict operation waits at its position or is served. -/
def State.verdictRaised (s : State) (n : Lane) : Prop := s.arbiter.lanes.mem n = true ∨ s.arbiter.serving = some (.verdict n)

/-- The register idles only when nothing waits; a rebase is served or waits behind the operation in service; at most one sweep waits; a lane's
verdict operation is raised exactly while its verdict logic has the head in hand, and never twice. -/
def State.arbiterOk (s : State) : Prop :=
  (s.arbiter.serving = none →
      s.arbiter.lanes = LaneSet.empty ∧ s.arbiter.office = [] ∧ s.arbiter.sweeps = [] ∧ s.setPending = none)
    ∧ (s.arbiter.serving = some .rebase → s.setPending.isSome = true)
    ∧ s.arbiter.sweeps.count .sweep ≤ 1
    ∧ ∀ n : Lane, ((s.lane n).inHand = true ↔ s.verdictRaised n)
        ∧ ¬(s.arbiter.lanes.mem n = true ∧ s.arbiter.serving = some (.verdict n))
        ∧ ((s.lane n).inHand = true → (s.lane n).queue ≠ [])

/-! ## The lane sets (R6) -/

/-- Whether the intakes hold the batches of the lanes the tickets list: outside a loss of supply and a held RESET, which drop the intakes
before the start puts the tickets right. -/
def Phase.intakesStand : Phase → Bool
  | .off => false
  | .held _ => false
  | .starting _ => true
  | .running => true

/-- A lane is listed by at most one ticket; a ticket lists at most two lanes, and lists lanes only while in OPEN or CLOSING; a listed lane's
batch names the ticket. -/
def State.lanesOk (s : State) : Prop :=
  (∀ i : Fin 24, ∀ t ∈ s.ticketAt i, t.lanes.card ≤ 2 ∧ (t.lanes.card ≠ 0 → t.counting = true))
    ∧ (∀ i j : Fin 24, ∀ t ∈ s.ticketAt i, ∀ u ∈ s.ticketAt j, ∀ n : Lane, t.lanes.mem n = true → u.lanes.mem n = true → i = j)
    ∧ (s.phase.intakesStand = true → ∀ i : Fin 24, ∀ t ∈ s.ticketAt i, ∀ n : Lane, t.lanes.mem n = true →
        (s.lane n).batch.map Batch.ticket = some (s.ticketNumber i))

/-! ## Holds and PENDING entries (R81, R107) -/

/-- A number names a ticket in one of some states. -/
def State.namesTicketIn (s : State) (number : Nat) (states : List TicketState) : Prop :=
  ∃ i : Fin 24, s.ticketNumber i = number ∧ ∃ t ∈ s.ticketAt i, t.state ∈ states

/-- How many hold records name a ticket. -/
def State.holdsNaming (s : State) (number : Nat) : Nat :=
  s.holds.cells.countP (fun sl => match sl.hold with | some h => h.ticket == number | none => false)

/-- Hold records name only tickets in OPEN or CLOSING; a ticket's holds outstanding equals the number of hold records naming it; the order of
the holds lists each hold's number once. -/
def State.holdsOk (s : State) : Prop :=
  (∀ j : Fin 64, ∀ h ∈ (s.holds.get j).hold, s.namesTicketIn h.ticket [.opened, .closing])
    ∧ (∀ i : Fin 24, ∀ t ∈ s.ticketAt i, t.holds = s.holdsNaming (s.ticketNumber i))
    ∧ s.holdOrder.Nodup
    ∧ ∀ number : Nat, number ∈ s.holdOrder ↔ ∃ j : Fin 64, (s.holds.get j).hold.isSome = true ∧ s.holdNumber j = number

/-- Every PENDING register entry names a ticket in OPEN, CLOSING, PRICED, PAYING or DOUBT. -/
def State.pendingOk (s : State) : Prop :=
  ∀ e ∈ s.register.entries, ∀ number : Nat, e.state = .pending number →
    s.namesTicketIn number [.opened, .closing, .priced, .paying, .doubt]

/-! ## The money of a record (R23, R155, R173) -/

/-- Which optional records a state has (R23). -/
def Ticket.recordsOk (t : Ticket) : Prop :=
  match t.state with
  | .opened => t.priced = none ∧ t.payout = none ∧ t.settlement = none
  | .closing => t.priced = none ∧ t.payout = none ∧ t.settlement = none
  | .priced => t.priced.isSome = true ∧ t.payout = none ∧ t.settlement = none
  | .paying => t.priced.isSome = true ∧ t.payout.isSome = true ∧ t.settlement = none
  | .doubt => t.priced.isSome = true ∧ t.payout.isSome = true ∧ t.settlement = none
  | .settled => t.priced.isSome = true ∧ t.payout = none ∧ t.settlement.isSome = true
  | .voided => t.payout = none ∧ t.settlement = none

/-- The relations of a priced record (R155). -/
def PricedRecord.ok (p : PricedRecord) : Prop :=
  p.gross = p.fee + p.net ∧ p.gross ≤ maxAmount ∧ p.cash + p.credit = p.net ∧ p.cash % p.step = 0 ∧ p.cash ≤ p.cap

/-- Quoted cash plus quoted credit equals the net, the reservation equals the cash quote, and cash paid plus account credit equals the net. -/
def Ticket.moneyOk (t : Ticket) : Prop :=
  t.recordsOk
    ∧ ∀ p ∈ t.priced, p.ok ∧ (t.cashAllowed = false → p.cash = 0) ∧ (∀ o ∈ t.payout, o.reservation = p.cash)
        ∧ ∀ r ∈ t.settlement, r.cash + r.credit = p.net ∧ r.cash ≤ p.cash

/-- Every ticket's money is in order. -/
def State.moneyOk (s : State) : Prop := ∀ i : Fin 24, ∀ t ∈ s.ticketAt i, t.moneyOk

/-- Every law at once. -/
def State.lawful (s : State) : Prop :=
  s.register.ok ∧ s.tillOk ∧ s.refsOk ∧ s.boundsOk ∧ s.settingsOk ∧ s.clockOk ∧ s.arbiterOk ∧ s.lanesOk ∧ s.holdsOk ∧ s.pendingOk
    ∧ s.moneyOk

/-- A property that every step keeps. -/
def KeptByEveryStep (law : State → Prop) : Prop := ∀ s t : State, law s → step s = .next t → law t

/-! ## Receiving a run of bytes -/

/-- The bytes of a run received one after another on a link. -/
def receiveAll (l : Link) (key : Bool) : List Byte → State → Outcome
  | [], s => .next s
  | b :: bs, s =>
    match exec (.byteReceived l key b) s with
    | .next t => receiveAll l key bs t
    | .fault r => .fault r
    | .refused r => .refused r

end Sys2Proof.Machine
end

