-- ==== Sys2Proof/Certificates/Slice0/Obligations.lean ====
section
/-! DEFINITION. The statements for the provers, in the order of OBLIGATIONS.json. Each docstring names the rule of spec/ that the statement
formalises, or the log entry whose choice it rests on. -/

open Sys2Proof Sys2Proof.Machine

/-! ## The machine -/

/-- One step runs the command at the front of the queue on the state with the queue's rest; with an empty queue the block idles (log 2). -/
def Obligations.StepRunsTheFrontCommand : Prop :=
  ∀ s : State, (∀ c rest, s.pending = c :: rest → step s = exec c { s with pending := rest }) ∧ (s.pending = [] → step s = .next s)

/-! ## Frames -/

/-- The frame of a well-formed command decodes to that command, with every operand as it was (R215, R216): no bit of a field is dropped. -/
def Obligations.EncodedFrameDecodes : Prop :=
  ∀ (c : Instr) (img : FrameImage), c.wf = true → encodeFrame c = some img →
    decodeFrame img.link img.key img.kind img.tag img.payload = .command c

/-- The bytes of a well-formed command's frame, received in HUNT (R188), leave the port in HUNT and do what the command does (log 6, 34). -/
def Obligations.ReceivedFrameRunsItsCommand : Prop :=
  ∀ (c : Instr) (img : FrameImage) (s : State), c.wf = true → encodeFrame c = some img → s.phase ≠ .off →
    (s.port img.link).assembly = .hunt → (s.port img.link).buffer = [] → (s.port img.link).gap = none →
    receiveAll img.link img.key (frameBytes img.kind img.tag img.payload) s = exec c (s.withKey img.key)

/-- R188: what a received byte does in each assembly state, but for the last byte of a frame and a bad LEN byte. R189: every discard drops the
bytes, stops the gap timer and returns the port to HUNT; on a link whose frames are taken it sets the error flag and last reason and raises
CHECK_ERROR, and on a deaf link it does neither. A LEN byte of 0xC5 is the SYNC of a new frame. That FRAME_DISCARD acts whatever the assembly
state of its port is log 37. R188, 13.1: a whole frame is the SYNC byte 0xC5, the LEN byte, KIND, TAG and payload, and the check with its high
byte first; the check is the CRC-16 over LEN and body with initial value 0xFFFF and polynomial 0x1021, each byte taken from its highest bit to its
lowest, with no reflection and no final inversion. -/
def Obligations.BytesAreAssembledOrDiscarded : Prop :=
  (∀ (s : State) (l : Link) (key : Bool) (b : Byte), s.phase ≠ .off →
    let p := s.port l
    let kept : Port := { p with buffer := p.buffer ++ [b], gap := some 20 }
    (p.assembly = .hunt → b ≠ 0xC5 → exec (.byteReceived l key b) s = .next (s.withKey key))
    ∧ (p.assembly = .hunt → b = 0xC5 → exec (.byteReceived l key b) s =
        .next ((s.withKey key).modifyPort l (fun p => { p with assembly := .length, buffer := [0xC5], gap := some 20 })))
    ∧ (p.assembly = .length → 2 ≤ b.toNat → b.toNat ≤ 118 → exec (.byteReceived l key b) s =
        .next ((s.withKey key).modifyPort l (fun _ => { kept with assembly := .body })))
    ∧ (p.assembly = .body → 2 ≤ p.buffer.length → exec (.byteReceived l key b) s =
        .next ((s.withKey key).modifyPort l (fun _ =>
          { kept with assembly := if p.buffer.length + 1 = p.len + 2 then .check else .body })))
    ∧ (p.assembly = .check → p.buffer.length = p.len + 2 → exec (.byteReceived l key b) s =
        .next ((s.withKey key).modifyPort l (fun _ => kept))))
  ∧ (∀ (s : State) (l : Link) (key : Bool) (b : Byte), s.phase ≠ .off →
    let dropped (s : State) (why : DiscardReason) : State :=
      if s.listening l then
        { s.modifyPort l (fun p => { p with assembly := .hunt, buffer := [], gap := none, error := true, reason := why }) with
          edges := { s.edges with checkError := true } }
      else s.modifyPort l (fun p => { p with assembly := .hunt, buffer := [], gap := none })
    let resync (s : State) : State := s.modifyPort l (fun p => { p with assembly := .length, buffer := [0xC5], gap := some 20 })
    exec (.frameDiscard l .check) s = .next (dropped s .check)
    ∧ ((s.port l).gap ≠ none → exec (.gapTimerExpiry l) s = .next (dropped s .truncated))
    ∧ (b ≠ 0xC5 → (b.toNat < 2 ∨ 118 < b.toNat) → exec (.frameDiscard l (.length b)) s = .next (dropped s .length))
    ∧ exec (.frameDiscard l (.length 0xC5)) s = .next (resync (dropped s .length))
    ∧ ((s.port l).assembly = .length → b ≠ 0xC5 → (b.toNat < 2 ∨ 118 < b.toNat) →
        exec (.byteReceived l key b) s = .next (dropped (s.withKey key) .length))
    ∧ ((s.port l).assembly = .length → exec (.byteReceived l key 0xC5) s = .next (resync (dropped (s.withKey key) .length)))
    ∧ ((s.port l).assembly = .check → (s.port l).buffer.length = (s.port l).len + 3 →
        (s.port l).buffer.drop ((s.port l).len + 2) ++ [b] ≠ checkBytes (((s.port l).buffer.drop 1).take ((s.port l).len + 1)) →
        exec (.byteReceived l key b) s = .next (dropped (s.withKey key) .check)))
  ∧ (∀ (kind tag : Nat) (payload covered : List Byte) (b : Byte),
    let body : List Byte := [BitVec.ofNat 8 (payload.length + 2), BitVec.ofNat 8 kind, BitVec.ofNat 8 tag] ++ payload
    let shifted (c : BitVec 16) (i : Nat) : BitVec 16 := (c <<< 1) ^^^ (if c.msb = b.getLsbD i then 0 else 0x1021)
    frameBytes kind tag payload = [0xC5] ++ body ++ checkBytes body
    ∧ checkBytes covered = [BitVec.ofNat 8 ((crc16 covered).toNat / 256), BitVec.ofNat 8 ((crc16 covered).toNat % 256)]
    ∧ crc16 [] = 0xFFFF
    ∧ crc16 (covered ++ [b]) = [7, 6, 5, 4, 3, 2, 1, 0].foldl shifted (crc16 covered))

/-- R37, R210: a frame that reaches a lane link while the lane is DOWN, or any link before the links open, changes nothing. R191: a frame that
reaches a port with 32 requests outstanding is not taken: the overflow count goes up, stopping at 65,535, and CHECK_ERROR is raised. -/
def Obligations.FrameOnADeafOrFullPortIsNotTaken : Prop :=
  (∀ (c : Instr) (img : FrameImage) (s : State) (l : Link) (kind tag : Nat),
    (encodeFrame c = some img → s.deaf img.link → exec c s = .next (s.keyed c))
    ∧ (s.deaf l → exec (.reject l kind tag) s = .next s ∧ exec (.frameOverflow l) s = .next s))
  ∧ (∀ (c : Instr) (img : FrameImage) (s : State) (l : Link) (kind tag : Nat),
    let overflowed (s : State) (l : Link) : State :=
      { s.modifyPort l (fun p => { p with overflow := min 65535 (p.overflow + 1) }) with edges := { s.edges with checkError := true } }
    (encodeFrame c = some img → ¬ s.deaf img.link → 32 ≤ (s.port img.link).outstanding.length →
      exec c s = .next (overflowed (s.keyed c) img.link))
    ∧ (¬ s.deaf l → 32 ≤ (s.port l).outstanding.length → exec (.frameOverflow l) s = .next (overflowed s l))
    ∧ (¬ s.deaf l → 32 ≤ (s.port l).outstanding.length → kind ∉ allowedKinds l → exec (.reject l kind tag) s = .next (overflowed s l)))

/-- R191, R194: a frame of a KIND outside the link's row, or of no frame kind, is answered REJECT with the KIND received; a KEEPALIVE is
answered OK. R190, R216: the KINDs a lane, the kiosk and the office may send, and the KINDs of the protocol; that 0x82 is none of them is
log 31. R191, R216: a frame of an allowed KIND whose payload has another length than the KIND's is refused MALFORMED in the KIND's own answer;
an ITEM of another length restarts its lane's silence timer, where it runs (R62), and does nothing else. -/
def Obligations.RejectAndKeepaliveAreAnswered : Prop :=
  (∀ (s : State) (l : Link) (kind tag : Nat), s.canTake l →
    (kind ∉ allowedKinds l → knownKind kind = true →
      exec (.reject l kind tag) s = .next (s.answered l kind tag ⟨.notAllowed, .rejected kind⟩))
    ∧ (kind ∉ allowedKinds l → knownKind kind = false →
      exec (.reject l kind tag) s = .next (s.answered l kind tag ⟨.unknownKind, .rejected kind⟩))
    ∧ (l ≠ .f → exec (.keepalive l tag) s = .next (s.answered l 0x05 tag ⟨.ok, .empty⟩)))
  ∧ (∀ (n : Lane) (kind : Nat),
    let office : List Nat :=
      [0x10, 0x14, 0x15, 0x16, 0x17, 0x18, 0x19, 0x1A, 0x20, 0x21, 0x28, 0x29, 0x2A, 0x30, 0x31, 0x32, 0x33, 0x34, 0x38, 0x39, 0x3A, 0x40, 0x41,
       0x42, 0x48, 0x49, 0x50, 0x51, 0x52, 0x58, 0x59, 0x5A, 0x5B]
    let request (k : Nat) : Prop := k ∈ [0x01, 0x03, 0x04, 0x05, 0x11, 0x12, 0x13] ∨ k ∈ office
    (kind ∈ allowedKinds (.lane n) ↔ kind ∈ [0x01, 0x02, 0x03, 0x04, 0x05]) ∧ (kind ∈ allowedKinds .k ↔ kind ∈ [0x05, 0x10, 0x11, 0x12, 0x13])
    ∧ (kind ∈ allowedKinds .f ↔ kind ∈ office)
    ∧ (knownKind kind = true ↔ request kind ∨ kind = 0x02 ∨ kind ∈ [0x70, 0x71, 0x72, 0x73, 0x7F] ∨ ∃ k, request k ∧ kind = k + 0x80))
  ∧ (∀ (s : State) (l : Link) (n : Lane) (key : Bool) (kind tag : Nat) (payload before : List Byte) (last : Byte), s.canTake l →
    kind ∈ allowedKinds l → tag < 256 → payload.length ≤ 116 → payload.length ∉ payloadLengths l kind →
    frameBytes kind tag payload = before ++ [last] → (s.port l).assembly = .check → (s.port l).buffer = before →
    let u := (s.withKey key).modifyPort l (fun p => { p with assembly := .hunt, buffer := [], gap := none })
    let req := exec (.byteReceived l key last) s
    (kind ≠ 0x02 → req = .next (u.refusedWith l kind tag .malformed))
    ∧ (kind = 0x02 → l = .lane n → (s.lane n).state = .listen → req = .next u)
    ∧ (kind = 0x02 → l = .lane n → (s.lane n).state ≠ .listen →
      req = .next (u.modifyLane n (fun i => { i with silenceTimer := some (s.settings.silence * 1000) }))))

/-- R191, R192, R62, R194: a request stands last in its link's outstanding list, with its answer when it is answered as it is taken; K and F become
UP and restart their silence timer, a lane restarts its own where it runs; no other port, no other field of the port but the order of the
ready frames, and nothing else of the part changes. R192, R193: the answer made for a request joins it where it stands in the list, and the
answers ready to send are those at the head of the list with none unmade before them. The request is told by its KIND (log 27). R193, R214,
R216: the bytes a link is sending: nothing when no frame is ready; a frame of the part's own with TAG 0 and its fields, an UNBOUND without
the bound-at minute (log 40); a REJECT; an answer's result byte and fields; or one segment of an answer, 114 bytes of its record with the
segment byte. R215 to R218, 13.3, 13.4: the codes, and the fields each answer carries; what is absent is sent as 0 (log 22). -/
def Obligations.AnswersStandAndGoOutInOrder : Prop :=
  (∀ (s : State) (l m : Link) (n : Lane) (kind tag : Nat) (a : Answer),
    let p := s.port l
    let listed (answer : Option Answer) : Port := match l with
      | .lane _ => { p with outstanding := p.outstanding ++ [⟨kind, tag, answer⟩] }
      | _ => { p with
          outstanding := p.outstanding ++ [⟨kind, tag, answer⟩], up := true, silence := some (s.settings.silence * 1000) }
    let joins (u : State) (answer : Option Answer) : Prop :=
      { u.port l with order := p.order } = listed answer
      ∧ (m ≠ l → u.port m = s.port m)
      ∧ u.lane n = (if l = .lane n ∧ (s.lane n).state ≠ .down ∧ (s.lane n).state ≠ .listen then
          { s.lane n with silenceTimer := some (s.settings.silence * 1000) } else s.lane n)
      ∧ { u with ports := s.ports, lanes := s.lanes } = s
    let u := s.answered l kind tag a
    joins u (some a)
    ∧ ((∃ r ∈ p.outstanding, r.answer = none) →
      p.order.count .answer = (p.outstanding.takeWhile (fun r => r.answer.isSome)).length → (u.port l).order = p.order)
    ∧ ((∀ r ∈ p.outstanding, r.answer.isSome = true) → p.order.count .answer = p.outstanding.length →
      (u.port l).order = p.order ++ [.answer])
    ∧ joins (s.waiting l kind tag) none ∧ ((s.waiting l kind tag).port l).order = p.order)
  ∧ (∀ (p : Port) (kind tag : Nat) (a : Answer) (before after : List Request),
    p.outstanding = before ++ ⟨kind, tag, none⟩ :: after → (∀ r ∈ before, r.kind = kind → r.answer.isSome = true) →
    (p.replyOldest kind a).outstanding = before ++ ⟨kind, tag, some a⟩ :: after
    ∧ { p.replyOldest kind a with outstanding := p.outstanding, order := p.order } = p
    ∧ ((∃ r ∈ before, r.answer = none) → p.order.count .answer = p.made → (p.replyOldest kind a).order = p.order)
    ∧ ((∀ r ∈ before, r.answer.isSome = true) → p.order.count .answer = before.length →
        ∃ k, 1 ≤ k ∧ (p.replyOldest kind a).order = p.order ++ List.replicate k .answer
          ∧ before.length + k = ((p.replyOldest kind a).outstanding.takeWhile (fun r => r.answer.isSome)).length))
  ∧ (∀ (s : State) (l : Link) (f : OwnFrame) (fs : List OwnFrame) (rest : List Ready) (r : Request) (rs : List Request) (a : Answer) (k : Nat),
    let p := s.port l
    let code := BitVec.ofNat 8 a.result.code
    let record := a.body.bytes
    let cut := r.kind ∈ [0x16, 0x17, 0x21, 0x51, 0x58]
    (p.order = [] → s.wire l = [])
    ∧ (p.order = .own :: rest → p.unsolicited = f :: fs → s.wire l = match f with
      | .verdict v => frameBytes 0x70 0 (littleEndian 2 v.sequence ++ littleEndian 1 v.verdict.code
          ++ littleEndian 1 (match v.cause with | some c => c.code | none => 0) ++ littleEndian 4 (setCode (v.also.map Cause.code))
          ++ littleEndian 2 v.hold ++ littleEndian 1 v.note.toNat)
      | .flow slow => frameBytes 0x71 0 [if slow then 1 else 0]
      | .unbound number why _ gate frames failed => frameBytes 0x72 0 (littleEndian 2 number ++ littleEndian 1 why.code
          ++ littleEndian 2 gate ++ littleEndian 2 frames ++ littleEndian 1 failed.toNat)
      | .offer o => frameBytes 0x73 0 (Body.offer o).bytes)
    ∧ (p.order = .answer :: rest → p.outstanding = r :: rs → r.answer = some a →
      (a.body = .rejected k → p.segment = 0 → s.wire l = frameBytes 0x7F r.tag [BitVec.ofNat 8 k, code])
      ∧ ((∀ k, a.body ≠ .rejected k) → ¬cut → p.segment = 0 → s.wire l = frameBytes (r.kind + 0x80) r.tag (code :: record))
      ∧ (a.body = .empty → cut → p.segment = 0 → s.wire l = frameBytes (r.kind + 0x80) r.tag [code, 0x80])
      ∧ ((∀ k, a.body ≠ .rejected k) → a.body ≠ .empty → cut → p.segment < (record.length + 113) / 114 →
        s.wire l = frameBytes (r.kind + 0x80) r.tag
          (code :: BitVec.ofNat 8 (p.segment + if (p.segment + 1) * 114 < record.length then 0 else 128)
            :: (record.drop (114 * p.segment)).take 114))))
  ∧ ([Result.ok, .clamped, .wait, .wrongState, .noSuchTicket, .noSuchHold, .tableFull, .busy, .ticketBusy, .notCounting, .locked, .bankInUse,
        .chainConflict, .registerFull, .conflict, .tillEmpty, .belowReserved, .late, .malformed, .unknownKind, .notAllowed, .notFound,
        .issueConflict].map Result.code = List.range 23
    ∧ [Result.price, .paygo, .result, .bound, .saveFailed, .removed, .issued].map Result.code = List.range' 0x20 7
    ∧ [Cause.malformed, .noTicket, .classClosed, .watchVoid, .doubleRead, .foreignRefused, .duplicate, .watchHold, .registerCold, .noSerial,
        .weakRead, .tallyLimit, .registerFull, .holdPoolFull, .overrun, .laneMuted, .stale, .notCounting].map Cause.code = List.range' 1 18
    ∧ [Attention.doubt, .retentionLost, .settingsDefault, .recount, .watchHit, .holdWaiting, .laneFault, .checkError, .strayItems, .tillLow,
        .registerHigh, .changeoverDone, .saveFailed].map Attention.code = List.range' 1 13
    ∧ [Verdict.accept, .hold, .refuse].map Verdict.code = List.range 3 ∧ [Grade.full, .worn, .scrap].map Grade.code = List.range 3
    ∧ [Ownership.own, .foreign].map Ownership.code = List.range 2 ∧ [BankId.a, .b].map BankId.code = List.range 2
    ∧ [LaneState.down, .listen, .offering, .acking, .counting, .sensed, .muted, .refused].map LaneState.code = List.range 8
    ∧ [some Mode.serial, some .cls, some .tally, none].map modeCode = [0, 1, 2, 255]
    ∧ [some RefusalReason.noCommonMode, some .senseFault, none].map refusalCode = [0, 1, 255]
    ∧ [CloseReason.unbind, .deadline, .voided, .down, .refused].map CloseReason.code = List.range 5
    ∧ [TicketState.opened, .closing, .priced, .paying, .doubt, .settled, .voided].map TicketState.code = List.range' 1 7
    ∧ [WatchField.serial, .owner, .account, .cls].map WatchField.code = List.range 4
    ∧ [WatchAction.note, .hold, .void].map WatchAction.code = List.range 3 ∧ [Chained.no, .head, .tail].map Chained.code = List.range 3
    ∧ [ImageState.valid, .invalid, .writing].map ImageState.code = List.range 3
    ∧ (∀ (codes : List Nat) (n : Nat), (setCode codes).testBit n = codes.contains n)
    ∧ (∀ m : ModeSet, m.code = (if m.serial then 1 else 0) + (if m.cls then 2 else 0) + (if m.tally then 4 else 0))
    ∧ (∀ (ls : LaneSet) (n : Lane), (laneSetCode ls).testBit n.num = ls.mem n))
  ∧ (∀ (number holds value minute second entry cls age kind : Nat) (o : PartOffer) (b : BankId) (st : TicketState) (h : Hold)
      (numbers amounts : List Nat) (t : Ticket) (yes other third : Bool) (p : PricedRecord) (ce : ClassEntry) (r : WatchRule) (w : WatchEntry)
      (ch : Chained) (c : Option Capture) (results : List Result) (e : KegEntry) (sum : RegisterSummary) (im : ImageState) (live : Settings)
      (armed : Option Nat) (first : Option Attention) (causes : List Attention),
    let le := littleEndian
    let yn (x : Bool) : List Byte := [if x then 1 else 0]
    let price (p : Option PricedRecord) : List Byte := match p with
      | some p => le 4 p.gross ++ le 2 p.fee ++ le 4 p.net ++ le 4 p.cash ++ le 4 p.credit ++ le 1 p.step ++ le 4 p.cap
      | none => List.replicate 23 0
    let payout (x : Option PayoutRecord) : List Byte := match x with
      | some x => le 4 x.reservation ++ le 4 (x.report.getD 0) ++ le 4 (x.claim.getD 0)
      | none => List.replicate 12 0
    let settled (x : Option SettlementRecord) : List Byte := match x with
      | some x => le 4 x.cash ++ le 4 x.credit ++ yn x.excess ++ le 4 (x.claim.getD 0)
      | none => List.replicate 13 0
    let bit (n : Nat) (x : Bool) : Nat := if x then 2 ^ n else 0
    let cells (x : ClassEntry) : List Byte :=
      yn x.isOpen ++ le 2 x.deposit ++ le 1 x.worn ++ le 1 x.pool ++ yn x.serialRequired ++ le 1 x.tallyLimit
    let rule (x : WatchRule) : List Byte :=
      yn x.enabled ++ le 1 x.field.code ++ le 4 x.value ++ le 1 x.exponent ++ le 1 x.action.code ++ yn x.oneShot ++ yn x.chain ++ yn x.supervisor
    let arm (x : Option Nat) : List Byte := yn x.isSome ++ le 3 (x.getD 0)
    let summary : List Byte := le 2 sum.entries ++ le 2 sum.pending ++ le 2 sum.credited ++ le 2 sum.issued ++ le 2 sum.replacements
      ++ yn sum.guardEnd.isSome ++ le 3 (sum.guardEnd.getD 0) ++ le 3 sum.remaining
    Body.bytes .empty = []
    ∧ (Body.offer o).bytes = le 1 o.ability.code ++ [1] ++ yn o.ack ++ le 1 o.state.code ++ le 1 (modeCode o.mode) ++ le 1 (refusalCode o.refusal)
    ∧ (Body.bound number).bytes = le 2 number ∧ (Body.opened number b minute).bytes = le 2 number ++ le 1 b.code ++ le 3 minute
    ∧ (Body.state st).bytes = le 1 st.code ∧ (Body.counter value).bytes = le 2 value ∧ (Body.released number holds).bytes = le 2 number ++ le 1 holds
    ∧ (Body.hold number h).bytes = le 2 number ++ le 2 h.ticket ++ le 1 h.lane.num ++ le 2 h.sequence ++ le 1 (h.cls.getD 255) ++ le 1 h.judged.val
        ++ le 1 h.grade.code ++ le 1 h.quantity ++ le 1 h.owner ++ le 1 h.ownership.code ++ le 4 h.serial ++ le 1 h.cause.code
        ++ le 4 (setCode (h.also.map Cause.code)) ++ yn h.entryMade ++ le 3 h.held ++ le 3 h.deadline
    ∧ (Body.holdList numbers).bytes = le 1 numbers.length ++ numbers.flatMap (le 2)
    ∧ (Body.ticket number t).bytes = le 2 number ++ le 1 t.state.code ++ le 3 t.account ++ yn t.cashAllowed ++ le 1 t.bank.code ++ le 3 t.opened
        ++ le 3 t.deadline ++ le 1 (laneSetCode t.lanes) ++ le 1 t.holds ++ le 1 t.expired
        ++ le 1 (bit 0 t.flags.recount + bit 1 t.flags.countSaturated + bit 2 t.flags.totalClamped + bit 3 t.flags.note
            + bit 4 t.flags.forcedClose)
        ++ le 1 (bit 0 t.priced.isSome + bit 1 t.payout.isSome + bit 2 (t.payout.any (fun x => x.report.isSome))
            + bit 3 (t.payout.any (fun x => x.claim.isSome)) + bit 4 t.settlement.isSome + bit 5 (t.settlement.any (fun x => x.claim.isSome)))
        ++ t.counts.cells.flatMap (le 2) ++ t.scrap.cells.flatMap (le 2) ++ price t.priced ++ payout t.payout ++ settled t.settlement
    ∧ (Body.reasons yes other third).bytes = le 1 (bit 0 yes + bit 1 other + bit 2 third)
    ∧ (Body.price p).bytes = le 4 p.gross ++ le 2 p.fee ++ le 4 p.net ++ le 4 p.cash ++ le 4 p.credit
    ∧ (Body.paygo value minute second).bytes = le 4 value ++ le 4 minute ++ le 4 second
    ∧ (Body.paid value minute).bytes = le 4 value ++ le 4 minute ∧ (Body.till value minute second).bytes = le 4 value ++ le 4 minute ++ le 4 second
    ∧ (Body.classEntry b cls ce).bytes = le 1 b.code ++ le 1 cls ++ cells ce ∧ (Body.fee b value).bytes = le 1 b.code ++ le 2 value
    ∧ (Body.bank b cls ce value yes holds armed).bytes = le 1 b.code ++ le 1 cls ++ cells ce ++ le 2 value ++ yn yes ++ le 1 holds ++ arm armed
    ∧ (Body.changeover armed b).bytes = arm armed ++ le 1 b.code ∧ (Body.watchRule entry r).bytes = le 1 entry ++ rule r
    ∧ (Body.watchEntry entry w ch).bytes = le 1 entry ++ rule w.rule ++ le 1 ch.code ++ yn w.hit ++ le 2 w.count ++ yn w.capture.isSome ++ yn w.locked
    ∧ (Body.capture entry c yes value).bytes = le 1 entry ++ (match c with
        | some c => le 1 1 ++ le 2 c.ticket ++ le 1 c.lane.num ++ le 2 c.sequence ++ le 4 c.serial ++ le 3 c.minute
        | none => List.replicate 13 0) ++ yn yes ++ le 2 value
    ∧ (Body.issue results).bytes = results.flatMap (fun x => le 1 x.code)
    ∧ (Body.query none age sum).bytes = List.replicate 15 0 ++ summary
    ∧ (Body.query (some e) age sum).bytes = le 4 e.serial ++ le 1 e.owner ++ le 1 e.cls.val ++ (match e.state with
        | .pending n => [0] ++ le 2 n ++ le 3 0
        | .credited stamp => [1] ++ le 2 0 ++ le 3 stamp
        | .issued stamp => [2] ++ le 2 0 ++ le 3 stamp) ++ le 3 age ++ summary
    ∧ (Body.clockSet minute second).bytes = le 3 minute ++ le 1 second
    ∧ (Body.clock minute second yes other).bytes = le 3 minute ++ le 1 second ++ yn yes ++ yn other
    ∧ (Body.setting number entry value).bytes = le 1 number ++ le 1 entry ++ le 4 value
    ∧ (amounts = [live.speed.lane.l0, live.speed.lane.l1, live.speed.lane.l2, live.speed.k, live.speed.f, live.modes.l0.code, live.modes.l1.code,
          live.modes.l2.code, live.silence, live.burst, live.gateFilter, live.tolerance, live.highMark, live.ownCode, live.ticketLife,
          live.holdTime, live.lockout, live.retention, live.payTimeout, live.cashStep, live.cashCap, live.tillLow] →
        (Body.settings im yes live).bytes = le 1 im.code ++ yn yes ++ amounts.flatMap (le 4))
    ∧ (Body.attention first causes).bytes = le 1 (match first with | some x => x.code | none => 0) ++ le 2 (setCode (causes.map Attention.code))
    ∧ (Body.rejected kind).bytes = le 1 kind)

/-- R192, R193, R213, R214: the frame a port is sending has been sent. A segment of an answer is followed by the next; after the last the request
leaves the outstanding list; and a RESET_UNIT answered OK then resets the unit. An unsolicited frame leaves its list: that it stays listed, and
counts among the 16, until then, and that the head of the order of ready frames is the frame being sent, are the model's inference (log 26); R192
says when a request leaves its list and R193 does not say when an unsolicited frame does. That a FRAME_SENT of a port that is sending no frame
changes nothing is the model's choice (log 4). -/
def Obligations.FrameSentLeavesItsList : Prop :=
  ∀ (s : State) (l : Link) (rest : List Ready) (r : Request) (rs : List Request) (a : Answer),
    ((s.port l).order = [] → exec (.frameSent l) s = .next s)
    ∧ ((s.port l).order = .own :: rest →
        exec (.frameSent l) s = .next (s.modifyPort l (fun p => { p with unsolicited := p.unsolicited.tail, order := rest })))
    ∧ ((s.port l).order = .answer :: rest → (s.port l).outstanding = r :: rs → r.answer = some a →
        ((s.port l).segment + 1 < (answerFrames r.kind a).length →
          exec (.frameSent l) s = .next (s.modifyPort l (fun p => { p with segment := p.segment + 1 })))
        ∧ ((answerFrames r.kind a).length ≤ (s.port l).segment + 1 →
            let u := s.modifyPort l (fun p => { p with outstanding := rs, order := rest, segment := 0 })
            (r.kind = 0x5B → a = ⟨.ok, .empty⟩ → exec (.frameSent l) s = .next u.startAtReset)
            ∧ ((r.kind ≠ 0x5B ∨ a.result ≠ .ok) → exec (.frameSent l) s = .next u)))

/-! ## Return tickets -/

/-- R3, R4, R5, R214: an OPEN with good fields takes the lowest-numbered FREE slot, raises its generation, writes the new record, takes one
reference on the active bank and is answered OK with the number, the bank and the deadline. From the kiosk cash is allowed for account 0
alone. R3: an OPEN with an account above 999,999 or a cash_allowed that is no yes-or-no byte is refused MALFORMED, and one with good fields
and no FREE slot is refused TABLE_FULL; a refused OPEN changes no slot. -/
def Obligations.OpenMakesATicketOrIsRefused : Prop :=
  (∀ (s : State) (l : Link) (tag account : Nat) (cash : Option Nat) (allowed : Bool) (i : Fin 24), s.canTake l →
    ((l = .k ∧ cash = none ∧ allowed = decide (account = 0)) ∨ (l = .f ∧ cash = some allowed.toNat)) → account ≤ 999999 →
    s.ticketAt i = none → (∀ j, j < i → s.ticketAt j ≠ none) →
    let generation := ((s.tickets.get i).generation + 1) % 256
    let deadline := (s.clock.minute + s.settings.ticketLife) % 1048576
    let record : Ticket :=
      { state := .opened, account := account, cashAllowed := allowed, bank := s.tariff.active, opened := s.clock.minute,
        deadline := deadline, lanes := LaneSet.empty, counts := Table.fill 64 0, scrap := Table.fill 16 0, holds := 0, expired := 0,
        flags := ⟨false, false, false, false, false⟩, priced := none, payout := none, settlement := none }
    let tariff : Tariff := match s.tariff.active with
      | .a => { s.tariff with refA := s.tariff.refA + 1 }
      | .b => { s.tariff with refB := s.tariff.refB + 1 }
    let u : State := { s with tickets := s.tickets.set i ⟨generation, some record⟩, tariff := tariff }
    exec (.openTicket tag account cash) s =
      .next (u.answered l 0x10 tag ⟨.ok, .opened (generation * 256 + (i.val + 1)) s.tariff.active deadline⟩))
  ∧ (∀ (s : State) (tag account cash : Nat),
    (s.canTake .k → 999999 < account → exec (.openTicket tag account none) s = .next (s.refusedWith .k 0x10 tag .malformed))
    ∧ (s.canTake .f → (999999 < account ∨ 1 < cash) →
        exec (.openTicket tag account (some cash)) s = .next (s.refusedWith .f 0x10 tag .malformed))
    ∧ (s.canTake .k → account ≤ 999999 → (∀ i, s.ticketAt i ≠ none) →
        exec (.openTicket tag account none) s = .next (s.refusedWith .k 0x10 tag .tableFull))
    ∧ (s.canTake .f → account ≤ 999999 → cash ≤ 1 → (∀ i, s.ticketAt i ≠ none) →
        exec (.openTicket tag account (some cash)) s = .next (s.refusedWith .f 0x10 tag .tableFull)))

/-- R1: a request whose number names no ticket is refused NO_SUCH_TICKET, after its own field checks, and the refusal changes nothing. R2: a
request that acts on a ticket in a state its row does not allow is refused WRONG_STATE and changes nothing. VOID and SETTLE_TO_ACCOUNT test
the state when they are served. -/
def Obligations.UnknownTicketAndWrongStateAreRefused : Prop :=
  (∀ (s : State) (tag number cls grade ownership amount : Nat) (delta : Int),
    (∀ i t, s.ticketAt i = some t → s.ticketNumber i ≠ number) → cls ≤ 15 → grade ≤ 2 → ownership ≤ 1 → -65535 ≤ delta →
    delta ≤ 65535 → amount ≤ 99999999 →
    (s.canTake .f →
      exec (.close tag number) s = .next (s.refusedWith .f 0x14 tag .noSuchTicket)
      ∧ exec (.void tag number) s = .next (s.refusedWith .f 0x15 tag .noSuchTicket)
      ∧ exec (.collect tag number) s = .next (s.refusedWith .f 0x16 tag .noSuchTicket)
      ∧ exec (.ticketRead tag number) s = .next (s.refusedWith .f 0x17 tag .noSuchTicket)
      ∧ exec (.adjust tag number cls grade ownership delta) s = .next (s.refusedWith .f 0x18 tag .noSuchTicket)
      ∧ exec (.confirmCount tag number) s = .next (s.refusedWith .f 0x19 tag .noSuchTicket)
      ∧ exec (.settleToAccount tag number) s = .next (s.refusedWith .f 0x1A tag .noSuchTicket)
      ∧ exec (.resolve true tag number amount) s = .next ((s.withKey true).refusedWith .f 0x28 tag .noSuchTicket))
    ∧ (s.canTake .k →
      exec (.quote tag number) s = .next (s.refusedWith .k 0x11 tag .noSuchTicket)
      ∧ exec (.pay tag number) s = .next (s.refusedWith .k 0x12 tag .noSuchTicket)
      ∧ exec (.dispensed tag number amount) s = .next (s.refusedWith .k 0x13 tag .noSuchTicket)))
  ∧ (∀ (s : State) (tag number cls grade ownership amount : Nat) (delta : Int) (i : Fin 24) (t : Ticket),
    s.holdsTicket number i t → cls ≤ 15 → grade ≤ 2 → ownership ≤ 1 → -65535 ≤ delta → delta ≤ 65535 → amount ≤ 99999999 →
    (s.canTake .f →
      (t.state ∉ [.opened, .closing] →
        exec (.close tag number) s = .next (s.refusedWith .f 0x14 tag .wrongState)
        ∧ exec (.adjust tag number cls grade ownership delta) s = .next (s.refusedWith .f 0x18 tag .wrongState)
        ∧ exec (.confirmCount tag number) s = .next (s.refusedWith .f 0x19 tag .wrongState))
      ∧ (t.state ∉ [.settled, .voided] → exec (.collect tag number) s = .next (s.refusedWith .f 0x16 tag .wrongState))
      ∧ (t.state ≠ .doubt → exec (.resolve true tag number amount) s = .next ((s.withKey true).refusedWith .f 0x28 tag .wrongState)))
    ∧ (s.canTake .k →
      (t.state ∉ [.opened, .closing, .priced] → exec (.quote tag number) s = .next (s.refusedWith .k 0x11 tag .wrongState))
      ∧ (t.state ≠ .priced → exec (.pay tag number) s = .next (s.refusedWith .k 0x12 tag .wrongState))
      ∧ (t.state ∉ [.paying, .doubt] →
        exec (.dispensed tag number amount) s = .next (s.refusedWith .k 0x13 tag .wrongState))))

/-- R11, R12, R13: a CLOSE or a QUOTE of an OPEN ticket with a lane, a hold or RECOUNT in the way leaves it CLOSING; a CLOSING ticket stands as
it is; a QUOTE answers WAIT with the reasons that hold, and of a PRICED ticket PRICE with its record. -/
def Obligations.CloseAndQuoteWait : Prop :=
  ∀ (s : State) (tag number : Nat) (i : Fin 24) (t : Ticket) (p : PricedRecord), s.holdsTicket number i t →
    let reasons : Answer := ⟨.wait, .reasons (decide (t.lanes.card ≠ 0)) (decide (t.holds ≠ 0)) t.flags.recount⟩
    (t.state = .opened → (t.lanes.card ≠ 0 ∨ t.holds ≠ 0 ∨ t.flags.recount = true) →
      (s.canTake .f → exec (.close tag number) s =
        .next ((s.putTicket i { t with state := .closing }).answered .f 0x14 tag ⟨.ok, .state .closing⟩))
      ∧ (s.canTake .k → exec (.quote tag number) s = .next ((s.putTicket i { t with state := .closing }).answered .k 0x11 tag reasons)))
    ∧ (t.state = .closing →
      (s.canTake .f → exec (.close tag number) s = .next (s.answered .f 0x14 tag ⟨.ok, .state .closing⟩))
      ∧ (s.canTake .k → exec (.quote tag number) s = .next (s.answered .k 0x11 tag reasons)))
    ∧ (t.state = .priced → t.priced = some p → s.canTake .k →
        exec (.quote tag number) s = .next (s.answered .k 0x11 tag ⟨.price, .price p⟩))

/-- R13, R145, R5: the pricing event, caused by a CLOSE or a QUOTE of an OPEN ticket or by a CONFIRM_COUNT of a CLOSING one with every condition
clear: the priced record is made from the stamped bank, TOTAL_CLAMPED is set if the sum was held, the ticket enters PRICED, and its bank
reference is released, all in the one step. -/
def Obligations.PricingEventPrices : Prop :=
  ∀ (s : State) (tag number : Nat) (i : Fin 24) (t : Ticket), s.holdsTicket number i t → t.lanes.card = 0 → t.holds = 0 →
    let bank := s.tariff.bank t.bank
    let p := priceTicket bank s.settings.cashStep s.settings.cashCap t
    let priced : Ticket :=
      { t with
        state := .priced
        priced := some p
        flags := { t.flags with recount := false, totalClamped := t.flags.totalClamped || decide (99999999 < lineSum bank t) } }
    let tariff : Tariff := match t.bank with
      | .a => { s.tariff with refA := s.tariff.refA - 1 }
      | .b => { s.tariff with refB := s.tariff.refB - 1 }
    let u : State := { s.putTicket i priced with tariff := tariff }
    (t.state = .opened → t.flags.recount = false →
      (s.canTake .f → exec (.close tag number) s = .next (u.answered .f 0x14 tag ⟨.ok, .state .priced⟩))
      ∧ (s.canTake .k → exec (.quote tag number) s = .next (u.answered .k 0x11 tag ⟨.price, .price p⟩)))
    ∧ (t.state = .closing → s.canTake .f → exec (.confirmCount tag number) s = .next (u.answered .f 0x19 tag ⟨.ok, .empty⟩))

/-- R149 to R153, R155: a line is its product rounded to the nearest minor unit, halves up; the gross is the exact sum up to 99,999,999; the
gross is the fee taken and the net, the fee never above the bank's; the cash quote is the largest multiple of the step within the net and
the cap where cash is allowed and 0 where it is not; the credit quote is the rest. R147, R148: the sum is over the 16 classes; a class that
is not open is worth 0, and an open one its four lines. SCRAP counts are worth nothing. -/
def Obligations.PricedAmountsFollowTheBank : Prop :=
  ((∀ n d gp op : Nat, let v := lineValue n d gp op
    2 * 10000 * v ≤ 2 * (n * d * gp * op) + 10000 ∧ 2 * (n * d * gp * op) < 2 * 10000 * v + 10000)
  ∧ ∀ (b : Bank) (step cap : Nat) (t : Ticket), 0 < step →
    let p := priceTicket b step cap t
    (lineSum b t ≤ 99999999 → p.gross = lineSum b t) ∧ (99999999 < lineSum b t → p.gross = 99999999)
    ∧ p.gross = p.fee + p.net ∧ (b.fee ≤ p.gross → p.fee = b.fee) ∧ (p.gross < b.fee → p.fee = p.gross)
    ∧ p.cash + p.credit = p.net ∧ p.step = step ∧ p.cap = cap
    ∧ (t.cashAllowed = false → p.cash = 0)
    ∧ (t.cashAllowed = true → p.cash % step = 0 ∧ p.cash ≤ min p.net cap ∧ min p.net cap < p.cash + step))
  ∧ (∀ (b : Bank) (t : Ticket) (scrap : Table Nat 16),
    lineSum b { t with scrap := scrap } = lineSum b t
    ∧ lineSum b t = (Finset.univ : Finset (Fin 16)).sum (fun c =>
        let e := b.classes.get c
        if e.isOpen then
          lineValue (t.counts.get ⟨4 * c.val, by omega⟩) e.deposit 100 100
            + lineValue (t.counts.get ⟨4 * c.val + 1, by omega⟩) e.deposit 100 e.pool
            + lineValue (t.counts.get ⟨4 * c.val + 2, by omega⟩) e.deposit e.worn 100
            + lineValue (t.counts.get ⟨4 * c.val + 3, by omega⟩) e.deposit e.worn e.pool
        else 0))

/-- R16: an ADJUST makes the named counter the counter plus the delta, held within 0..65,535, and answers it, CLAMPED when it was held; held at
the top it sets COUNT_SATURATED. Nothing else of the ticket changes. A field out of range is refused MALFORMED, an ownership code above 1 for
SCRAP too (log 20). R17: a CONFIRM_COUNT of a ticket that is OPEN, or is CLOSING with a lane or a hold still in the way, clears RECOUNT and
nothing else, and is answered OK. R8, R77, R217: counter c, g, o of a ticket is the line count of place 4 c + 2 g + o, or for SCRAP the scrap
count of place c whatever the ownership; setting one counter changes that counter and nothing else of the ticket, and adding a quantity makes it
the sum held at 65,535 and sets COUNT_SATURATED when the sum was held. -/
def Obligations.CountersAreAdjustedAndConfirmed : Prop :=
  (∀ (s : State) (tag number cls grade ownership value : Nat) (delta : Int), s.canTake .f →
    (∀ (i : Fin 24) (t : Ticket) (c : Fin 16) (g : Grade) (o : Ownership), s.holdsTicket number i t → t.state ∈ [.opened, .closing] →
      cls = c.val → grade = g.code → ownership = o.code → -65535 ≤ delta → delta ≤ 65535 →
      (value : Int) = max 0 (min 65535 ((t.counter c g o : Int) + delta)) →
      let above := decide (65535 < (t.counter c g o : Int) + delta)
      let below := decide ((t.counter c g o : Int) + delta < 0)
      let u := t.setCounter c g o value
      exec (.adjust tag number cls grade ownership delta) s =
        .next ((s.putTicket i { u with flags := { t.flags with countSaturated := t.flags.countSaturated || above } }).answered .f 0x18 tag
          ⟨if above || below then .clamped else .ok, .counter value⟩))
    ∧ ((15 < cls ∨ 2 < grade ∨ 1 < ownership ∨ delta < -65535 ∨ 65535 < delta) →
      exec (.adjust tag number cls grade ownership delta) s = .next (s.refusedWith .f 0x18 tag .malformed)))
  ∧ (∀ (s : State) (tag number : Nat) (i : Fin 24) (t : Ticket), s.canTake .f → s.holdsTicket number i t →
    (t.state = .opened ∨ (t.state = .closing ∧ (t.lanes.card ≠ 0 ∨ t.holds ≠ 0))) →
    exec (.confirmCount tag number) s =
      .next ((s.putTicket i { t with flags := { t.flags with recount := false } }).answered .f 0x19 tag ⟨.ok, .empty⟩))
  ∧ (∀ (t : Ticket) (c c' : Fin 16) (g g' : Grade) (o o' : Ownership) (v q : Nat),
    let same := c' = c ∧ g' = g ∧ (g = .scrap ∨ o' = o)
    (g ≠ .scrap → t.counts.cells[4 * c.val + 2 * g.code + o.code]? = some (t.counter c g o))
    ∧ t.scrap.cells[c.val]? = some (t.counter c .scrap o)
    ∧ (same → (t.setCounter c g o v).counter c' g' o' = v)
    ∧ (¬same → (t.setCounter c g o v).counter c' g' o' = t.counter c' g' o')
    ∧ { t.setCounter c g o v with counts := t.counts, scrap := t.scrap } = t
    ∧ t.addCount c g o q = { t.setCounter c g o (min 65535 (t.counter c g o + q)) with
        flags := { t.flags with countSaturated := t.flags.countSaturated || decide (65535 < t.counter c g o + q) } })

/-- R21, R22: a COLLECT of a SETTLED or VOID ticket answers the final record, without lanes, holds outstanding and payout record, and frees the
slot, whose generation is kept; a TICKET_READ answers the record as it stands and changes nothing. -/
def Obligations.CollectFreesTheSlot : Prop :=
  ∀ (s : State) (tag number : Nat) (i : Fin 24) (t : Ticket), s.canTake .f → s.holdsTicket number i t →
    (t.state ∈ [.settled, .voided] → exec (.collect tag number) s =
      .next (({ s with tickets := s.tickets.set i ⟨(s.tickets.get i).generation, none⟩ } : State).answered .f 0x16 tag
        ⟨.ok, .ticket number { t with lanes := LaneSet.empty, holds := 0, payout := none }⟩))
    ∧ exec (.ticketRead tag number) s = .next (s.answered .f 0x17 tag ⟨.ok, .ticket number t⟩)

/-! ## The keg register -/

/-- R110, with R18, R20, R83, R118, R121, R127, R163 and R171: each request that raises an office-side operation is taken unanswered and raises
it, or is refused BUSY when 16 operations wait already. The operation in service is not counted among them (log 9). R118, R121, R127: an
ISSUE of an empty list, of more than 12 serials or of a serial 0 and a REGISTER_QUERY of serial 0 are refused MALFORMED; a CLEAR_GUARD
without the key is refused LOCKED. -/
def Obligations.RegisterRequestsWaitOrAreRefused : Prop :=
  (∀ (s : State) (tag number amount cls : Nat) (serials : List Nat),
    (s.canTake .f →
      (∀ i t, s.holdsTicket number i t →
        s.asksRegister (.void tag number) .f 0x15 tag (.voidWalk number)
        ∧ s.asksRegister (.settleToAccount tag number) .f 0x1A tag (.settle (.toAccount number))
        ∧ (t.state = .doubt → amount ≤ 99999999 →
          s.asksRegister (.resolve true tag number amount) .f 0x28 tag (.settle (.resolve number amount))))
      ∧ (serials ≠ [] → serials.length ≤ 12 → 0 ∉ serials → s.asksRegister (.issue tag serials) .f 0x40 tag (.issue serials))
      ∧ (number ≠ 0 → s.asksRegister (.registerQuery tag number) .f 0x41 tag (.query number))
      ∧ s.asksRegister (.clearGuard true tag) .f 0x42 tag .clearGuard
      ∧ (∀ j h, s.holdsHold number j h → h.serial ≠ 0 →
        ((h.grade ≠ .scrap ∨ h.entryMade = true) → s.asksRegister (.release tag number 0 0xFF) .f 0x20 tag (.release number .accept none))
        ∧ (cls ≤ 1 → s.asksRegister (.release tag number 0 cls) .f 0x20 tag
            (.release number .accept (some (if cls = 0 then .full else .worn))))
        ∧ (h.entryMade = true → s.asksRegister (.release tag number 0 2) .f 0x20 tag (.release number .accept (some .scrap))
            ∧ s.asksRegister (.release tag number 2 0xFF) .f 0x20 tag (.release number .refuse none))))
    ∧ (s.canTake .k → ∀ i t p, s.holdsTicket number i t → t.state = .priced → t.priced = some p → p.cash = 0 →
        (∀ j u, s.ticketAt j = some u → u.state ≠ .paying) →
        s.asksRegister (.pay tag number) .k 0x12 tag (.settle (.pay number))))
  ∧ (∀ (s : State) (tag : Nat) (serials : List Nat), s.canTake .f →
    ((serials = [] ∨ 12 < serials.length ∨ 0 ∈ serials) →
      exec (.issue tag serials) s = .next (s.refusedWith .f 0x40 tag .malformed))
    ∧ exec (.registerQuery tag 0) s = .next (s.refusedWith .f 0x41 tag .malformed)
    ∧ exec (.clearGuard false tag) s = .next ((s.withKey false).refusedWith .f 0x42 tag .locked))

/-- R110, R111: when an operation is complete a waiting rebase is served first; else the first position after the one last served, in the cyclic
order lane 0, lane 1, lane 2, office-side, sweep, at which an operation waits serves its oldest; with none waiting the register is idle. R110: an
operation that reaches a busy register waits, a verdict operation at its lane's position and any other at the tail of its position's queue; one
that reaches an idle register with nothing waiting is served at once, and its position is then the one last served. -/
def Obligations.RegisterServesInRotation : Prop :=
  ∀ (s : State) (p : Position) (n : Lane) (op : OfficeOp) (ops : List OfficeOp) (sw : SweepOp) (sws : List SweepOp),
    let a := s.arbiter
    let served (b : Arbiter) : State := { s with arbiter := b }
    (s.setPending.isSome = true → s.completeOperation = served { a with serving := some .rebase })
    ∧ (s.setPending = none → (∀ q, a.waits q = false) → s.completeOperation = served { a with serving := none })
    ∧ (s.setPending = none → ∀ before after, a.last.rotation = before ++ p :: after → (∀ q ∈ before, a.waits q = false) →
      (p = .lane n → a.lanes.mem n = true →
        s.completeOperation = served { a with serving := some (.verdict n), lanes := a.lanes.drop n, last := p })
      ∧ (p = .office → a.office = op :: ops →
        s.completeOperation = served { a with serving := some (.office op), office := ops, last := p })
      ∧ (p = .sweep → a.sweeps = sw :: sws →
        s.completeOperation = served { a with serving := some (.sweep sw), sweeps := sws, last := p }))
    ∧ (a.serving ≠ none → a.raiseOffice op = { a with office := a.office ++ [op] })
    ∧ (a.serving = none → a.lanes = LaneSet.empty → a.office = [] → a.sweeps = [] →
        a.raiseOffice op = { a with serving := some (.office op), last := .office })
    ∧ (a.serving ≠ none → a.raiseVerdict n = { a with lanes := a.lanes.add n } ∧ a.raiseSweeps sws = { a with sweeps := a.sweeps ++ sws })
    ∧ (a.serving = none → a.lanes = LaneSet.empty → a.office = [] → a.sweeps = [] →
      a.raiseVerdict n = { a with serving := some (.verdict n), last := .lane n }
      ∧ a.raiseSweeps (sw :: sws) = { a with serving := some (.sweep sw), sweeps := sws, last := .sweep })
    ∧ (∀ (ls : LaneSet) (m : Lane), (ls.add n).mem m = (m == n || ls.mem m) ∧ (ls.drop n).mem m = (m != n && ls.mem m))
    ∧ (a.waits (.lane n) = a.lanes.mem n ∧ (a.waits .office = true ↔ a.office ≠ []) ∧ (a.waits .sweep = true ↔ a.sweeps ≠ []))
    ∧ Position.sweep.rotation = [.lane .l0, .lane .l1, .lane .l2, .office, .sweep]
    ∧ (Position.lane .l0).rotation = [.lane .l1, .lane .l2, .office, .sweep, .lane .l0]
    ∧ (Position.lane .l1).rotation = [.lane .l2, .office, .sweep, .lane .l0, .lane .l1]
    ∧ (Position.lane .l2).rotation = [.office, .sweep, .lane .l0, .lane .l1, .lane .l2]
    ∧ Position.office.rotation = [.sweep, .lane .l0, .lane .l1, .lane .l2, .office]

/-- R18, R19, R117: a served VOID of a ticket in OPEN, CLOSING or PRICED makes it VOID with no lane and no hold outstanding, removes its PENDING
entries and every hold naming it, closes the batches of its lanes with reason VOIDED, and releases its bank reference if it was OPEN or
CLOSING; a number that names no ticket and any other state are refused and change nothing. -/
def Obligations.VoidWalkVoids : Prop :=
  ∀ (s : State) (number : Nat) (i : Fin 24) (t : Ticket), s.arbiter.serving = some (.office (.voidWalk number)) →
    ((∀ j u, s.ticketAt j = some u → s.ticketNumber j ≠ number) →
      exec .voidWalk s = .next (s.finished .f 0x15 ⟨.noSuchTicket, .empty⟩))
    ∧ (s.holdsTicket number i t →
      (t.state ∉ [.opened, .closing, .priced] → exec .voidWalk s = .next (s.finished .f 0x15 ⟨.wrongState, .empty⟩))
      ∧ (t.state ∈ [.opened, .closing, .priced] →
        let dropped : State :=
          { s.putTicket i { t with state := .voided, holds := 0, lanes := LaneSet.empty } with
            register :=
              { s.register with
                entries := s.register.entries.filter (fun e => e.state != .pending number)
                entryCount := s.register.entryCount - s.register.entries.countP (fun e => e.state == .pending number) }
            holds := s.holds.map (fun sl => { sl with hold := sl.hold.filter (fun h => h.ticket != number) })
            holdOrder := s.holdOrder.filter (fun n => match s.lookupHold n with | some (_, h) => h.ticket != number | none => true) }
        let closed := t.lanes.members.foldl (fun u n => u.closeBatch n .voided) dropped
        let tariff : Tariff := match t.state, t.bank with
          | .priced, _ => closed.tariff
          | _, .a => { closed.tariff with refA := closed.tariff.refA - 1 }
          | _, .b => { closed.tariff with refB := closed.tariff.refB - 1 }
        exec .voidWalk s = .next (({ closed with tariff := tariff } : State).finished .f 0x15 ⟨.ok, .empty⟩)))

/-- R116, R20, R163, R167, R172, R173: a served settle walk settles the ticket as its requester says. Every PENDING entry of the ticket becomes
CREDITED at the minute, the ticket enters SETTLED with its settlement record and without its payout record, and the till gives up the
reservation and the cash paid, all in one step. R20, R163, R167, R172: a served settle walk whose ticket is gone is answered NO_SUCH_TICKET,
and one whose ticket is no longer in the state its requester needs WRONG_STATE; neither changes anything. A DISPENSED whose ticket is gone
is answered WRONG_STATE (R167; log 35). -/
def Obligations.SettleWalkSettlesOrIsRefused : Prop :=
  (∀ (s : State) (number a d : Nat) (i : Fin 24) (t : Ticket) (p : PricedRecord) (o : PayoutRecord), s.holdsTicket number i t →
    t.priced = some p →
    let settled (r : SettlementRecord) (reservation : Nat) : State :=
      { s.putTicket i { t with state := .settled, payout := none, settlement := some r } with
        register :=
          { s.register with
            entries := s.register.entries.map (fun e => if e.state = .pending number then { e with state := .credited s.clock.minute } else e) }
        till := ⟨s.till.balance - r.cash, s.till.reserved - reservation⟩ }
    (t.state = .priced → s.arbiter.serving = some (.office (.settle (.toAccount number))) →
      exec .settleWalk s = .next ((settled ⟨0, p.net, false, none⟩ 0).finished .f 0x1A ⟨.ok, .paid 0 p.net⟩))
    ∧ (t.state = .priced → s.arbiter.serving = some (.office (.settle (.pay number))) →
      exec .settleWalk s = .next ((settled ⟨0, p.net, false, none⟩ 0).finished .k 0x12 ⟨.result, .paid 0 p.net⟩))
    ∧ (t.state = .paying → t.payout = some o → o.report = some d → s.arbiter.serving = some (.office (.settle (.dispensed number))) →
      let cash := min d o.reservation
      exec .settleWalk s =
        .next ((settled ⟨cash, p.net - cash, decide (o.reservation < d), none⟩ o.reservation).finished .k 0x13
          ⟨.result, .paid cash (p.net - cash)⟩))
    ∧ (t.state = .doubt → t.payout = some o → s.arbiter.serving = some (.office (.settle (.resolve number a))) →
      let cash := min a o.reservation
      exec .settleWalk s =
        .next ((settled ⟨cash, p.net - cash, false, o.claim⟩ o.reservation).finished .f 0x28
          ⟨if o.reservation < a then .clamped else .ok, .paid cash (p.net - cash)⟩)))
  ∧ (∀ (s : State) (number a : Nat) (i : Fin 24) (t : Ticket),
    let gone := ∀ j u, s.ticketAt j = some u → s.ticketNumber j ≠ number
    let other (states : List TicketState) := s.holdsTicket number i t ∧ t.state ∉ states
    (s.arbiter.serving = some (.office (.settle (.toAccount number))) →
      (gone → exec .settleWalk s = .next (s.finished .f 0x1A ⟨.noSuchTicket, .empty⟩))
      ∧ (other [.priced] → exec .settleWalk s = .next (s.finished .f 0x1A ⟨.wrongState, .empty⟩)))
    ∧ (s.arbiter.serving = some (.office (.settle (.pay number))) →
      (gone → exec .settleWalk s = .next (s.finished .k 0x12 ⟨.noSuchTicket, .empty⟩))
      ∧ (other [.priced] → exec .settleWalk s = .next (s.finished .k 0x12 ⟨.wrongState, .empty⟩)))
    ∧ (s.arbiter.serving = some (.office (.settle (.dispensed number))) →
      (gone ∨ other [.paying]) → exec .settleWalk s = .next (s.finished .k 0x13 ⟨.wrongState, .empty⟩))
    ∧ (s.arbiter.serving = some (.office (.settle (.resolve number a))) →
      (gone → exec .settleWalk s = .next (s.finished .f 0x28 ⟨.noSuchTicket, .empty⟩))
      ∧ (other [.doubt] → exec .settleWalk s = .next (s.finished .f 0x28 ⟨.wrongState, .empty⟩))))

/-- R119: each serial of a served ISSUE is handled by the state its entry has when it is reached, its age taken against the lockout as served,
and the answer carries the results in the order of the request. -/
def Obligations.IssueOperationIssues : Prop :=
  (∀ (s : State) (serials : List Nat), s.arbiter.serving = some (.office (.issue serials)) →
    let work := s.register.issueAll s.clock.minute s.settings.lockout serials
    exec .issueOperation s = .next (({ s with register := work.1 } : State).finished .f 0x40 ⟨.ok, .issue work.2⟩))
  ∧ ∀ (r : Register) (minute lockout serial st number : Nat) (serials : List Nat) (e : KegEntry),
    let age := (minute + (1048576 - st % 1048576)) % 1048576
    let removed : Register :=
      { r with
        entries := r.entries.filter (fun e => e.serial != serial)
        entryCount := r.entryCount - r.entries.countP (fun e => e.serial == serial) }
    let marked : Register :=
      { r with entries := r.entries.map (fun e => if e.serial = serial then { e with state := .issued st } else e) }
    let answered (r' : Register) (a : Result) : Prop :=
      r.issueAll minute lockout (serial :: serials) = ((r'.issueAll minute lockout serials).1, a :: (r'.issueAll minute lockout serials).2)
    r.issueAll minute lockout [] = (r, [])
    ∧ ((∀ k ∈ r.entries, k.serial ≠ serial) → answered r .notFound)
    ∧ (e ∈ r.entries → e.serial = serial → (∀ k ∈ r.entries, k.serial = serial → k = e) →
      (e.state = .pending number → answered r .issueConflict)
      ∧ (e.state = .credited st → lockout ≤ age → answered removed .removed)
      ∧ (e.state = .credited st → age < lockout → answered marked .issued)
      ∧ (e.state = .issued st → lockout ≤ age → answered removed .removed)
      ∧ (e.state = .issued st → age < lockout → answered r .issued))

/-- R121, R127, R123: a served REGISTER_QUERY reads and changes nothing in the register; a served CLEAR_GUARD ends the guard and is answered OK;
a sweep removes the aged ISSUED and CREDITED entries, lowers the entry count by their number and ends a guard whose end stamp is reached. The
age of a PENDING entry is answered as 0 (log 22). R121: the summary holds the entry count, the number of entries in each state, the
replacement count, and the guard with its end stamp and the minutes remaining, 0 once its end is reached (log 23). -/
def Obligations.QueryGuardAndSweepAreServed : Prop :=
  ∀ (s : State) (serial : Nat) (e : KegEntry),
    let r := s.register
    let age (st : Nat) := (s.clock.minute + (1048576 - st % 1048576)) % 1048576
    let gone (e : KegEntry) : Bool := match e.state with
      | .pending _ => false
      | .credited st => decide (s.settings.retention ≤ age st)
      | .issued st => decide (s.settings.lockout ≤ age st)
    let guardEnd : Option Nat := match s.register.guardEnd with
      | none => none
      | some stop => if age stop < 524288 then none else some stop
    (s.arbiter.serving = some (.office (.query serial)) →
      (s.register.find serial = none → exec .registerQueryOperation s =
        .next (s.finished .f 0x41 ⟨.notFound, .query none 0 (s.register.summary s.clock.minute)⟩))
      ∧ (s.register.find serial = some e → exec .registerQueryOperation s =
        .next (s.finished .f 0x41 ⟨.ok, .query (some e)
          (match e.state with | .pending _ => 0 | .credited st => age st | .issued st => age st) (s.register.summary s.clock.minute)⟩)))
    ∧ (s.arbiter.serving = some (.office .clearGuard) → exec .clearGuardOperation s =
        .next (({ s with register := { s.register with guardEnd := none } } : State).finished .f 0x42 ⟨.ok, .empty⟩))
    ∧ (s.arbiter.serving = some (.sweep .sweep) → exec .sweep s =
        .next ({ s with
          register :=
            { s.register with
              entries := s.register.entries.filter (fun e => !gone e)
              entryCount := s.register.entryCount - s.register.entries.countP gone
              guardEnd := guardEnd } } : State).completeOperation)
    ∧ r.summary s.clock.minute =
      { entries := r.entryCount
        pending := r.entries.countP (fun e => match e.state with | .pending _ => true | _ => false)
        credited := r.entries.countP (fun e => match e.state with | .credited _ => true | _ => false)
        issued := r.entries.countP (fun e => match e.state with | .issued _ => true | _ => false)
        replacements := r.replacements
        guardEnd := r.guardEnd
        remaining := match r.guardEnd with
          | none => 0
          | some stop => if age stop < 524288 then 0 else (stop + (1048576 - s.clock.minute % 1048576)) % 1048576 }

/-- R114: an insert of a serial with no entry adds the one PENDING entry while there is room; in a full register it takes the place of the
ISSUED entry of the greatest age, the replacement count going up; with no ISSUED entry it is not made. -/
def Obligations.InsertReplacesTheOldestIssued : Prop :=
  ∀ (r r1 : Register) (minute : Nat) (k : KegEntry), r.ok → r.find k.serial = none →
    let age (e : KegEntry) : Option Nat := match e.state with
      | .issued st => some ((minute + (1048576 - st % 1048576)) % 1048576)
      | _ => none
    (r.entryCount < 4096 → ∃ u, r.insert minute k = some u ∧ (∀ e, e ∈ u.entries ↔ e = k ∨ e ∈ r.entries)
      ∧ u.entryCount = r.entryCount + 1 ∧ u.replacements = r.replacements ∧ u.guardEnd = r.guardEnd)
    ∧ (r.entryCount = 4096 → ((∃ e ∈ r.entries, (age e).isSome = true) ↔ (r.insert minute k).isSome = true))
    ∧ (r.entryCount = 4096 → r.insert minute k = some r1 → ∃ old ∈ r.entries, ∃ a, age old = some a
      ∧ (∀ e ∈ r.entries, ∀ b, age e = some b → b < a ∨ (b = a ∧ old.serial ≤ e.serial))
      ∧ (∀ e, e ∈ r1.entries ↔ e = k ∨ (e ∈ r.entries ∧ e ≠ old))
      ∧ r1.entryCount = 4096 ∧ r1.replacements = min 65535 (r.replacements + 1) ∧ r1.guardEnd = r.guardEnd)

/-! ## Settlement, the till and payout -/

/-- R162, R164, R165: a PAY of a PRICED ticket with a cash quote, no ticket being PAYING, reserves the lesser of the quote and the available
amount rounded down to the step used; the quotes are cut to it, the ticket enters PAYING, the pay timer starts and PAYGO is answered. With
nothing to reserve it is refused TILL_EMPTY, and with another ticket PAYING it is refused BUSY. -/
def Obligations.PayReservesCash : Prop :=
  ∀ (s : State) (tag number : Nat) (i j : Fin 24) (t w : Ticket) (p : PricedRecord), s.canTake .k → s.holdsTicket number i t →
    t.state = .priced → t.priced = some p →
    let free := ∀ j u, s.ticketAt j = some u → u.state ≠ .paying
    let r := min p.cash ((s.till.balance - s.till.reserved) / p.step * p.step)
    let cut : PricedRecord := { p with cash := r, credit := p.credit + (p.cash - r) }
    (free → 0 < p.cash → 0 < r → exec (.pay tag number) s =
      .next (({ s.putTicket i { t with state := .paying, priced := some cut, payout := some ⟨r, none, none⟩ } with
          till := { s.till with reserved := s.till.reserved + r }
          payTimer := some (s.settings.payTimeout * 1000) } : State).answered .k 0x12 tag ⟨.paygo, .paygo r cut.cash cut.credit⟩))
    ∧ (free → 0 < p.cash → r = 0 → exec (.pay tag number) s = .next (s.refusedWith .k 0x12 tag .tillEmpty))
    ∧ (s.ticketAt j = some w → w.state = .paying → exec (.pay tag number) s = .next (s.refusedWith .k 0x12 tag .busy))

/-- R166, R169: a DISPENSED in PAYING records the report, stops the pay timer and raises the settle walk, or is refused BUSY while an earlier
report waits or 16 operations wait in the office-side queue, the one in service not counted (log 9); in DOUBT it records the kiosk claim and is
answered LATE. An amount out of range is refused MALFORMED. R168, R171: when the running pay timer expires the paying ticket enters DOUBT with its
payout record kept, and the till is left as it is; a stopped timer does nothing (log 4). A RESOLVE with an amount out of range is refused
MALFORMED, and without the key LOCKED. -/
def Obligations.PayoutIsReportedOrTimesOut : Prop :=
  (∀ (s : State) (tag number d : Nat) (i : Fin 24) (t : Ticket) (o : PayoutRecord), s.canTake .k →
    (99999999 < d → exec (.dispensed tag number d) s = .next (s.refusedWith .k 0x13 tag .malformed))
    ∧ (s.holdsTicket number i t → t.payout = some o → d ≤ 99999999 →
      (t.state = .paying → o.report = none → s.arbiter.office.length < 16 → exec (.dispensed tag number d) s =
        .next (({ s.putTicket i { t with payout := some { o with report := some d } } with payTimer := none } : State).queued .k 0x13 tag
          (.settle (.dispensed number))))
      ∧ (t.state = .paying → (o.report ≠ none ∨ 16 ≤ s.arbiter.office.length) →
        exec (.dispensed tag number d) s = .next (s.refusedWith .k 0x13 tag .busy))
      ∧ (t.state = .doubt → exec (.dispensed tag number d) s =
        .next ((s.putTicket i { t with payout := some { o with claim := some d } }).refusedWith .k 0x13 tag .late))))
  ∧ (∀ (s : State) (tag number amount : Nat) (i : Fin 24) (t : Ticket) (key : Bool),
    (s.payTimer ≠ none → s.ticketAt i = some t → t.state = .paying →
      (∀ j u, s.ticketAt j = some u → u.state = .paying → j = i) →
      exec .payTimeout s = .next { s.putTicket i { t with state := .doubt } with payTimer := none })
    ∧ (s.payTimer = none → exec .payTimeout s = .next s)
    ∧ (s.canTake .f → 99999999 < amount →
      exec (.resolve key tag number amount) s = .next ((s.withKey key).refusedWith .f 0x28 tag .malformed))
    ∧ (s.canTake .f → amount ≤ 99999999 →
      exec (.resolve false tag number amount) s = .next ((s.withKey false).refusedWith .f 0x28 tag .locked)))

/-- R159, R160: with the key a TILL_LOAD adds its amount to the balance and a TILL_COUNT replaces it, each held at 99,999,999 with CLAMPED; a
count below the reserved amount is refused BELOW_RESERVED. Without the key either is refused LOCKED, and a load above 99,999,999 is refused
MALFORMED. -/
def Obligations.TillIsLoadedAndCounted : Prop :=
  ∀ (s : State) (key : Bool) (tag amount : Nat), s.canTake .f →
    let with_ (balance : Nat) : State := { s.withKey true with till := { s.till with balance := balance } }
    let body (balance : Nat) : Body := .till balance s.till.reserved (balance - s.till.reserved)
    let sum := s.till.balance + amount
    (99999999 < amount → exec (.tillLoad key tag amount) s = .next ((s.withKey key).refusedWith .f 0x29 tag .malformed))
    ∧ (amount ≤ 99999999 → exec (.tillLoad false tag amount) s = .next ((s.withKey false).refusedWith .f 0x29 tag .locked))
    ∧ (amount ≤ 99999999 → sum ≤ 99999999 →
      exec (.tillLoad true tag amount) s = .next ((with_ sum).answered .f 0x29 tag ⟨.ok, body sum⟩))
    ∧ (amount ≤ 99999999 → 99999999 < sum →
      exec (.tillLoad true tag amount) s = .next ((with_ 99999999).answered .f 0x29 tag ⟨.clamped, body 99999999⟩))
    ∧ exec (.tillCount false tag amount) s = .next ((s.withKey false).refusedWith .f 0x2A tag .locked)
    ∧ (min 99999999 amount < s.till.reserved →
      exec (.tillCount true tag amount) s = .next ((s.withKey true).refusedWith .f 0x2A tag .belowReserved))
    ∧ (s.till.reserved ≤ min 99999999 amount → exec (.tillCount true tag amount) s =
        .next ((with_ (min 99999999 amount)).answered .f 0x2A tag
          ⟨if 99999999 < amount then .clamped else .ok, body (min 99999999 amount)⟩))

/-! ## Holds -/

/-- R83, R84, R85, R9: a RELEASE that does not need the register is carried out as it is taken. ACCEPT counts the quantity in the class as
judged, the ownership and the resulting grade, REFUSE counts nothing; the hold is freed, its ticket's holds outstanding go down by one, the
pricing test is made, and the answer carries the ticket and its holds outstanding. A verdict or amended grade out of range is refused
MALFORMED, and a number that names no hold NO_SUCH_HOLD. -/
def Obligations.ReleaseAtOnceResolvesTheHold : Prop :=
  ∀ (s : State) (tag number verdict amended : Nat) (j : Fin 64) (h : Hold) (i : Fin 24) (t : Ticket) (g : Grade), s.canTake .f →
    let freed : State :=
      { s with
        holds := s.holds.set j ⟨(s.holds.get j).generation, none⟩
        holdOrder := s.holdOrder.filter (fun n => n != number) }
    let after (u : Ticket) : State := (freed.putTicket i { u with holds := u.holds - 1 }).priceTest i
    ((verdict ∉ [0, 2] ∨ amended ∉ [0, 1, 2, 255]) → exec (.release tag number verdict amended) s = .next (s.refusedWith .f 0x20 tag .malformed))
    ∧ (verdict ∈ [0, 2] → amended ∈ [0, 1, 2, 255] → s.lookupHold number = none →
      exec (.release tag number verdict amended) s = .next (s.refusedWith .f 0x20 tag .noSuchHold))
    ∧ (s.holdsHold number j h → s.holdsTicket h.ticket i t →
      (h.entryMade = false → amended ∈ [0, 1, 2, 255] → exec (.release tag number 2 amended) s =
        .next ((after t).answered .f 0x20 tag ⟨.ok, .released h.ticket (t.holds - 1)⟩))
      ∧ ((amended = g.code ∨ (amended = 255 ∧ g = h.grade)) → (h.serial = 0 ∨ (g = .scrap ∧ h.entryMade = false)) →
        (h.serial = 0 → h.entryMade = false) →
        exec (.release tag number 0 amended) s =
          .next ((after (t.addCount h.judged g h.ownership h.quantity)).answered .f 0x20 tag
            ⟨if 65535 < t.counter h.judged g h.ownership + h.quantity then .clamped else .ok, .released h.ticket (t.holds - 1)⟩)))

/-- R84, R85, R83: a served RELEASE checks its number again. ACCEPT as FULL or WORN makes sure of a PENDING entry of the serial for the ticket:
it is inserted, kept, or takes the place of a CREDITED or ISSUED one; a full register refuses REGISTER_FULL and a PENDING entry of another
ticket CONFLICT, and the hold is kept. REFUSE, or ACCEPT as SCRAP, removes the PENDING entry the hold made. -/
def Obligations.ReleaseOperationSettlesTheEntry : Prop :=
  ∀ (s : State) (number other : Nat) (j : Fin 64) (h : Hold) (v : Verdict) (am : Option Grade) (r : Register) (e : KegEntry) (i : Fin 24)
    (t : Ticket), s.arbiter.serving = some (.office (.release number v am)) →
    let keg : KegEntry := ⟨h.serial, h.owner, h.judged, .pending h.ticket⟩
    let g := match am with | some g => g | none => h.grade
    let resolved (r : Register) (u : Ticket) : State :=
      (({ s with
          register := r
          holds := s.holds.set j ⟨(s.holds.get j).generation, none⟩
          holdOrder := s.holdOrder.filter (fun n => n != number) } : State).putTicket i { u with holds := u.holds - 1 }).priceTest i
    let counted := t.addCount h.judged g h.ownership h.quantity
    let accepted : Answer :=
      ⟨if 65535 < t.counter h.judged g h.ownership + h.quantity then .clamped else .ok, .released h.ticket (t.holds - 1)⟩
    let replaced : Register := { s.register with entries := s.register.entries.map (fun k => if k.serial = h.serial then keg else k) }
    let dropped : Register :=
      { s.register with
        entries := s.register.entries.filter (fun k => !(k.serial == h.serial && k.state == .pending h.ticket))
        entryCount := s.register.entryCount - s.register.entries.countP (fun k => k.serial == h.serial && k.state == .pending h.ticket) }
    (s.lookupHold number = none → exec .releaseOperation s = .next (s.finished .f 0x20 ⟨.noSuchHold, .empty⟩))
    ∧ (s.holdsHold number j h → s.holdsTicket h.ticket i t → h.serial ≠ 0 →
      (v = .accept → g ≠ .scrap →
        (s.register.find h.serial = none → s.register.insert s.clock.minute keg = some r →
          exec .releaseOperation s = .next ((resolved r counted).finished .f 0x20 accepted))
        ∧ (s.register.find h.serial = none → s.register.insert s.clock.minute keg = none →
          exec .releaseOperation s = .next (s.finished .f 0x20 ⟨.registerFull, .empty⟩))
        ∧ (s.register.find h.serial = some e → e.state = .pending h.ticket →
          exec .releaseOperation s = .next ((resolved s.register counted).finished .f 0x20 accepted))
        ∧ (s.register.find h.serial = some e → e.state = .pending other → other ≠ h.ticket →
          exec .releaseOperation s = .next (s.finished .f 0x20 ⟨.conflict, .empty⟩))
        ∧ (s.register.find h.serial = some e → (∀ n, e.state ≠ .pending n) →
          exec .releaseOperation s = .next ((resolved replaced counted).finished .f 0x20 accepted)))
      ∧ (h.entryMade = true → v = .accept → g = .scrap →
        exec .releaseOperation s = .next ((resolved dropped counted).finished .f 0x20 accepted))
      ∧ (h.entryMade = true → v = .refuse →
        exec .releaseOperation s = .next ((resolved dropped t).finished .f 0x20 ⟨.ok, .released h.ticket (t.holds - 1)⟩)))

/-- R86: a served hold expiry removes the PENDING entry the hold made and resolves the hold, its ticket's expired holds going up by one,
stopping at 64; an expiry whose number names no hold does nothing. R88, R81: a HOLD_READ by hold number answers the record, by ticket number
the hold numbers that name the ticket in the order they were made; a selector out of range is refused MALFORMED. -/
def Obligations.HoldsExpireAndAreRead : Prop :=
  (∀ (s : State) (number : Nat) (j : Fin 64) (h : Hold) (i : Fin 24) (t : Ticket), s.arbiter.serving = some (.sweep (.expiry number)) →
    (s.lookupHold number = none → exec .holdExpiryOperation s = .next s.completeOperation)
    ∧ (s.holdsHold number j h → s.holdsTicket h.ticket i t → exec .holdExpiryOperation s =
        .next (((({ s with
          register :=
            { s.register with
              entries := s.register.entries.filter (fun k => !(k.serial == h.serial && k.state == .pending h.ticket))
              entryCount := s.register.entryCount - s.register.entries.countP (fun k => k.serial == h.serial && k.state == .pending h.ticket) }
          holds := s.holds.set j ⟨(s.holds.get j).generation, none⟩
          holdOrder := s.holdOrder.filter (fun n => n != number) } : State).putTicket i
            { t with holds := t.holds - 1, expired := min 64 (t.expired + 1) }).priceTest i).completeOperation)))
  ∧ (∀ (s : State) (tag selector number : Nat) (j : Fin 64) (h : Hold) (i : Fin 24) (t : Ticket), s.canTake .f →
    (s.holdsHold number j h → exec (.holdRead tag 0 number) s = .next (s.answered .f 0x21 tag ⟨.ok, .hold number h⟩))
    ∧ (s.lookupHold number = none → exec (.holdRead tag 0 number) s = .next (s.refusedWith .f 0x21 tag .noSuchHold))
    ∧ (s.holdsTicket number i t → ∃ numbers : List Nat,
        exec (.holdRead tag 1 number) s = .next (s.answered .f 0x21 tag ⟨.ok, .holdList numbers⟩)
        ∧ numbers.Sublist s.holdOrder ∧ ∀ n, n ∈ numbers ↔ n ∈ s.holdOrder ∧ ∃ j h, s.holdsHold n j h ∧ h.ticket = number)
    ∧ (s.lookupTicket number = none → exec (.holdRead tag 1 number) s = .next (s.refusedWith .f 0x21 tag .noSuchTicket))
    ∧ (1 < selector → exec (.holdRead tag selector number) s = .next (s.refusedWith .f 0x21 tag .malformed)))

/-! ## Tariff banks and changeover -/

/-- R131, R132: a BANK_WRITE stores a class entry, and a FEE_WRITE the fee, in the standby bank, each value brought into its range with CLAMPED,
and the answer names the bank and carries what was stored. While the standby bank holds a reference both are refused BANK_IN_USE; a class
above 15 or a yes-or-no that is neither is refused MALFORMED first. R134, R136, R137, R138, R139: a BANK_READ answers the values as they
stand; a CHANGEOVER_ARM arms its time, and a time reached already makes the swap within the request: the roles are exchanged, the changeover
is not armed and CHANGEOVER_DONE is raised; a DISARM leaves it not armed. Codes out of range are refused MALFORMED. -/
def Obligations.BanksAreWrittenAndChangedOver : Prop :=
  (∀ (s : State) (tag cls fee : Nat) (e : RawClassEntry) (c : Fin 16), s.canTake .f →
    let stored : ClassEntry :=
      ⟨e.opened == 1, min 50000 e.deposit, min 100 e.worn, min 100 e.pool, e.serialRequired == 1, max 1 (min 64 e.tallyLimit)⟩
    let inRange := e.deposit ≤ 50000 ∧ e.worn ≤ 100 ∧ e.pool ≤ 100 ∧ 1 ≤ e.tallyLimit ∧ e.tallyLimit ≤ 64
    let standby : BankId := match s.tariff.active with | .a => .b | .b => .a
    let with_ (k : Bank) : State :=
      { s with tariff := match s.tariff.active with | .a => { s.tariff with bankB := k } | .b => { s.tariff with bankA := k } }
    let bank := s.tariff.bank standby
    ((15 < cls ∨ 1 < e.opened ∨ 1 < e.serialRequired) → exec (.bankWrite tag cls e) s = .next (s.refusedWith .f 0x30 tag .malformed))
    ∧ (cls = c.val → e.opened ≤ 1 → e.serialRequired ≤ 1 →
      (0 < s.tariff.refs standby → exec (.bankWrite tag cls e) s = .next (s.refusedWith .f 0x30 tag .bankInUse))
      ∧ (s.tariff.refs standby = 0 →
        (inRange → exec (.bankWrite tag cls e) s =
          .next ((with_ { bank with classes := bank.classes.set c stored }).answered .f 0x30 tag ⟨.ok, .classEntry standby cls stored⟩))
        ∧ (¬inRange → exec (.bankWrite tag cls e) s =
          .next ((with_ { bank with classes := bank.classes.set c stored }).answered .f 0x30 tag
            ⟨.clamped, .classEntry standby cls stored⟩))))
    ∧ (0 < s.tariff.refs standby → exec (.feeWrite tag fee) s = .next (s.refusedWith .f 0x31 tag .bankInUse))
    ∧ (s.tariff.refs standby = 0 → fee ≤ 10000 → exec (.feeWrite tag fee) s =
        .next ((with_ { bank with fee := fee }).answered .f 0x31 tag ⟨.ok, .fee standby fee⟩))
    ∧ (s.tariff.refs standby = 0 → 10000 < fee → exec (.feeWrite tag fee) s =
        .next ((with_ { bank with fee := 10000 }).answered .f 0x31 tag ⟨.clamped, .fee standby 10000⟩)))
  ∧ (∀ (s : State) (tag cls time code : Nat) (b : BankId) (c : Fin 16), s.canTake .f →
    let reached := (s.clock.minute + (1048576 - time % 1048576)) % 1048576 < 524288
    let other : BankId := match s.tariff.active with | .a => .b | .b => .a
    let armed (t : Option Nat) : State := { s with tariff := { s.tariff with armed := t } }
    let swapped : State :=
      { s with tariff := { s.tariff with active := other, armed := none }, edges := { s.edges with changeoverDone := true } }
    (code = b.code → cls = c.val → exec (.bankRead tag code cls) s =
      .next (s.answered .f 0x32 tag ⟨.ok, .bank b cls ((s.tariff.bank b).classes.get c) (s.tariff.bank b).fee (decide (b ≠ s.tariff.active))
        (s.tariff.refs b) s.tariff.armed⟩))
    ∧ ((1 < code ∨ 15 < cls) → exec (.bankRead tag code cls) s = .next (s.refusedWith .f 0x32 tag .malformed))
    ∧ (1048576 ≤ time → exec (.changeoverArm tag time) s = .next (s.refusedWith .f 0x33 tag .malformed))
    ∧ (time < 1048576 → ¬reached → exec (.changeoverArm tag time) s =
        .next ((armed (some time)).answered .f 0x33 tag ⟨.ok, .changeover (some time) s.tariff.active⟩))
    ∧ (time < 1048576 → reached → exec (.changeoverArm tag time) s = .next (swapped.answered .f 0x33 tag ⟨.ok, .changeover none other⟩))
    ∧ exec (.changeoverDisarm tag) s = .next ((armed none).answered .f 0x34 tag ⟨.ok, .changeover none s.tariff.active⟩))

/-! ## Watch entries -/

/-- R100, R101, R103: a WATCH_WRITE in the form of its fields replaces the rule as stored and clears the evidence, CLAMPED when the stored rule
differs from the one carried: a block exponent of another field than SERIAL is 0, an odd entry is not chained, and without the key a head is
not chained to a supervisor tail. Without the key an entry or a rule with the supervisor flag is refused LOCKED, and what would leave a
supervisor tail under a head without the flag is refused CHAIN_CONFLICT. R104, R105: a WATCH_READ answers the entry as it stands, whether or
not the key is active; a CAPTURE_READ answers the capture, hit flag and count, then unlocks the capture and clears the hit flag, and is
refused LOCKED for a supervisor entry without the key; an entry above 7 is refused MALFORMED. R100, R90, R215, R216: the form of the fields is
good when every code is in its coding, the value is in the range of its field and the block exponent is at most 20. -/
def Obligations.WatchEntriesAreWrittenAndRead : Prop :=
  (∀ (s : State) (key : Bool) (tag entry : Nat) (i : Fin 8) (raw : RawRule) (r : WatchRule), s.canTake .f →
    let old := (s.watch.get i).rule
    let partner := (s.watch.get ⟨if i.val % 2 = 0 then i.val + 1 else i.val - 1, by have := i.isLt; split <;> omega⟩).rule
    let even := i.val % 2 = 0
    let conflict := (even ∧ key = true ∧ r.chain = true ∧ partner.supervisor = true ∧ r.supervisor = false)
      ∨ (¬even ∧ r.supervisor = true ∧ partner.chain = true ∧ partner.supervisor = false)
    let stored : WatchRule :=
      { r with
        exponent := if r.field = .serial then r.exponent else 0
        chain := r.chain && decide even && !(!key && partner.supervisor) }
    ((7 < entry ∨ ruleOfRaw raw = none) → exec (.watchWrite key tag entry raw) s = .next ((s.withKey key).refusedWith .f 0x38 tag .malformed))
    ∧ (entry = i.val → ruleOfRaw raw = some r →
      (key = false → (old.supervisor = true ∨ r.supervisor = true) →
        exec (.watchWrite key tag entry raw) s = .next ((s.withKey key).refusedWith .f 0x38 tag .locked))
      ∧ ((key = true ∨ (old.supervisor = false ∧ r.supervisor = false)) →
        (conflict → exec (.watchWrite key tag entry raw) s = .next ((s.withKey key).refusedWith .f 0x38 tag .chainConflict))
        ∧ (¬conflict → exec (.watchWrite key tag entry raw) s =
          .next (({ s.withKey key with watch := s.watch.set i ⟨stored, false, 0, none, false⟩ } : State).answered .f 0x38 tag
            ⟨if stored = r then .ok else .clamped, .watchRule entry stored⟩)))))
  ∧ (∀ (s : State) (key : Bool) (tag entry : Nat) (i : Fin 8), s.canTake .f →
    let e := s.watch.get i
    let head := (s.watch.get ⟨i.val - i.val % 2, by have := i.isLt; omega⟩).rule
    let chained : Chained := if head.chain then (if i.val % 2 = 0 then .head else .tail) else .no
    (7 < entry → exec (.watchRead tag entry) s = .next (s.refusedWith .f 0x39 tag .malformed)
      ∧ exec (.captureRead key tag entry) s = .next ((s.withKey key).refusedWith .f 0x3A tag .malformed))
    ∧ (entry = i.val →
      exec (.watchRead tag entry) s = .next (s.answered .f 0x39 tag ⟨.ok, .watchEntry entry e chained⟩)
      ∧ (key = false → e.rule.supervisor = true →
        exec (.captureRead key tag entry) s = .next ((s.withKey key).refusedWith .f 0x3A tag .locked))
      ∧ ((key = true ∨ e.rule.supervisor = false) → exec (.captureRead key tag entry) s =
        .next (({ s.withKey key with watch := s.watch.set i { e with hit := false, locked := false } } : State).answered .f 0x3A tag
          ⟨.ok, .capture entry e.capture e.hit e.count⟩))))
  ∧ (∀ (raw : RawRule) (r : WatchRule), ruleOfRaw raw = some r ↔
    raw.enabled = r.enabled.toNat ∧ raw.oneShot = r.oneShot.toNat ∧ raw.chain = r.chain.toNat ∧ raw.supervisor = r.supervisor.toNat
    ∧ raw.field = (match r.field with | .serial => 0 | .owner => 1 | .account => 2 | .cls => 3)
    ∧ raw.action = (match r.action with | .note => 0 | .hold => 1 | .void => 2)
    ∧ raw.value = r.value ∧ r.value ≤ (match r.field with | .serial => 4294967295 | .owner => 255 | .account => 999999 | .cls => 15)
    ∧ raw.exponent = r.exponent ∧ r.exponent ≤ 20)

/-- R92 to R96, R98: after a consultation each entry that fires has its hit flag set, its count up by one to at most 65,535, its capture made if
it was unlocked, its lock set, and is disabled if it is one-shot; each that does not fire stands as it was. An unchained entry fires when it
is enabled and matches, with its own action, and a chained pair when both its entries do, with its tail's. -/
def Obligations.ConsultationFiresWhatMatches : Prop :=
  ∀ (t : Table WatchEntry 8) (w : Watched),
    let head (i : Fin 8) := (t.get ⟨i.val - i.val % 2, by have := i.isLt; omega⟩).rule
    let tail (i : Fin 8) := (t.get ⟨i.val - i.val % 2 + 1, by have := i.isLt; omega⟩).rule
    let hits (r : WatchRule) : Prop := r.enabled = true ∧ match r.field with
      | .serial => w.serial ≠ 0 ∧ w.serial / 2 ^ r.exponent = r.value / 2 ^ r.exponent
      | .owner => w.owner ≠ 0 ∧ w.owner = r.value
      | .account => w.account = r.value
      | .cls => w.cls = r.value
    let fired (i : Fin 8) := ((head i).chain = true ∧ hits (head i) ∧ hits (tail i)) ∨ ((head i).chain = false ∧ hits (t.get i).rule)
    let acts (a : WatchAction) := ∃ i, fired i ∧ (if (head i).chain then (tail i).action else (t.get i).rule.action) = a
    (∀ i, (fired i → (consulted t w).get i =
      { rule := { (t.get i).rule with enabled := (t.get i).rule.enabled && !(t.get i).rule.oneShot }
        hit := true
        count := min 65535 ((t.get i).count + 1)
        capture := if (t.get i).locked then (t.get i).capture else some w.capture
        locked := true })
      ∧ (¬fired i → (consulted t w).get i = t.get i))
    ∧ ((firedOn t w).any = true ↔ ∃ i, fired i) ∧ ((firedOn t w).void = true ↔ acts .void)
    ∧ ((firedOn t w).hold = true ↔ acts .hold) ∧ ((firedOn t w).note = true ↔ acts .note)

/-! ## The yard clock -/

/-- R179: of two minute values, a is at or after b exactly when a is one of the 524,288 values from b up to b + 524,287, modulo 1,048,576, and
the distance from b to a, which is the age of a stamp b at the minute a and the distance ahead of a stamp a at the minute b, is the one
count below 1,048,576 that leads from b to a. -/
def Obligations.MinutesAreComparedByTheWindowRule : Prop :=
  ∀ a b : Nat, a < 1048576 → b < 1048576 →
    (atOrAfter a b = true ↔ ∃ k, k < 524288 ∧ a = (b + k) % 1048576)
    ∧ (∀ k, minuteDiff a b = k ↔ k < 1048576 ∧ a = (b + k) % 1048576)

/-- R181, R182, R111, R141: a SET_CLOCK in range makes set pending and raises a rebase, served at once by an idle register and otherwise left to
the end of the operation in service; it is refused MALFORMED or BUSY. The rebase moves the clock and every moving stamp by one change,
answers OK, makes the reached test against the clock as set, and the register serves on. -/
def Obligations.SetClockRebasesTheStamps : Prop :=
  ∀ (s : State) (tag minute second : Nat) (c : ClockSet), 
    (s.canTake .f →
      ((1048576 ≤ minute ∨ 59 < second) → exec (.setClock tag minute second) s = .next (s.refusedWith .f 0x48 tag .malformed))
      ∧ (minute < 1048576 → second ≤ 59 →
        (s.setPending ≠ none → exec (.setClock tag minute second) s = .next (s.refusedWith .f 0x48 tag .busy))
        ∧ (s.setPending = none →
          (s.arbiter.serving = none → exec (.setClock tag minute second) s = .next
            { s.waiting .f 0x48 tag with setPending := some ⟨minute, second⟩, arbiter := { s.arbiter with serving := some .rebase } })
          ∧ (s.arbiter.serving ≠ none → exec (.setClock tag minute second) s =
            .next { s.waiting .f 0x48 tag with setPending := some ⟨minute, second⟩ }))))
    ∧ (s.arbiter.serving = some .rebase → s.setPending = some c →
      let delta := (c.minute + (1048576 - s.clock.minute % 1048576)) % 1048576
      let moved (st : Nat) : Nat := (st + delta) % 1048576
      let rebased : State :=
        { s with
          register :=
            { s.register with
              entries := s.register.entries.map (fun e =>
                { e with state := match e.state with
                  | .pending t => .pending t
                  | .credited st => .credited (moved st)
                  | .issued st => .issued (moved st) })
              guardEnd := s.register.guardEnd.map moved }
          tickets := s.tickets.map (fun sl =>
            { sl with ticket := sl.ticket.map (fun t => { t with opened := moved t.opened, deadline := moved t.deadline }) })
          holds := s.holds.map (fun sl => { sl with hold := sl.hold.map (fun h => { h with held := moved h.held, deadline := moved h.deadline }) })
          lanes := s.lanes.map (fun i => { i with batch := i.batch.map (fun b => { b with boundAt := moved b.boundAt }) })
          clock := { s.clock with minute := c.minute, second := c.second }
          setPending := none }
      exec .rebase s = .next ((rebased.replyOldest .f 0x48 ⟨.ok, .clockSet c.minute c.second⟩).reachedTest.completeOperation))

/-- R176, R178, R185, R210: a second below 59 counts up; the step from 59 and a minute boundary put it at 0 and raise the minute by one, modulo
1,048,576. While the part runs the boundary goes to the deadline tests, the reached test and the sweep; without supply the unpowered minutes
count up to 262,144; during a start it is only counted. CLOCK_READ answers the time, set pending and the battery. That MINUTE_BOUNDARY acts
at any second is log 5, and the order in which the boundary is handed to the four blocks is log 38. -/
def Obligations.ClockCountsAndHandsBoundaries : Prop :=
  ∀ (s : State) (tag : Nat),
    let clock : Clock := { s.clock with minute := (s.clock.minute + 1) % 1048576, second := 0 }
    let boundary : State := match s.phase with
      | .running => ({ s with clock := clock } : State).deadlineTests.expireHolds.reachedTest.raiseExpiriesAndSweep
      | .off => { s with clock := { clock with unpowered := min 262144 (s.clock.unpowered + 1) } }
      | _ => { s with clock := clock }
    (s.clock.second < 59 → exec .clockSecond s = .next { s with clock := { s.clock with second := s.clock.second + 1 } })
    ∧ (59 ≤ s.clock.second → exec .clockSecond s = .next boundary)
    ∧ exec .minuteBoundary s = .next boundary
    ∧ (s.canTake .f → exec (.clockRead tag) s =
        .next (s.answered .f 0x49 tag ⟨.ok, .clock s.clock.minute s.clock.second (decide (s.setPending ≠ none)) s.batteryLow⟩))

/-- R14, R86, R138, R124: the tests of a minute boundary, one by one. A ticket in OPEN or CLOSING with FORCED_CLOSE clear whose deadline is
reached gets FORCED_CLOSE, the active batches of its lanes are closed with reason DEADLINE, and it is closed and tested for pricing. A hold whose
deadline is reached resolves at the test if it made no entry; if it made one, its expiry is raised unless it is raised already. Each of the 24
slots of the ticket table is tested, and each of the 64 slots of the hold pool, a FREE slot's test changing nothing; the order, by slot, is log
38. After the tests of the pool no hold without an entry stands whose deadline is reached, and every other hold stands as it was. The reached test
swaps the banks when the armed time is reached. A sweep is raised unless one waits, and every expiry to raise and a sweep then wait at the
register or are served; nothing but the arbiter and the model's own counter changes. Whether the sweep stands before the expiries is free (log
14), and so is their order (log 15). -/
def Obligations.BoundaryTestsAreMade : Prop :=
  ∀ (s : State) (i k : Fin 24) (t u : Ticket) (j : Fin 64) (h : Hold) (number : Nat),
    let reached (stamp : Nat) : Prop := (s.clock.minute + (1048576 - stamp % 1048576)) % 1048576 < 524288
    let fires := t.state ∈ [.opened, .closing] ∧ t.flags.forcedClose = false ∧ reached t.deadline
    let freed : State :=
      { s with
        holds := s.holds.set j ⟨(s.holds.get j).generation, none⟩
        holdOrder := s.holdOrder.filter (fun n => n != s.holdNumber j) }
    let swapped : State :=
      { s with
        tariff := { s.tariff with active := (match s.tariff.active with | .a => .b | .b => .a), armed := none }
        edges := { s.edges with changeoverDone := true } }
    (s.deadlineTests = (List.finRange 24).foldl State.deadlineTest s ∧ s.expireHolds = (List.finRange 64).foldl State.expireAtTest s)
    ∧ (s.ticketAt i = none → s.deadlineTest i = s) ∧ ((s.holds.get j).hold = none → s.expireAtTest j = s)
    ∧ ((s.expireHolds.holds.get j).hold = some h ↔ (s.holds.get j).hold = some h ∧ (reached h.deadline → h.entryMade = true))
    ∧ (s.ticketAt i = some t → (fires → s.deadlineTest i =
      (((t.lanes.members.foldl (fun u n => u.closeBatch n .deadline)
        (s.putTicket i { t with flags := { t.flags with forcedClose := true } })).modifyTicket i
          (fun t => if t.state = .opened then { t with state := .closing } else t)).priceTest i))
      ∧ (¬fires → s.deadlineTest i = s))
    ∧ ((s.holds.get j).hold = some h → s.holdsTicket h.ticket k u →
      (reached h.deadline → h.entryMade = false → s.expireAtTest j =
        (freed.putTicket k { u with holds := u.holds - 1, expired := min 64 (u.expired + 1) }).priceTest k)
      ∧ ((¬reached h.deadline ∨ h.entryMade = true) → s.expireAtTest j = s))
    ∧ (SweepOp.expiry number ∈ s.dueExpiries ↔ (∃ j h, (s.holds.get j).hold = some h ∧ s.holdNumber j = number ∧ h.entryMade = true ∧ reached h.deadline)
        ∧ SweepOp.expiry number ∉ s.arbiter.sweeps ∧ s.arbiter.serving ≠ some (.sweep (.expiry number)))
    ∧ s.reachedTest = (match s.tariff.armed with
        | none => s
        | some stamp => if (s.clock.minute + (1048576 - stamp % 1048576)) % 1048576 < 524288 then swapped else s)
    ∧ (s.dueExpiries = [] → s.raiseExpiriesAndSweep =
        if SweepOp.sweep ∈ s.arbiter.sweeps then s else { s with arbiter := s.arbiter.raiseSweeps [.sweep] })
    ∧ (SweepOp.expiry number ∈ s.dueExpiries →
      SweepOp.expiry number ∈ s.raiseExpiriesAndSweep.arbiter.sweeps
        ∨ s.raiseExpiriesAndSweep.arbiter.serving = some (.sweep (.expiry number)))
    ∧ (SweepOp.sweep ∈ s.raiseExpiriesAndSweep.arbiter.sweeps ∨ s.raiseExpiriesAndSweep.arbiter.serving = some (.sweep .sweep))
    ∧ { s.raiseExpiriesAndSweep with arbiter := s.arbiter, freeIndex := s.freeIndex } = s

/-! ## Settings -/

/-- R207, R219, R124: a SETTINGS_WRITE stores the value brought into the setting's range in the one setting it names, leaves every other setting as it
was, and answers the value stored, CLAMPED when it is not the value carried; a write of the lockout or the retention also raises a sweep,
unless one waits. An identifier that names no setting, an index out of range and a mode set above 7 are refused MALFORMED. What each write
stores, setting by setting: a range end for a value outside a range of numbers, the largest permitted value not above the one carried, or the
smallest, for a setting of permitted values, the next lower even number for the gate filter, the lockout no higher than the retention and the
retention no lower than the lockout, and all three modes for an empty mode set. The answer repeats the index carried, also for a setting that
has none (log 39). -/
def Obligations.SettingsAreStoredInRange : Prop :=
  ∀ (s : State) (tag identifier index value : Nat), s.canTake .f →
    let st := s.settings
    let req := exec (.settingsWrite tag identifier index value) s
    let stored (u : Settings) (v : Nat) : Prop :=
      req = .next { s.answered .f 0x50 tag ⟨if v = value then .ok else .clamped, .setting identifier index v⟩ with
        settings := u
        arbiter := if identifier ∈ [10, 11] ∧ SweepOp.sweep ∉ s.arbiter.sweeps then s.arbiter.raiseSweeps [.sweep] else s.arbiter }
    let within (low high : Nat) : Nat := if value < low then low else if high < value then high else value
    let permitted (allowed : List Nat) (v : Nat) : Prop :=
      v ∈ allowed ∧ (∀ a ∈ allowed, a ≤ value → a ≤ v) ∧ (v ≤ value ∨ ∀ a ∈ allowed, v ≤ a ∧ value < a)
    ((15 < identifier ∨ (identifier = 0 ∧ 4 < index) ∨ (identifier = 1 ∧ (2 < index ∨ 7 < value))) →
      req = .next (s.refusedWith .f 0x50 tag .malformed))
    ∧ (identifier = 0 → ∀ l : Link, [Link.lane .l0, .lane .l1, .lane .l2, .k, .f][index]? = some l →
      ∃ v, permitted [19200, 57600, 115200] v ∧ stored { st with speed := st.speed.modify l (fun _ => v) } v)
    ∧ (identifier = 1 → ∀ n : Lane, n.num = index → value ≤ 7 →
      let v := if value = 0 then 7 else value
      stored { st with modes := st.modes.modify n (fun _ => ⟨v.testBit 0, v.testBit 1, v.testBit 2⟩) } v)
    ∧ (identifier = 2 → stored { st with silence := within 1 30 } (within 1 30))
    ∧ (identifier = 3 → stored { st with burst := within 8 120 } (within 8 120))
    ∧ (identifier = 4 → let v := 2 * (within 2 40 / 2); stored { st with gateFilter := v } v)
    ∧ (identifier = 5 → stored { st with tolerance := within 0 3 } (within 0 3))
    ∧ (identifier = 6 → ∃ v, permitted [4, 8, 12, 16] v ∧ stored { st with highMark := v } v)
    ∧ (identifier = 7 → stored { st with ownCode := within 1 255 } (within 1 255))
    ∧ (identifier = 8 → stored { st with ticketLife := within 10 1440 } (within 10 1440))
    ∧ (identifier = 9 → stored { st with holdTime := within 5 1440 } (within 5 1440))
    ∧ (identifier = 10 → let v := min (within 60 20160) st.retention; stored { st with lockout := v } v)
    ∧ (identifier = 11 → let v := max (min value 262143) st.lockout; stored { st with retention := v } v)
    ∧ (identifier = 12 → stored { st with payTimeout := within 5 120 } (within 5 120))
    ∧ (identifier = 13 → ∃ v, permitted [1, 5, 10, 20, 50, 100] v ∧ stored { st with cashStep := v } v)
    ∧ (identifier = 14 → stored { st with cashCap := within 0 1000000 } (within 0 1000000))
    ∧ (identifier = 15 → stored { st with tillLow := within 0 10000000 } (within 0 10000000))

/-- R208, R209, R206: a SETTINGS_READ answers the live settings, the image state and the differs flag; a SAVE_SETTINGS takes a copy and erases
the signature, and is refused BUSY while a save is under way; the completed save leaves the image valid with the copy, or raises
SAVE_FAILED. That SAVE_SETTINGS makes steps 1 and 2 of R209 together is the model's inference (log 12). A save that a recognised RESET, a loss of
supply or a start cuts short ends with no answer and leaves the image as the save found it, or with its signature erased and invalid, or as step 3
wrote it, valid with the copy: R209 gives the three by the step cut, and that which of them holds is free is the model's inference (log 12). -/
def Obligations.SaveWritesTheImage : Prop :=
  ∀ (s : State) (tag : Nat) (copy : Settings) (former : Image),
    let state : ImageState := if s.saving = none then (if s.image.valid then .valid else .invalid) else .writing
    let differs := decide (state ≠ .valid) || decide (s.image.values ≠ s.settings)
    (s.canTake .f → exec (.settingsRead tag) s = .next (s.answered .f 0x51 tag ⟨.ok, .settings state differs s.settings⟩))
    ∧ (s.canTake .f → s.saving = none → ∃ u, exec (.saveSettings tag) s = .next u ∧ u.image.valid = false ∧ u.saving = some ⟨s.settings, s.image⟩
        ∧ { u with image := s.image, saving := none } = s.waiting .f 0x52 tag)
    ∧ (s.canTake .f → s.saving ≠ none → exec (.saveSettings tag) s = .next (s.refusedWith .f 0x52 tag .busy))
    ∧ (s.saving = some ⟨copy, former⟩ → ∃ u, exec (.saveComplete true) s = .next u ∧ u.image.valid = true ∧ u.image.values = copy ∧ u.saving = none
        ∧ { u with image := s.image, saving := s.saving } = s.replyOldest .f 0x52 ⟨.ok, .empty⟩)
    ∧ (s.saving = some ⟨copy, former⟩ → exec (.saveComplete false) s =
        .next (({ s with saving := none, edges := { s.edges with saveFailed := true } } : State).replyOldest .f 0x52 ⟨.saveFailed, .empty⟩))
    ∧ (s.saving = some ⟨copy, former⟩ → s.phase = .running → ∃ i : Image,
        (i = former ∨ i = s.image ∨ (i.valid = true ∧ i.values = copy))
        ∧ let cut : State := { s with saving := none, image := i, freeIndex := s.freeIndex + 1 }
          exec .supplyLoss s = exec .supplyLoss cut ∧ exec .resetInput s = exec .resetInput cut
          ∧ exec .powerOnReset s = exec .powerOnReset cut ∧ s.startAtReset = cut.startAtReset)

/-! ## Attention, link status and restarts -/

/-- R195, R199, R213: a LINK_STATUS answers the status as it stands and then clears the error flag of every link; an ATTENTION_READ answers the
pending set, its highest cause first, and removes every edge cause; a RESET_UNIT is answered OK. That LINK_STATUS advances the model's own counter
of free values is log 13. R196, R198, R10, R81, R125, R161, R170, R200: the pending set holds the raised edge causes and the level causes whose
conditions hold, each once, in the order of priority; ATTN is active while the part runs and the set is not empty. R49, R65, R195, R220: the bytes
of the LINK_STATUS record; what is absent is sent as 0 or as the code of an absent value (log 22), and the tenths left of a running break interval
are free within 1..20 (log 13). -/
def Obligations.StatusAndAttentionAreAnswered : Prop :=
  (∀ (s : State) (tag : Nat), s.canTake .f →
    exec (.linkStatus tag) s = .next (({ s with
        ports := s.ports.map (fun p => { p with error := false })
        freeIndex := s.freeIndex + 3 } : State).answered .f 0x58 tag ⟨.ok, .linkStatus (linkStatusRecord
          (({ s.heardDesk .f with ports := (s.heardDesk .f).ports.modify .f (Port.enqueue 0x58 tag) } : State)))⟩)
    ∧ exec (.attentionRead tag) s = .next (({ s with edges := Edges.none } : State).answered .f 0x5A tag
        ⟨.ok, .attention s.pendingCauses.head? s.pendingCauses⟩)
    ∧ exec (.resetUnit tag) s = .next (s.answered .f 0x5B tag ⟨.ok, .empty⟩))
  ∧ (∀ (s : State) (c : Attention),
    (c ∈ s.pendingCauses ↔ match c with
      | .doubt => ∃ i t, s.ticketAt i = some t ∧ t.state = .doubt
      | .retentionLost => s.edges.retentionLost = true
      | .settingsDefault => s.edges.settingsDefault = true
      | .recount => ∃ i t, s.ticketAt i = some t ∧ t.state ∈ [.opened, .closing] ∧ t.flags.recount = true
      | .watchHit => s.edges.watchHit = true
      | .holdWaiting => ∃ j, (s.holds.get j).hold ≠ none
      | .laneFault => s.edges.laneFault = true
      | .checkError => s.edges.checkError = true
      | .strayItems => s.edges.strayItems = true
      | .tillLow => s.till.balance - s.till.reserved < s.settings.tillLow
      | .registerHigh => 3840 ≤ s.register.entryCount
      | .changeoverDone => s.edges.changeoverDone = true
      | .saveFailed => s.edges.saveFailed = true)
    ∧ s.pendingCauses.Pairwise (fun a b => a.code < b.code)
    ∧ (s.attn = true ↔ s.phase = .running ∧ s.pendingCauses ≠ []))
  ∧ (∀ s : State,
    let le := littleEndian
    let yn (x : Bool) : List Byte := [if x then 1 else 0]
    let ofLink (p : Port) : List Byte :=
      le 1 (if p.speed = 19200 then 0 else if p.speed = 57600 then 1 else 2) ++ yn p.error
        ++ le 1 (match p.reason with | .none => 0 | .truncated => 1 | .length => 2 | .check => 3) ++ le 1 p.outstanding.length ++ le 2 p.overflow
    let ofBatch (b : Option Batch) : List Byte := match b with
      | none => List.replicate 11 0
      | some b => le 1 (if b.reason = none then 1 else 2) ++ le 2 b.ticket ++ le 3 b.boundAt ++ le 2 b.gate ++ le 2 b.frames ++ yn b.gap
    let ofLane (n : Lane) (tenths : Nat) : List Byte :=
      let i := s.lane n
      le 2 (s.port (.lane n)).lost ++ le 1 i.state.code ++ le 1 (modeCode i.resolved)
        ++ le 1 (match i.origin with | some .negotiated => 0 | some .sensed => 1 | none => 255)
        ++ le 1 (match i.former with | some st => st.code | none => 255) ++ le 1 (refusalCode i.refusal)
        ++ (match i.lastOffer with | some o => le 1 1 ++ le 1 o.ability.code ++ le 1 o.version | none => List.replicate 3 0)
        ++ le 1 i.offerCount ++ le 1 tenths ++ le 1 i.queue.length ++ yn i.landing.isSome ++ yn i.slow ++ le 2 i.stray ++ ofBatch i.batch
    let left (n : Lane) (tenths : Nat) : Prop := if (s.lane n).breakTimer = none then tenths = 0 else 1 ≤ tenths ∧ tenths ≤ 20
    ∃ t0 t1 t2, left .l0 t0 ∧ left .l1 t1 ∧ left .l2 t2 ∧ linkStatusRecord s =
      ofLink (s.port (.lane .l0)) ++ ofLink (s.port (.lane .l1)) ++ ofLink (s.port (.lane .l2)) ++ ofLink (s.port .k) ++ ofLink (s.port .f)
        ++ ofLane .l0 t0 ++ ofLane .l1 t1 ++ ofLane .l2 t2 ++ yn (s.port .k).up ++ yn (s.port .f).up)

/-- R51, R47, R62, R63: a lane whose silence timer expires, or that is restarted, enters DOWN: its active batch is closed with reason DOWN, its
waiting entries get the lost-link mark, its link and negotiation state are cleared, the break timer starts at 2 s and LANE_FAULT is raised.
RESTART_LANE is answered OK first and also clears the stray count; a lane number above 2 is refused MALFORMED; a stopped silence timer does
nothing (log 4). R51, R36, R35, R194, R193: at the end of its break interval a lane enters LISTEN and sends the part's offer, or loses and counts
it while the unsolicited list holds 15 frames or more; a mute release returns the lane to its former state; a second boundary restarts every burst
window; the silence timer of K or F leaves the link DOWN. -/
def Obligations.LaneAndLinkTimersExpire : Prop :=
  (∀ (s : State) (tag lane : Nat) (n : Lane),
    let down (s : State) : State :=
      let u := s.closeBatch n .down
      { u.modifyLane n (fun i =>
          { i with
            state := .down, resolved := none, former := none, slow := false, muteTimer := none, lastSequence := none, lastOffer := none
            offerCount := 0, origin := none, senseCheck := false, refusal := none, silenceTimer := none, breakTimer := some 2000
            queue := i.queue.map (fun e => { e with lostLink := true })
            landing := i.landing.map (fun e => { e with lostLink := true }) }) with
        edges := { u.edges with laneFault := true } }
    ((s.lane n).silenceTimer ≠ none → exec (.laneSilenceExpiry n) s = .next (down s))
    ∧ ((s.lane n).silenceTimer = none → exec (.laneSilenceExpiry n) s = .next s)
    ∧ (s.canTake .f → lane = n.num → exec (.restartLane tag lane) s =
        .next ((down (s.answered .f 0x59 tag ⟨.ok, .empty⟩)).modifyLane n (fun i => { i with stray := 0 })))
    ∧ (s.canTake .f → 2 < lane → exec (.restartLane tag lane) s = .next (s.refusedWith .f 0x59 tag .malformed)))
  ∧ (∀ (s : State) (n : Lane) (st : LaneState) (l : Link),
    ((s.lane n).breakTimer ≠ none → (s.lane n).state = .down →
      exec (.breakIntervalEnd n) s =
        .next ((s.modifyLane n (fun i => { i with state := .listen, breakTimer := none })).sentOrLost n
          (.offer ⟨s.settings.modes.get n, false, .listen, none, none⟩)))
    ∧ ((s.lane n).muteTimer ≠ none → (s.lane n).former = some st →
      exec (.muteRelease n) s = .next (s.modifyLane n (fun i => { i with state := st, former := none, muteTimer := none })))
    ∧ (s.phase = .running → exec .burstWindowRestart s = .next { s with lanes := s.lanes.map (fun i => { i with burst := 0 }) })
    ∧ (l = .k ∨ l = .f → (s.port l).silence ≠ none →
      exec (.linkSilenceExpiry l) s = .next (s.modifyPort l (fun p => { p with up := false, silence := none }))))

/-! ## Lane negotiation and intake -/

/-- R53 to R56, R60, R61: what an OFFER does to the lane in each state, and that it is answered by the part's own offer as the lane then stands.
The intersection is of the ability with the advertised set, empty for another version than 1. Refused BUSY while MUTED or with a batch
record. That a refused offer leaves the offer count as it is is log 21, and that the part's offer is answered with the result OK, also in REFUSED,
is log 42. -/
def Obligations.OfferNegotiates : Prop :=
  ∀ (s : State) (n : Lane) (tag version : Nat) (ability : ModeSet) (ack : Bool), s.canTake (.lane n) →
    let i := s.lane n
    let advertised := s.settings.modes.get n
    let offer : LaneOffer := ⟨ability, version⟩
    let common (m : ModeSet → Bool) : Bool := version == 1 && m ability && m advertised
    let empty := common ModeSet.serial = false ∧ common ModeSet.cls = false ∧ common ModeSet.tally = false
    let mode : Option Mode := if common ModeSet.serial then some .serial else if common ModeSet.cls then some .cls else some .tally
    let answer (st : LaneState) (m : Option Mode) (why : Option RefusalReason) : Answer :=
      ⟨.ok, .offer ⟨advertised, decide (st = .acking ∨ st = .counting), st, m, why⟩⟩
    let run (f : Intake → Intake) (a : Answer) : State := (s.modifyLane n f).answered (.lane n) 0x01 tag a
    let refuse (i : Intake) : Intake :=
      { i with
        state := .refused, refusal := some .noCommonMode, resolved := none, origin := none, former := none, senseCheck := false
        lastOffer := some offer }
    let refused : State :=
      { run refuse (answer .refused none (some .noCommonMode)) with edges := { s.edges with laneFault := true } }
    let toOffering (count : Nat) (i : Intake) : Intake := { i with state := .offering, lastOffer := some offer, offerCount := count }
    let left (i : Intake) : Intake := { i with resolved := none, origin := none, former := none, senseCheck := false, refusal := none }
    let req := exec (.offer n tag ability version ack) s
    (i.state = .listen → (empty → req = .next refused) ∧ (¬empty → req = .next (run (toOffering 1) (answer .offering none none))))
    ∧ (i.state = .offering →
      (empty → req = .next refused)
      ∧ (¬empty → i.lastOffer ≠ some offer → req = .next (run (toOffering 1) (answer .offering none none)))
      ∧ (¬empty → i.lastOffer = some offer → i.offerCount < 2 →
        req = .next (run (toOffering (i.offerCount + 1)) (answer .offering none none)))
      ∧ (¬empty → i.lastOffer = some offer → 2 ≤ i.offerCount →
        req = .next (run (fun i => { i with state := .acking, offerCount := 3 }) (answer .acking none none))))
    ∧ (i.state = .acking →
      (empty → req = .next refused)
      ∧ (¬empty → i.lastOffer ≠ some offer → req = .next (run (toOffering 1) (answer .offering none none)))
      ∧ (¬empty → i.lastOffer = some offer → ack = false → req = .next (run (fun i => i) (answer .acking none none)))
      ∧ (¬empty → i.lastOffer = some offer → ack = true → req = .next (run (fun i =>
          { i with state := .counting, resolved := mode, origin := some .negotiated, lastSequence := none, senseCheck := false })
          (answer .counting mode none))))
    ∧ (i.state = .muted ∨ ((i.state = .counting ∨ i.state = .sensed) ∧ i.batch ≠ none) →
      req = .next (s.refusedWith (.lane n) 0x01 tag .busy))
    ∧ ((i.state = .counting ∨ i.state = .sensed) → i.batch = none → i.refusal = none →
      (empty → req = .next refused) ∧ (¬empty → req = .next (run (fun i => toOffering 1 (left i)) (answer .offering none none))))
    ∧ (i.state = .refused → i.resolved = none → i.origin = none → i.former = none → i.senseCheck = false →
      (i.lastOffer = some offer → req = .next (run (fun i => i) (answer .refused none i.refusal)))
      ∧ (i.lastOffer ≠ some offer → (empty → req = .next refused)
        ∧ (¬empty → req = .next (run (fun i => toOffering 1 (left i)) (answer .offering none none)))))

/-- R38, R6, R37: the tests of a BIND in their order, and a taken BIND: the lane joins the ticket's lane set and its intake makes the batch
record. R39, R37, R40: an UNBIND of an active batch is answered OK and closes the batch, ahead of the UNBOUND of a release at once; with the
batch end pending it is answered OK; with no batch record it is refused WRONG_STATE, and outside the counting states NOT_COUNTING. -/
def Obligations.BindJoinsAndUnbindCloses : Prop :=
  (∀ (s : State) (n : Lane) (tag number : Nat) (b : Batch) (k : Fin 24) (t : Ticket), s.canTake (.lane n) →
    let i := s.lane n
    let counting := i.state ∈ [.counting, .sensed, .muted]
    let req := exec (.bind n tag number) s
    let refused (r : Result) : State := s.refusedWith (.lane n) 0x03 tag r
    let bound : Answer := ⟨.bound, .bound number⟩
    (¬counting → req = .next (refused .notCounting))
    ∧ (counting → i.batch = some b → (b.reason ≠ none ∨ b.ticket ≠ number) → req = .next (refused .busy))
    ∧ (counting → i.batch = some b → b.reason = none → b.ticket = number → req = .next (s.answered (.lane n) 0x03 tag bound))
    ∧ (counting → i.batch = none →
      ((∀ j u, s.ticketAt j = some u → s.ticketNumber j ≠ number) → req = .next (refused .noSuchTicket))
      ∧ (s.holdsTicket number k t →
        (t.state ≠ .opened → req = .next (refused .wrongState))
        ∧ (t.state = .opened → 2 ≤ t.lanes.card → req = .next (refused .ticketBusy))
        ∧ (t.state = .opened → t.lanes.card < 2 → req = .next (((s.putTicket k { t with lanes := t.lanes.add n }).modifyLane n
            (fun i => { i with batch := some ⟨number, i.resolved, s.clock.minute, 0, 0, false, none⟩ })).answered (.lane n) 0x03 tag bound)))))
  ∧ (∀ (s : State) (n : Lane) (tag : Nat) (b : Batch), s.canTake (.lane n) →
    let i := s.lane n
    let counting := i.state ∈ [.counting, .sensed, .muted]
    let req := exec (.unbind n tag) s
    (¬counting → req = .next (s.refusedWith (.lane n) 0x04 tag .notCounting))
    ∧ (counting → i.batch = none → req = .next (s.refusedWith (.lane n) 0x04 tag .wrongState))
    ∧ (counting → i.batch = some b → b.reason ≠ none → req = .next (s.answered (.lane n) 0x04 tag ⟨.ok, .empty⟩))
    ∧ (counting → i.batch = some b → b.reason = none →
      req = .next ((((s.modifyPort (.lane n) (Port.enqueue 0x04 tag)).reply (.lane n) ⟨.ok, .empty⟩).closeBatch n .unbind).heardLane (.lane n))))

/-- R40, R43, R44, R7: closing an active batch records the reason; with no entry of the batch waiting it is released at once: the ticket drops the
lane, with RECOUNT on a failed reconciliation, and is tested for pricing, UNBOUND is sent unless the reason is DOWN or the lane is DOWN, and the
record is dropped. A closed batch is not closed again. R40, R41: with an entry of the batch waiting the batch stays, its end pending, and
the batch-end mark is put on the last of its entries to arrive: the one in the landing slot, or else the last of them in the queue. Which
entries are the batch's is told by its ticket number (log 36). R33, R34, R41: the removal of a completed head: the landing entry joins the
tail, the entry leaves the verdict logic's hand, the flow marks are tested, an insertion by the landing entry first, and a marked entry
releases its batch. While the lane is DOWN no flow test is made (log 19). R43: the release of a marked entry sends no UNBOUND when that entry
has the lost-link mark; a release whose ticket does not list the lane, or whose number names no ticket, changes no ticket. R193: a FLOW or an
UNBOUND made while the unsolicited list holds 15 frames or more is lost and counted. R43, R26: the UNBOUND reports the ticket number, the reason, the
bound-at minute, the two counts and the outcome; that its bytes have no place for the bound-at minute is log 40. -/
def Obligations.BatchIsReleasedAtItsEnd : Prop :=
  (∀ (s : State) (n : Lane) (why : CloseReason) (b : Batch) (k : Fin 24) (t : Ticket) (lost : Bool) (e : Entry) (before after : List Entry),
    (s.lane n).batch = some b →
    let i := s.lane n
    let ofBatch (e : Entry) : Prop := e.ticket = some b.ticket
    let waits := (∃ e ∈ i.queue, ofBatch e) ∨ ∃ e ∈ i.landing, ofBatch e
    let tolerance := if b.mode = some .tally then 0 else s.settings.tolerance
    let fails := decide (b.frames + tolerance < b.gate ∨ b.gate + tolerance < b.frames ∨ b.gap = true ∨ why = .down ∨ why = .refused)
    let closed := s.modifyLane n (fun i => { i with batch := some { b with reason := some why } })
    let dropped (u : State) : State :=
      (u.putTicket k { t with lanes := t.lanes.drop n, flags := { t.flags with recount := t.flags.recount || fails } }).priceTest k
    let gone (u : State) : State := u.modifyLane n (fun i => { i with batch := none })
    let unbound (u : State) : State := u.sentOrLost n (.unbound b.ticket why b.boundAt b.gate b.frames fails)
    let marked (e : Entry) : Entry := { e with batchEnd := true }
    (b.reason ≠ none → s.closeBatch n why = s)
    ∧ (b.reason = none → i.landing = some e → ofBatch e →
      s.closeBatch n why = closed.modifyLane n (fun i => { i with landing := some (marked e) }))
    ∧ (b.reason = none → (∀ e ∈ i.landing, ¬ofBatch e) → i.queue = before ++ e :: after → ofBatch e → (∀ x ∈ after, ¬ofBatch x) →
      s.closeBatch n why = closed.modifyLane n (fun i => { i with queue := before ++ marked e :: after }))
    ∧ (b.reason = none → ¬waits → s.holdsTicket b.ticket k t → t.lanes.mem n = true →
      ((why = .down ∨ i.state = .down) → s.closeBatch n why = gone (dropped closed))
      ∧ (why ≠ .down → i.state ≠ .down → s.closeBatch n why = gone (unbound (dropped closed))))
    ∧ (b.reason = some why → s.holdsTicket b.ticket k t → t.lanes.mem n = true →
      ((why = .down ∨ lost = true ∨ i.state = .down) → s.releaseBatch n lost = gone (dropped s))
      ∧ (why ≠ .down → lost = false → i.state ≠ .down → s.releaseBatch n lost = gone (unbound (dropped s))))
    ∧ (b.reason = some why → (s.lookupTicket b.ticket = none ∨ (s.holdsTicket b.ticket k t ∧ t.lanes.mem n = false)) →
      ((why = .down ∨ lost = true ∨ i.state = .down) → s.releaseBatch n lost = gone s)
      ∧ (why ≠ .down → lost = false → i.state ≠ .down → s.releaseBatch n lost = gone (unbound s))))
  ∧ (∀ (s : State) (n : Lane) (e : Entry),
    let i := s.lane n
    let queue := i.queue.tail ++ i.landing.toList
    let moved := s.modifyLane n (fun i => { i with queue := queue, landing := none, inHand := false })
    let paced (u : State) : Prop := s.removeHead n e = if e.batchEnd then u.releaseBatch n e.lostLink else u
    let flow (slow : Bool) : State := (moved.sentOrLost n (.flow slow)).modifyLane n (fun i => { i with slow := slow })
    let slows := i.landing ≠ none ∧ i.slow = false ∧ s.settings.highMark ≤ queue.length
    let goes := i.slow = true ∧ queue.length + 4 ≤ s.settings.highMark
    ((i.state = .down ∨ (¬slows ∧ ¬goes)) → paced moved)
    ∧ (i.state ≠ .down → slows → paced (flow true))
    ∧ (i.state ≠ .down → goes → paced (flow false)))

/-- R29, R30: the sequence check by d = (q − L) mod 65,536: normal at 1 or with no last sequence, STALE at 0 and from 32,770 on, else taken with
a gap. R31: the MALFORMED detail is empty exactly when every field of the item is good for the lane's mode. -/
def Obligations.SequenceAndFieldsAreChecked : Prop :=
  (∀ q last : Nat, q < 65536 → last < 65536 →
    checkSequence none q = .normal
    ∧ (checkSequence (some last) q = .normal ↔ q = (last + 1) % 65536)
    ∧ (checkSequence (some last) q = .stale ↔ ∃ k, k ≤ 32766 ∧ (q + k) % 65536 = last)
    ∧ (checkSequence (some last) q = .gap ↔ ∃ k, 2 ≤ k ∧ k ≤ 32769 ∧ q = (last + k) % 65536))
  ∧ (∀ (mode : Option Mode) (it : Item), (malformedDetail mode it).any = false ↔
    (∀ c, it.cls = some c → c ≤ 15) ∧ it.grade ≤ 2 ∧ 1 ≤ it.quantity ∧ it.quantity ≤ 64 ∧ (it.serial ≠ 0 → it.quantity = 1)
      ∧ (it.cls = none → mode ≠ some .serial ∧ mode ≠ some .cls))

/-- R28 to R36: an ITEM in a counting state. The burst window count goes up; in MUTED the mute release timer restarts, and in COUNTING or SENSED a
count above the burst limit moves the lane to MUTED, its former state kept, and raises LANE_FAULT. A STALE item is refused at once and not
counted. Any other sets the last sequence, a gap and a frame of an active batch; in MUTED it is then refused LANE_MUTED, and otherwise its
entry joins the queue, FLOW SLOW being sent at the high mark, or waits in the landing slot of a full queue. An entry that stands there is
refused OVERRUN, with no VERDICT when it has the lost-link mark (log 18), and its batch-end mark passes to the tail of the queue when that is
of the batch (told by the ticket number, log 36), and releases the batch otherwise. R58: an ITEM in LISTEN enters SENSED with CLASS or TALLY
and goes on as above, or with no mode REFUSED, NOT_COUNTING. R59: the second item after sensing goes on when it shows the same mode; otherwise
an active batch is closed REFUSED, the lane is REFUSED with SENSE_FAULT and the item NOT_COUNTING. R37: in OFFERING, ACKING and REFUSED it is
refused NOT_COUNTING. Each restarts the silence timer (R62). R193: a VERDICT of a refusal at once and a FLOW are lost, and counted, while the
unsolicited list holds 15 frames or more. An entry that joins an empty queue is taken in hand by a TAKE_IN_HAND of its own (log 10). -/
def Obligations.ItemIsTakenAtTheLane : Prop :=
  ∀ (s : State) (n : Lane) (it : Item) (m : Mode), s.canTake (.lane n) →
    let i := s.lane n
    let heard (u : State) : State := u.modifyLane n (fun i => { i with silenceTimer := some (s.settings.silence * 1000) })
    let refuse (u : State) (sequence : Nat) (why : Cause) : State :=
      u.sentOrLost n (.verdict ⟨sequence, .refuse, some why, [why], 0xFFFF, false⟩)
    let fault (u : State) : State := { u with edges := { u.edges with laneFault := true } }
    let counted (gap : Bool) (i : Intake) : Intake :=
      { i with
        lastSequence := some it.sequence
        batch := i.batch.map (fun b =>
          if b.reason = none then { b with gap := b.gap || gap, frames := min 65535 (b.frames + 1) } else b) }
    let placed (u : State) : State :=
      let i := u.lane n
      let ticket : Option Nat := match i.batch with | some b => if b.reason = none then some b.ticket else none | none => none
      let entry : Entry := ⟨it, ticket, i.resolved, malformedDetail i.resolved it, false, false⟩
      if i.queue.length < 16 then
        let v := u.modifyLane n (fun i => { i with queue := i.queue ++ [entry] })
        if i.slow = false ∧ u.settings.highMark ≤ i.queue.length + 1 then
          (v.sentOrLost n (.flow true)).modifyLane n (fun i => { i with slow := true })
        else v
      else match i.landing with
        | none => u.modifyLane n (fun i => { i with landing := some entry })
        | some old =>
          let v := (if old.lostLink then u else refuse u old.item.sequence .overrun).modifyLane n (fun i => { i with landing := some entry })
          match old.batchEnd, i.batch, i.queue.getLast? with
          | true, some b, some e =>
            if e.ticket = some b.ticket then v.modifyLane n (fun i => { i with queue := i.queue.dropLast ++ [{ e with batchEnd := true }] })
            else v.releaseBatch n old.lostLink
          | _, _, _ => v
    let handled (u : State) : State :=
      let i := u.lane n
      let burst := min 255 (i.burst + 1)
      let v := if i.state = .muted then u.modifyLane n (fun i => { i with burst := burst, muteTimer := some 1000 })
        else if burst ≤ u.settings.burst then u.modifyLane n (fun i => { i with burst := burst })
        else fault (u.modifyLane n (fun i =>
          { i with burst := burst, former := some i.state, state := .muted, muteTimer := some 1000 }))
      match checkSequence i.lastSequence it.sequence with
      | .stale => refuse v it.sequence .stale
      | check =>
        let w := v.modifyLane n (counted (check = .gap))
        if (v.lane n).state = .muted then refuse w it.sequence .laneMuted else placed w
    let refused (u : State) (why : RefusalReason) : State := refuse (fault (u.modifyLane n (fun i =>
      { i with state := .refused, refusal := some why, resolved := none, origin := none, former := none, senseCheck := false })))
      it.sequence .notCounting
    let advertised := s.settings.modes.get n
    let shows (m : Mode) : Prop := (m = .cls ∧ it.cls ≠ none ∧ advertised.cls = true)
      ∨ (m = .tally ∧ ¬(it.cls ≠ none ∧ advertised.cls = true) ∧ advertised.tally = true)
    let req := exec (.item n it) s
    ((i.state ∈ [.counting, .muted] ∨ (i.state = .sensed ∧ i.senseCheck = false)) → req = .next (heard (handled s)))
    ∧ (i.state = .listen → shows m → req = .next (heard (handled (s.modifyLane n (fun i =>
        { i with state := .sensed, resolved := some m, origin := some .sensed, lastSequence := none, senseCheck := true })))))
    ∧ (i.state = .listen → (∀ m, ¬shows m) → req = .next (heard (refused s .noCommonMode)))
    ∧ (i.state = .sensed → i.senseCheck = true → i.resolved = some m → shows m →
      req = .next (heard (handled (s.modifyLane n (fun i => { i with senseCheck := false })))))
    ∧ (i.state = .sensed → i.senseCheck = true → (∀ m, i.resolved = some m → ¬shows m) →
      req = .next (heard (refused (s.closeBatch n .refused) .senseFault)))
    ∧ (i.state ∈ [.offering, .acking, .refused] → req = .next (heard (refuse s it.sequence .notCounting)))

/-- R45, R46, R48: a gate input that changes becomes the candidate, or drops it on its return to the recognised level; a candidate that has held
is recognised, and a change from clear to broken while the part runs counts to the active batch, or else as stray with STRAY_ITEMS raised. That
GATE_EDGE is the filter's expiry for either level, and that the level found while none is recognised becomes the candidate, is log 32. -/
def Obligations.GateEdgesAreFilteredAndCounted : Prop :=
  ∀ (s : State) (n : Lane) (broken : Bool) (c : Candidate) (b : Batch),
    let i := s.lane n
    let recognised (s : State) (level : Bool) : State := s.modifyLane n (fun i => { i with recognised := some level, candidate := none })
    (i.gateLevel = broken → exec (.gateInputChange n broken) s = .next s)
    ∧ (i.gateLevel ≠ broken → s.phase ≠ .off → i.recognised ≠ some broken → exec (.gateInputChange n broken) s =
        .next (s.modifyLane n (fun i => { i with gateLevel := broken, candidate := some ⟨broken, s.settings.gateFilter⟩ })))
    ∧ (i.gateLevel ≠ broken → s.phase ≠ .off → i.recognised = some broken → exec (.gateInputChange n broken) s =
        .next (s.modifyLane n (fun i => { i with gateLevel := broken, candidate := none })))
    ∧ (s.phase ≠ .off → i.candidate = some c →
      ((i.recognised ≠ some false ∨ c.broken = false ∨ s.phase ≠ .running) → exec (.gateEdge n) s = .next (recognised s c.broken))
      ∧ (i.recognised = some false → c.broken = true → s.phase = .running →
        (i.batch = some b → b.reason = none → exec (.gateEdge n) s =
          .next ((recognised s true).modifyLane n (fun i => { i with batch := some { b with gate := min 65535 (b.gate + 1) } })))
        ∧ ((i.batch = none ∨ (i.batch = some b ∧ b.reason ≠ none)) → exec (.gateEdge n) s =
          .next { (recognised s true).modifyLane n (fun i => { i with stray := min 65535 (i.stray + 1) }) with
            edges := { s.edges with strayItems := true } })))

/-! ## Verdicts -/

/-- R66, R67, R109: verdict logic takes the head in hand: an entry that needs the register waits at its lane's position; any other is judged and
removed at once. Nothing is taken in hand while an entry is in hand, from an empty queue, or while a VERDICT that will be sent has no place
(R193). A served verdict operation judges and removes the head of its lane. After a completed head the next is taken in hand by a TAKE_IN_HAND
of its own (log 10), and the 15 frames count the one being sent (log 26). -/
def Obligations.VerdictLogicTakesTheHead : Prop :=
  ∀ (s : State) (n : Lane) (e : Entry) (es : List Entry) (t : State) (v : VerdictFrame),
    let i := s.lane n
    let sent := e.lostLink = false ∧ i.state ≠ .down
    let needs := e.malformed.any = false ∧ e.ticket ≠ none ∧ e.item.serial ≠ 0 ∧ (e.item.grade = 0 ∨ e.item.grade = 1)
    let room := (s.port (.lane n)).unsolicited.length < 15
    let done : State := (if sent then t.modifyPort (.lane n) (fun p =>
        { p with unsolicited := p.unsolicited ++ [.verdict v], order := p.order ++ [.own] }) else t).removeHead n e
    (s.phase = .running → (i.queue = [] ∨ i.inHand = true) → exec (.takeInHand n) s = .next s)
    ∧ (s.phase = .running → i.queue = e :: es → sent → ¬room → exec (.takeInHand n) s = .next s)
    ∧ (s.phase = .running → i.queue = e :: es → i.inHand = false → (sent → room) →
      (needs → exec (.takeInHand n) s =
        .next { s.modifyLane n (fun i => { i with inHand := true }) with arbiter := s.arbiter.raiseVerdict n })
      ∧ (¬needs → s.judgeEntry n e = (t, v) → exec (.takeInHand n) s = .next done))
    ∧ (s.arbiter.serving = some (.verdict n) → i.queue = e :: es → s.judgeEntry n e = (t, v) →
      (s.port (.lane n)).unsolicited.length < 16 → exec .verdictOperation s = .next done.completeOperation)

/-- R69, R70, R79, R80: an entry that is MALFORMED or whose batch ticket is absent, names no ticket or names one not in OPEN or CLOSING is
refused, its also-set holding MALFORMED, NO_TICKET and WEAK_READ as they apply, the one of highest priority deciding, and nothing changes. R71 to
R75, R77: an entry with a live ticket and no cause found is ACCEPTED: it adds its quantity to its one counter, and as a register item writes its
PENDING entry; the watch table is consulted and nothing else changes. -/
def Obligations.EntryIsRefusedOrCounted : Prop :=
  (∀ (s : State) (n : Lane) (e : Entry),
    let live := ∃ number i t, e.ticket = some number ∧ s.holdsTicket number i t ∧ t.state ∈ [.opened, .closing]
    let bad := e.malformed.any = true
    ((¬live ∨ bad) → ∃ also cause rest, s.judgeEntry n e = (s, ⟨e.item.sequence, .refuse, some cause, also, 0xFFFF, false⟩)
      ∧ also = cause :: rest ∧ (bad → cause = .malformed) ∧ (¬bad → cause = .noTicket) ∧ also.Pairwise (fun a b => a.code < b.code)
      ∧ (Cause.malformed ∈ also ↔ bad) ∧ (Cause.noTicket ∈ also ↔ ¬live)
      ∧ (Cause.weakRead ∈ also ↔ e.item.weak = true) ∧ ∀ c ∈ also, c = .malformed ∨ c = .noTicket ∨ c = .weakRead))
  ∧ (∀ (s : State) (n : Lane) (e : Entry) (number : Nat) (i : Fin 24) (t : Ticket) (cls : Fin 16) (r : Register),
    e.ticket = some number → s.holdsTicket number i t → t.state ∈ [.opened, .closing] → e.malformed.any = false →
    ((e.item.cls = none ∧ cls = 0) ∨ e.item.cls = some cls.val) →
    let own : Ownership := if e.item.owner = 0 ∨ e.item.owner = s.settings.ownCode then .own else .foreign
    let grade : Grade := if e.item.grade = 0 then .full else if e.item.grade = 1 then .worn else .scrap
    let ce := (s.tariff.bank t.bank).classes.get cls
    let w : Watched := ⟨e.item.serial, e.item.owner, t.account, cls.val, ⟨number, n, e.item.sequence, e.item.serial, s.clock.minute⟩⟩
    let f := firedOn s.watch w
    let registerItem := e.item.serial ≠ 0 ∧ grade ≠ .scrap
    ce.isOpen = true → f.void = false → f.hold = false → ¬(own = .foreign ∧ grade ≠ .scrap ∧ ce.pool = 0) →
    (registerItem → s.register.find e.item.serial = none ∧ s.register.guardEnd = none) →
    (ce.serialRequired = true → e.item.serial ≠ 0 ∧ e.mode = some .serial) → e.item.weak = false →
    (e.mode = some .tally → e.item.quantity ≤ ce.tallyLimit) →
    let noted : Ticket := { t with flags := { t.flags with note := t.flags.note || f.note } }
    let counted (r : Register) : State :=
      { s.putTicket i (noted.addCount cls grade own e.item.quantity) with
        register := r
        watch := consulted s.watch w
        edges := { s.edges with watchHit := s.edges.watchHit || f.any } }
    let v : VerdictFrame := ⟨e.item.sequence, .accept, none, [], 0xFFFF, f.note⟩
    (¬registerItem → s.judgeEntry n e = (counted s.register, v))
    ∧ (registerItem → s.register.insert s.clock.minute ⟨e.item.serial, e.item.owner, cls, .pending number⟩ = some r →
        s.judgeEntry n e = (counted r, v)))

/-- R69 to R74: the causes found of an entry with a live ticket, in priority order, and the verdict of each: REFUSE for the causes of priority 1 to 6,
HOLD for every other. R72, R74, R75, R79: an entry that is not MALFORMED with a live ticket is judged by these causes, after the consultation
of the watch table with its effects on the watch entries, the ticket's NOTE flag and WATCH_HIT: the first cause found decides, a cause of
priority 1 to 6 refuses the entry and nothing more is changed, any other makes the HOLD of that cause, the also-set being all the causes found.
With no cause found, a register item that the full register cannot enter is held REGISTER_FULL. -/
def Obligations.CausesAreFoundInPriority : Prop :=
  (∀ (ce : ClassEntry) (own : Ownership) (mode : Option Mode) (it : Item) (f : Fired) (number : Nat) (found : Option KegEntry) (cold : Bool)
    (c : Cause),
    let causes := foundCauses ce own mode it f number found cold
    let registerItem := it.serial ≠ 0 ∧ (it.grade = 0 ∨ it.grade = 1)
    (c ∈ causes ↔ match c with
      | .classClosed => ce.isOpen = false
      | .watchVoid => f.void = true
      | .doubleRead => ∃ k, found = some k ∧ k.state = .pending number
      | .foreignRefused => own = .foreign ∧ (it.grade = 0 ∨ it.grade = 1) ∧ ce.pool = 0
      | .duplicate => ∃ k, found = some k ∧ k.state ≠ .pending number
      | .watchHold => f.hold = true
      | .registerCold => registerItem ∧ cold = true
      | .noSerial => ce.serialRequired = true ∧ (it.serial = 0 ∨ mode ≠ some .serial)
      | .weakRead => it.weak = true
      | .tallyLimit => mode = some .tally ∧ ce.tallyLimit < it.quantity
      | _ => False)
    ∧ causes.Pairwise (fun a b => a.code < b.code)
    ∧ (c ∈ causes → c.verdict = if c.code ≤ 6 then .refuse else .hold))
  ∧ (∀ (s : State) (n : Lane) (e : Entry) (number : Nat) (i : Fin 24) (t : Ticket) (cls : Fin 16) (first : Cause) (rest : List Cause),
    e.ticket = some number → s.holdsTicket number i t → t.state ∈ [.opened, .closing] → e.malformed.any = false →
    ((e.item.cls = none ∧ cls = 0) ∨ e.item.cls = some cls.val) →
    let own : Ownership := if e.item.owner = 0 ∨ e.item.owner = s.settings.ownCode then .own else .foreign
    let grade : Grade := if e.item.grade = 0 then .full else if e.item.grade = 1 then .worn else .scrap
    let registerItem := e.item.serial ≠ 0 ∧ grade ≠ .scrap
    let found := if registerItem then s.register.find e.item.serial else none
    let w : Watched := ⟨e.item.serial, e.item.owner, t.account, cls.val, ⟨number, n, e.item.sequence, e.item.serial, s.clock.minute⟩⟩
    let f := firedOn s.watch w
    let causes := foundCauses ((s.tariff.bank t.bank).classes.get cls) own e.mode e.item f number found s.register.guardEnd.isSome
    let c : Case := ⟨n, e, i, number, cls, grade, own, found, f.note⟩
    let watched : State :=
      { s.putTicket i { t with flags := { t.flags with note := t.flags.note || f.note } } with
        watch := consulted s.watch w
        edges := { s.edges with watchHit := s.edges.watchHit || f.any } }
    (causes = first :: rest → first.code ≤ 6 →
      s.judgeEntry n e = (watched, ⟨e.item.sequence, .refuse, some first, causes, 0xFFFF, f.note⟩))
    ∧ (causes = first :: rest → 6 < first.code → s.judgeEntry n e = watched.judgeHold c first causes)
    ∧ (causes = [] → registerItem → s.register.insert s.clock.minute ⟨e.item.serial, e.item.owner, cls, .pending number⟩ = none →
      s.judgeEntry n e = watched.judgeHold c .registerFull [.registerFull]))

/-- R76, R78, R81, R82: a HOLD claims the lowest-numbered free slot, raises its generation and makes the record there, and its ticket's holds
outstanding go up by one; with no free slot the item is refused HOLD_POOL_FULL, that cause joining the also-set, and nothing more changes.
R75, R78: once a record is claimed, the HOLD of WATCH_HOLD on a register item that has no entry inserts its PENDING entry, entry made being yes;
where the full register cannot insert it, REGISTER_FULL joins the also-set and entry made is no. Any other HOLD makes no entry. -/
def Obligations.HoldClaimsARecord : Prop :=
  ∀ (s : State) (c : Case) (cause : Cause) (also : List Cause) (j : Fin 64) (t : Ticket) (r : Register), s.ticketAt c.slot = some t →
    let it := c.entry.item
    let generation := ((s.holds.get j).generation + 1) % 256
    let number := generation * 256 + j.val
    let record (also : List Cause) (entryMade : Bool) : Hold :=
      { ticket := c.number, lane := c.lane, sequence := it.sequence, cls := it.cls, judged := c.cls, grade := c.grade
        quantity := it.quantity, owner := it.owner, ownership := c.ownership, serial := it.serial, cause := cause, also := also
        entryMade := entryMade, held := s.clock.minute, deadline := (s.clock.minute + s.settings.holdTime) % 1048576 }
    let held (also : List Cause) (entryMade : Bool) (r : Register) : State × VerdictFrame :=
      ({ s.putTicket c.slot { t with holds := t.holds + 1 } with
          register := r
          holds := s.holds.set j ⟨generation, some (record also entryMade)⟩
          holdOrder := s.holdOrder ++ [number] },
        ⟨it.sequence, .hold, some cause, also, number, c.note⟩)
    let enters := cause = .watchHold ∧ it.serial ≠ 0 ∧ (it.grade = 0 ∨ it.grade = 1) ∧ c.found = none
    let inserted := s.register.insert s.clock.minute ⟨it.serial, it.owner, c.cls, .pending c.number⟩
    ((s.holds.get j).hold = none → (∀ k, k < j → (s.holds.get k).hold ≠ none) →
      (¬enters → s.judgeHold c cause also = held also false s.register)
      ∧ (enters → inserted = some r → s.judgeHold c cause also = held also true r)
      ∧ (enters → inserted = none → s.judgeHold c cause also = held (also ++ [.registerFull]) false s.register))
    ∧ ((∀ k, (s.holds.get k).hold ≠ none) → s.judgeHold c cause also =
        (s, ⟨it.sequence, .refuse, some .holdPoolFull, also ++ [.holdPoolFull], 0xFFFF, c.note⟩))

/-! ## Start-up and the supply -/

/-- R210, R212, R206: a power-on whose retention check fails is cold: every part of the retained domain has its cold value, the settings are the
image's or the defaults, the mark is written and the latch cleared as the last steps of the clearing, and the part is in its silent period. That the
clearing is one step with the rest is log 28. R204: supply that falls and rises again during a cold start cuts it short: the mark is unwritten and
the latch uncleared, so that the next start is cold again, unless the last steps of the clearing were made; which is free (log 28). R204, R210, R211, R25, R175: a power-on whose retention check passes is warm: each ticket that lists
lanes loses them and has RECOUNT set, each PAYING ticket enters DOUBT and a report whose walk was not served becomes the claim; the unpowered
minutes return to 0; the rest of the retained domain stands, and everything else starts. R26, R50, R187, R205, R45: the start values of a lane
intake, whose gate filter has the level it finds as its candidate (log 32) for the filter time, and of a link port, and the default settings. The
entry in hand, the order of ready frames (log 26) and the next segment start at none. -/
def Obligations.PowerOnStartsColdOrWarm : Prop :=
  (∀ s : State, s.saving = none → (∀ latch, s.phase ≠ .starting (.cold latch)) →
    (s.retentionMark = false ∨ s.batteryFall = true ∨ 262144 ≤ s.clock.unpowered) →
    let live := if s.image.valid then s.image.values else Settings.default
    exec .powerOnReset s = .next
      { s with
        phase := .starting (.cold s.batteryFall)
        tickets := Table.fill 24 ⟨0, none⟩
        holds := Table.fill 64 ⟨0, none⟩
        holdOrder := []
        register := ⟨[], 0, 0, some live.lockout⟩
        watch := Table.fill 8 ⟨⟨false, .serial, 0, 0, .note, false, false, false⟩, false, 0, none, false⟩
        tariff :=
          { bankA := ⟨Table.fill 16 ⟨false, 0, 100, 100, false, 64⟩, 0⟩, bankB := ⟨Table.fill 16 ⟨false, 0, 100, 100, false, 64⟩, 0⟩
            active := .a, refA := 0, refB := 0, armed := none }
        till := ⟨0, 0⟩
        clock := ⟨0, 0, 0⟩
        edges :=
          { retentionLost := true, settingsDefault := !s.image.valid, watchHit := false, laneFault := false, checkError := false
            strayItems := false, changeoverDone := false, saveFailed := false }
        retentionMark := true
        batteryFall := false
        settings := live
        lanes := s.lanes.map (fun i => Intake.start i.gateLevel live.gateFilter)
        ports := ⟨live.speed.lane.map Port.start, Port.start live.speed.k, Port.start live.speed.f⟩
        arbiter := ⟨none, LaneSet.empty, [], [], .sweep⟩
        payTimer := none
        setPending := none })
  ∧ (∀ (s : State) (latch : Bool), s.saving = none → s.phase = .starting (.cold latch) →
    exec .powerOnReset s = exec .powerOnReset
      { s with
        phase := .off
        retentionMark := s.retentionMark && Config.clearingDone s.freeIndex
        batteryFall := if Config.clearingDone s.freeIndex then s.batteryFall else latch
        freeIndex := s.freeIndex + 1 })
  ∧ (∀ s : State, s.saving = none → (∀ latch, s.phase ≠ .starting (.cold latch)) →
    s.retentionMark = true → s.batteryFall = false → s.clock.unpowered < 262144 →
    let live := if s.image.valid then s.image.values else Settings.default
    let claimed (o : PayoutRecord) : PayoutRecord := if o.report = none then o else ⟨o.reservation, none, o.report⟩
    let fixed (t : Ticket) : Ticket :=
      { t with
        state := if t.state = .paying then .doubt else t.state
        payout := if t.state = .paying then t.payout.map claimed else t.payout
        lanes := LaneSet.empty
        flags := { t.flags with recount := t.flags.recount || decide (t.lanes ≠ LaneSet.empty) } }
    exec .powerOnReset s = .next
      { s with
        phase := .starting .warm
        tickets := s.tickets.map (fun sl => { sl with ticket := sl.ticket.map fixed })
        clock := { s.clock with unpowered := 0 }
        edges := { s.edges with settingsDefault := s.edges.settingsDefault || !s.image.valid }
        settings := live
        lanes := s.lanes.map (fun i => Intake.start i.gateLevel live.gateFilter)
        ports := ⟨live.speed.lane.map Port.start, Port.start live.speed.k, Port.start live.speed.f⟩
        arbiter := ⟨none, LaneSet.empty, [], [], .sweep⟩
        payTimer := none
        setPending := none })
  ∧ (∀ (level : Bool) (filter speed : Nat),
    Intake.start level filter =
      { state := .down, resolved := none, former := none, queue := [], landing := none, batch := none, lastSequence := none, burst := 0
        muteTimer := none, slow := false, gateLevel := level, recognised := none, candidate := some ⟨level, filter⟩, stray := 0
        lastOffer := none, offerCount := 0, origin := none, senseCheck := false, refusal := none, breakTimer := none, silenceTimer := none
        inHand := false }
    ∧ Port.start speed =
      { speed := speed, assembly := .hunt, buffer := [], gap := none, error := false, reason := .none, outstanding := [], overflow := 0
        unsolicited := [], lost := 0, up := false, silence := none, order := [], segment := 0 }
    ∧ Settings.default =
      { speed := ⟨⟨57600, 57600, 57600⟩, 57600, 57600⟩
        modes := ⟨⟨true, true, true⟩, ⟨true, true, true⟩, ⟨true, true, true⟩⟩
        silence := 5, burst := 40, gateFilter := 10, tolerance := 1, highMark := 12, ownCode := 1, ticketLife := 240, holdTime := 120
        lockout := 4320, retention := 129600, payTimeout := 45, cashStep := 10, cashCap := 50000, tillLow := 10000 })

/-- R203, R209, R210, R213: a recognised RESET and a loss of supply drop what is not retained and keep the retained domain, the intakes and the
ports taking the start values written out at PowerOnStartsColdOrWarm; the release begins the start, without the retention check unless it was a
power-on's; the end of start-up makes the deadline tests, the reached test and the sweep, and opens the links with every break timer at 2 s; the
order of the tests is log 38. The start of a unit reset is warm whatever the mark, the latch and the unpowered minutes are, and leaves them as
they stand. R204: a cold start that a RESET or a loss of supply cuts short leaves the mark unwritten and the latch uncleared, so that the next start is
cold again, unless the last steps of the clearing, which write the one and clear the other (R212), were made; which is free (log 28). That the drop
happens at once is log 28, and which start a RESET during a start repeats log 29. R201, R204: a fall of the cell below its working voltage
sets the battery-fall latch and loses the mark while supply is off and leaves both with supply applied; a level change with supply applied shows
in the level alone (log 24). A cell already low when supply is lost leaves both as they are (log 41). -/
def Obligations.ResetAndSupplyKeepTheDomain : Prop :=
  (∀ (s : State) (latch : Bool), s.saving = none →
    let dropped (p : Phase) : State :=
      { s with
        phase := p
        lanes := s.lanes.map (fun i => Intake.start i.gateLevel s.settings.gateFilter)
        ports := s.ports.map (fun p => Port.start p.speed)
        arbiter := ⟨none, LaneSet.empty, [], [], .sweep⟩
        payTimer := none
        setPending := none }
    let live := if s.image.valid then s.image.values else Settings.default
    let claimed (o : PayoutRecord) : PayoutRecord := if o.report = none then o else ⟨o.reservation, none, o.report⟩
    let fixed (t : Ticket) : Ticket :=
      { t with
        state := if t.state = .paying then .doubt else t.state
        payout := if t.state = .paying then t.payout.map claimed else t.payout
        lanes := LaneSet.empty
        flags := { t.flags with recount := t.flags.recount || decide (t.lanes ≠ LaneSet.empty) } }
    let warm : State :=
      { s with
        phase := .starting .unit
        tickets := s.tickets.map (fun sl => { sl with ticket := sl.ticket.map fixed })
        edges := { s.edges with settingsDefault := s.edges.settingsDefault || !s.image.valid }
        settings := live
        lanes := s.lanes.map (fun i => Intake.start i.gateLevel live.gateFilter)
        ports := ⟨live.speed.lane.map Port.start, Port.start live.speed.k, Port.start live.speed.f⟩
        arbiter := ⟨none, LaneSet.empty, [], [], .sweep⟩
        payTimer := none
        setPending := none }
    let cut (u : State) : State :=
      { u with
        retentionMark := s.retentionMark && Config.clearingDone s.freeIndex
        batteryFall := if Config.clearingDone s.freeIndex then s.batteryFall else latch
        freeIndex := s.freeIndex + 1 }
    (s.phase = .running → exec .resetInput s = .next (dropped (.held false)))
    ∧ (s.phase = .starting .unit → exec .resetInput s = .next (dropped (.held false)))
    ∧ (s.phase = .starting .warm → exec .resetInput s = .next (dropped (.held true)))
    ∧ (s.phase = .starting (.cold latch) →
      exec .resetInput s = .next (cut (dropped (.held true))) ∧ exec .supplyLoss s = .next (cut (dropped .off)))
    ∧ (s.phase ≠ .off → (∀ latch, s.phase ≠ .starting (.cold latch)) → exec .supplyLoss s = .next (dropped .off))
    ∧ (s.phase = .held true → exec .resetInputRelease s = exec .powerOnReset s)
    ∧ s.startAtReset = warm ∧ (s.phase = .held false → exec .resetInputRelease s = .next warm)
    ∧ (∀ kind, s.phase = .starting kind → ∃ u, u = s.deadlineTests.expireHolds.reachedTest.raiseExpiriesAndSweep ∧
        u.retentionMark = s.retentionMark ∧ u.batteryFall = s.batteryFall ∧
        exec .endOfStartUp s = .next { u with phase := .running, lanes := u.lanes.map (fun i => { i with breakTimer := some 2000 }) }))
  ∧ (∀ (s : State) (low : Bool),
    let lost : State := { s with batteryLow := true, batteryFall := true, retentionMark := false }
    (s.phase = .off → exec .batteryFall s = .next lost)
    ∧ (s.phase ≠ .off → exec .batteryFall s = .next { s with batteryLow := true })
    ∧ (s.phase ≠ .off → exec (.batteryLevelChange low) s = .next { s with batteryLow := low })
    ∧ (s.phase = .off → exec (.batteryLevelChange true) s = .next lost)
    ∧ (s.phase = .off → exec (.batteryLevelChange false) s = .next { s with batteryLow := false }))

/-! ## The laws of the device -/

/-- The state right after reset obeys every law (R6, R9, R81, R106, R107, R130, R155, R157, R176, R205 and the limits of the queues). -/
def Obligations.ResetIsLawful : Prop :=
  State.reset.lawful

/-- R106: every step keeps the register's law: serials rising and none 0, the entry count the number of entries, at most 4,096. -/
def Obligations.EveryStepKeepsTheRegister : Prop :=
  KeptByEveryStep (fun s => s.register.ok)

/-- R157: every step keeps the till's law: the reserved amount is the sum of the reservations of the tickets in PAYING and DOUBT and never
exceeds the balance, and at most one ticket is PAYING. -/
def Obligations.EveryStepKeepsTheTill : Prop :=
  KeptByEveryStep State.tillOk

/-- R130, R5: every step keeps each bank's reference count equal to the number of tickets in OPEN or CLOSING whose bank field names it. -/
def Obligations.EveryStepKeepsTheBankReferences : Prop :=
  KeptByEveryStep State.refsOk

/-- R6: every step keeps the law of the lane sets. -/
def Obligations.EveryStepKeepsTheLaneSets : Prop :=
  KeptByEveryStep State.lanesOk

/-- R9, R81, R107: every step keeps the law of the holds and of the PENDING entries. -/
def Obligations.EveryStepKeepsHoldsAndPendingEntries : Prop :=
  KeptByEveryStep (fun s => s.holdsOk ∧ s.pendingOk)

/-- R23, R155, R173: every step keeps every ticket's optional records as its state has them and its money in order. -/
def Obligations.EveryStepKeepsTheMoney : Prop :=
  KeptByEveryStep State.moneyOk

/-- R109, R110, R111, R124, R66: every step keeps the law of the register arbiter. -/
def Obligations.EveryStepKeepsTheArbiter : Prop :=
  KeptByEveryStep State.arbiterOk

/-- R27, R110, R187, R188, R205, R176: every step keeps the queues, lists and assembly buffers within their limits, and every setting and the
clock in range. -/
def Obligations.EveryStepKeepsTheLimitsSettingsAndClock : Prop :=
  KeptByEveryStep State.boundsOk ∧ KeptByEveryStep (fun s => s.settingsOk ∧ s.clockOk)
end

