-- ==== Sys2Proof/Laws/Coding.lean ====
section
/-! SUPPORT. The coding of numbers and fields in bytes: what is written is read back, and how long it is (R215). -/

namespace Sys2Proof

@[simp] theorem length_leBytes : ∀ (k n : Nat), (leBytes k n).length = k
  | 0, _ => rfl
  | k + 1, n => by simp [leBytes, length_leBytes k]

theorem leNat_leBytes : ∀ (k n : Nat), leNat (leBytes k n) = n % 256 ^ k
  | 0, n => by simp [leBytes, leNat, Nat.mod_one]
  | k + 1, n => by
    have h : n % 256 ^ (k + 1) = n % 256 + 256 * (n / 256 % 256 ^ k) := by rw [Nat.pow_succ, Nat.mul_comm (256 ^ k) 256, Nat.mod_mul]
    rw [h, leBytes, leNat, leNat_leBytes k, BitVec.toNat_ofNat]

/-- A number that fits its bytes is read back as it was written. -/
theorem leNat_leBytes_of_fits {k n : Nat} (h : fits k n = true) : leNat (leBytes k n) = n := by
  rw [leNat_leBytes, Nat.mod_eq_of_lt]
  simpa [fits] using h

@[simp] theorem joinFields_nil : joinFields [] = [] := rfl

@[simp] theorem joinFields_cons (f : Nat × Nat) (fs : List (Nat × Nat)) : joinFields (f :: fs) = leBytes f.1 f.2 ++ joinFields fs := rfl

@[simp] theorem length_joinFields : ∀ fs : List (Nat × Nat), (joinFields fs).length = (fs.map Prod.fst).sum
  | [] => rfl
  | f :: fs => by simp [length_joinFields fs]

/-- Fields that fit their widths are read back as they were written. -/
theorem splitFields_joinFields : ∀ fs : List (Nat × Nat), (∀ f ∈ fs, fits f.1 f.2 = true) →
    splitFields (fs.map Prod.fst) (joinFields fs) = some (fs.map Prod.snd)
  | [], _ => rfl
  | f :: fs, h => by
    have ih := splitFields_joinFields fs (fun g hg => h g (List.mem_cons_of_mem _ hg))
    have hf := h f List.mem_cons_self
    simp [splitFields, List.take_left', List.drop_left', ih, leNat_leBytes_of_fits hf]

theorem joinFields_append (fs gs : List (Nat × Nat)) : joinFields (fs ++ gs) = joinFields fs ++ joinFields gs := by
  simp [joinFields]

/-- One bit of the CRC of a register with a byte's bits joined at its top: the byte's next bit goes in, and the bits below it move up. -/
theorem crcBit_xor_shifted (b : Byte) (c : BitVec 16) (k : Nat) (hk : k < 8) :
    crcBit (c ^^^ (b.zeroExtend 16 <<< (8 + k))) =
      ((c <<< 1) ^^^ (if c.msb = b.getLsbD (7 - k) then 0 else 0x1021)) ^^^ (b.zeroExtend 16 <<< (8 + (k + 1))) := by
  unfold crcBit
  have hm : (b.zeroExtend 16 <<< (8 + k)).msb = b.getLsbD (7 - k) := by
    rw [BitVec.msb_eq_getLsbD_last, BitVec.getLsbD_shiftLeft]
    simp
    have : 15 - (8 + k) = 7 - k := by omega
    rw [this]
    have h1 : ¬ 15 < 8 + k := by omega
    have h2 : 7 - k < 16 := by omega
    simp [h1, h2]
  rw [BitVec.msb_xor, hm, BitVec.shiftLeft_xor_distrib, ← BitVec.shiftLeft_add, show 8 + k + 1 = 8 + (k + 1) by omega]
  have swap : ∀ x y z : BitVec 16, x ^^^ y ^^^ z = x ^^^ z ^^^ y := by
    intro x y z; rw [BitVec.xor_assoc, BitVec.xor_comm y z, ← BitVec.xor_assoc]
  cases c.msb <;> cases b.getLsbD (7 - k) <;> simp
  · rw [swap]
  · rw [swap]

end Sys2Proof
end

