-- ==== Sys2Proof/Laws/State.lean ====
section
/-! SUPPORT. What each named update of the state leaves as it is, one lemma per field, and what it makes of the field it changes. -/

namespace Sys2Proof.Machine

open Sys2Proof

/-! ### `State.modifyLane` -/

@[simp] theorem State.modifyLane_phase (s : State) (n : Lane) (f : Intake → Intake) : (s.modifyLane n f).phase = s.phase := rfl
@[simp] theorem State.modifyLane_key (s : State) (n : Lane) (f : Intake → Intake) : (s.modifyLane n f).key = s.key := rfl
@[simp] theorem State.modifyLane_batteryLow (s : State) (n : Lane) (f : Intake → Intake) : (s.modifyLane n f).batteryLow = s.batteryLow := rfl
@[simp] theorem State.modifyLane_tickets (s : State) (n : Lane) (f : Intake → Intake) : (s.modifyLane n f).tickets = s.tickets := rfl
@[simp] theorem State.modifyLane_holds (s : State) (n : Lane) (f : Intake → Intake) : (s.modifyLane n f).holds = s.holds := rfl
@[simp] theorem State.modifyLane_holdOrder (s : State) (n : Lane) (f : Intake → Intake) : (s.modifyLane n f).holdOrder = s.holdOrder := rfl
@[simp] theorem State.modifyLane_register (s : State) (n : Lane) (f : Intake → Intake) : (s.modifyLane n f).register = s.register := rfl
@[simp] theorem State.modifyLane_watch (s : State) (n : Lane) (f : Intake → Intake) : (s.modifyLane n f).watch = s.watch := rfl
@[simp] theorem State.modifyLane_tariff (s : State) (n : Lane) (f : Intake → Intake) : (s.modifyLane n f).tariff = s.tariff := rfl
@[simp] theorem State.modifyLane_till (s : State) (n : Lane) (f : Intake → Intake) : (s.modifyLane n f).till = s.till := rfl
@[simp] theorem State.modifyLane_clock (s : State) (n : Lane) (f : Intake → Intake) : (s.modifyLane n f).clock = s.clock := rfl
@[simp] theorem State.modifyLane_edges (s : State) (n : Lane) (f : Intake → Intake) : (s.modifyLane n f).edges = s.edges := rfl
@[simp] theorem State.modifyLane_retentionMark (s : State) (n : Lane) (f : Intake → Intake) : (s.modifyLane n f).retentionMark = s.retentionMark := rfl
@[simp] theorem State.modifyLane_batteryFall (s : State) (n : Lane) (f : Intake → Intake) : (s.modifyLane n f).batteryFall = s.batteryFall := rfl
@[simp] theorem State.modifyLane_settings (s : State) (n : Lane) (f : Intake → Intake) : (s.modifyLane n f).settings = s.settings := rfl
@[simp] theorem State.modifyLane_image (s : State) (n : Lane) (f : Intake → Intake) : (s.modifyLane n f).image = s.image := rfl
@[simp] theorem State.modifyLane_saving (s : State) (n : Lane) (f : Intake → Intake) : (s.modifyLane n f).saving = s.saving := rfl
@[simp] theorem State.modifyLane_ports (s : State) (n : Lane) (f : Intake → Intake) : (s.modifyLane n f).ports = s.ports := rfl
@[simp] theorem State.modifyLane_arbiter (s : State) (n : Lane) (f : Intake → Intake) : (s.modifyLane n f).arbiter = s.arbiter := rfl
@[simp] theorem State.modifyLane_payTimer (s : State) (n : Lane) (f : Intake → Intake) : (s.modifyLane n f).payTimer = s.payTimer := rfl
@[simp] theorem State.modifyLane_setPending (s : State) (n : Lane) (f : Intake → Intake) : (s.modifyLane n f).setPending = s.setPending := rfl
@[simp] theorem State.modifyLane_freeIndex (s : State) (n : Lane) (f : Intake → Intake) : (s.modifyLane n f).freeIndex = s.freeIndex := rfl
@[simp] theorem State.modifyLane_pending (s : State) (n : Lane) (f : Intake → Intake) : (s.modifyLane n f).pending = s.pending := rfl

/-! ### `State.modifyPort` -/

@[simp] theorem State.modifyPort_phase (s : State) (l : Link) (f : Port → Port) : (s.modifyPort l f).phase = s.phase := rfl
@[simp] theorem State.modifyPort_key (s : State) (l : Link) (f : Port → Port) : (s.modifyPort l f).key = s.key := rfl
@[simp] theorem State.modifyPort_batteryLow (s : State) (l : Link) (f : Port → Port) : (s.modifyPort l f).batteryLow = s.batteryLow := rfl
@[simp] theorem State.modifyPort_tickets (s : State) (l : Link) (f : Port → Port) : (s.modifyPort l f).tickets = s.tickets := rfl
@[simp] theorem State.modifyPort_holds (s : State) (l : Link) (f : Port → Port) : (s.modifyPort l f).holds = s.holds := rfl
@[simp] theorem State.modifyPort_holdOrder (s : State) (l : Link) (f : Port → Port) : (s.modifyPort l f).holdOrder = s.holdOrder := rfl
@[simp] theorem State.modifyPort_register (s : State) (l : Link) (f : Port → Port) : (s.modifyPort l f).register = s.register := rfl
@[simp] theorem State.modifyPort_watch (s : State) (l : Link) (f : Port → Port) : (s.modifyPort l f).watch = s.watch := rfl
@[simp] theorem State.modifyPort_tariff (s : State) (l : Link) (f : Port → Port) : (s.modifyPort l f).tariff = s.tariff := rfl
@[simp] theorem State.modifyPort_till (s : State) (l : Link) (f : Port → Port) : (s.modifyPort l f).till = s.till := rfl
@[simp] theorem State.modifyPort_clock (s : State) (l : Link) (f : Port → Port) : (s.modifyPort l f).clock = s.clock := rfl
@[simp] theorem State.modifyPort_edges (s : State) (l : Link) (f : Port → Port) : (s.modifyPort l f).edges = s.edges := rfl
@[simp] theorem State.modifyPort_retentionMark (s : State) (l : Link) (f : Port → Port) : (s.modifyPort l f).retentionMark = s.retentionMark := rfl
@[simp] theorem State.modifyPort_batteryFall (s : State) (l : Link) (f : Port → Port) : (s.modifyPort l f).batteryFall = s.batteryFall := rfl
@[simp] theorem State.modifyPort_settings (s : State) (l : Link) (f : Port → Port) : (s.modifyPort l f).settings = s.settings := rfl
@[simp] theorem State.modifyPort_image (s : State) (l : Link) (f : Port → Port) : (s.modifyPort l f).image = s.image := rfl
@[simp] theorem State.modifyPort_saving (s : State) (l : Link) (f : Port → Port) : (s.modifyPort l f).saving = s.saving := rfl
@[simp] theorem State.modifyPort_lanes (s : State) (l : Link) (f : Port → Port) : (s.modifyPort l f).lanes = s.lanes := rfl
@[simp] theorem State.modifyPort_arbiter (s : State) (l : Link) (f : Port → Port) : (s.modifyPort l f).arbiter = s.arbiter := rfl
@[simp] theorem State.modifyPort_payTimer (s : State) (l : Link) (f : Port → Port) : (s.modifyPort l f).payTimer = s.payTimer := rfl
@[simp] theorem State.modifyPort_setPending (s : State) (l : Link) (f : Port → Port) : (s.modifyPort l f).setPending = s.setPending := rfl
@[simp] theorem State.modifyPort_freeIndex (s : State) (l : Link) (f : Port → Port) : (s.modifyPort l f).freeIndex = s.freeIndex := rfl
@[simp] theorem State.modifyPort_pending (s : State) (l : Link) (f : Port → Port) : (s.modifyPort l f).pending = s.pending := rfl

/-! ### `State.modifyArbiter` -/

@[simp] theorem State.modifyArbiter_phase (s : State) (f : Arbiter → Arbiter) : (s.modifyArbiter f).phase = s.phase := rfl
@[simp] theorem State.modifyArbiter_key (s : State) (f : Arbiter → Arbiter) : (s.modifyArbiter f).key = s.key := rfl
@[simp] theorem State.modifyArbiter_batteryLow (s : State) (f : Arbiter → Arbiter) : (s.modifyArbiter f).batteryLow = s.batteryLow := rfl
@[simp] theorem State.modifyArbiter_tickets (s : State) (f : Arbiter → Arbiter) : (s.modifyArbiter f).tickets = s.tickets := rfl
@[simp] theorem State.modifyArbiter_holds (s : State) (f : Arbiter → Arbiter) : (s.modifyArbiter f).holds = s.holds := rfl
@[simp] theorem State.modifyArbiter_holdOrder (s : State) (f : Arbiter → Arbiter) : (s.modifyArbiter f).holdOrder = s.holdOrder := rfl
@[simp] theorem State.modifyArbiter_register (s : State) (f : Arbiter → Arbiter) : (s.modifyArbiter f).register = s.register := rfl
@[simp] theorem State.modifyArbiter_watch (s : State) (f : Arbiter → Arbiter) : (s.modifyArbiter f).watch = s.watch := rfl
@[simp] theorem State.modifyArbiter_tariff (s : State) (f : Arbiter → Arbiter) : (s.modifyArbiter f).tariff = s.tariff := rfl
@[simp] theorem State.modifyArbiter_till (s : State) (f : Arbiter → Arbiter) : (s.modifyArbiter f).till = s.till := rfl
@[simp] theorem State.modifyArbiter_clock (s : State) (f : Arbiter → Arbiter) : (s.modifyArbiter f).clock = s.clock := rfl
@[simp] theorem State.modifyArbiter_edges (s : State) (f : Arbiter → Arbiter) : (s.modifyArbiter f).edges = s.edges := rfl
@[simp] theorem State.modifyArbiter_retentionMark (s : State) (f : Arbiter → Arbiter) : (s.modifyArbiter f).retentionMark = s.retentionMark := rfl
@[simp] theorem State.modifyArbiter_batteryFall (s : State) (f : Arbiter → Arbiter) : (s.modifyArbiter f).batteryFall = s.batteryFall := rfl
@[simp] theorem State.modifyArbiter_settings (s : State) (f : Arbiter → Arbiter) : (s.modifyArbiter f).settings = s.settings := rfl
@[simp] theorem State.modifyArbiter_image (s : State) (f : Arbiter → Arbiter) : (s.modifyArbiter f).image = s.image := rfl
@[simp] theorem State.modifyArbiter_saving (s : State) (f : Arbiter → Arbiter) : (s.modifyArbiter f).saving = s.saving := rfl
@[simp] theorem State.modifyArbiter_lanes (s : State) (f : Arbiter → Arbiter) : (s.modifyArbiter f).lanes = s.lanes := rfl
@[simp] theorem State.modifyArbiter_ports (s : State) (f : Arbiter → Arbiter) : (s.modifyArbiter f).ports = s.ports := rfl
@[simp] theorem State.modifyArbiter_payTimer (s : State) (f : Arbiter → Arbiter) : (s.modifyArbiter f).payTimer = s.payTimer := rfl
@[simp] theorem State.modifyArbiter_setPending (s : State) (f : Arbiter → Arbiter) : (s.modifyArbiter f).setPending = s.setPending := rfl
@[simp] theorem State.modifyArbiter_freeIndex (s : State) (f : Arbiter → Arbiter) : (s.modifyArbiter f).freeIndex = s.freeIndex := rfl
@[simp] theorem State.modifyArbiter_pending (s : State) (f : Arbiter → Arbiter) : (s.modifyArbiter f).pending = s.pending := rfl

/-! ### `State.modifyEdges` -/

@[simp] theorem State.modifyEdges_phase (s : State) (f : Edges → Edges) : (s.modifyEdges f).phase = s.phase := rfl
@[simp] theorem State.modifyEdges_key (s : State) (f : Edges → Edges) : (s.modifyEdges f).key = s.key := rfl
@[simp] theorem State.modifyEdges_batteryLow (s : State) (f : Edges → Edges) : (s.modifyEdges f).batteryLow = s.batteryLow := rfl
@[simp] theorem State.modifyEdges_tickets (s : State) (f : Edges → Edges) : (s.modifyEdges f).tickets = s.tickets := rfl
@[simp] theorem State.modifyEdges_holds (s : State) (f : Edges → Edges) : (s.modifyEdges f).holds = s.holds := rfl
@[simp] theorem State.modifyEdges_holdOrder (s : State) (f : Edges → Edges) : (s.modifyEdges f).holdOrder = s.holdOrder := rfl
@[simp] theorem State.modifyEdges_register (s : State) (f : Edges → Edges) : (s.modifyEdges f).register = s.register := rfl
@[simp] theorem State.modifyEdges_watch (s : State) (f : Edges → Edges) : (s.modifyEdges f).watch = s.watch := rfl
@[simp] theorem State.modifyEdges_tariff (s : State) (f : Edges → Edges) : (s.modifyEdges f).tariff = s.tariff := rfl
@[simp] theorem State.modifyEdges_till (s : State) (f : Edges → Edges) : (s.modifyEdges f).till = s.till := rfl
@[simp] theorem State.modifyEdges_clock (s : State) (f : Edges → Edges) : (s.modifyEdges f).clock = s.clock := rfl
@[simp] theorem State.modifyEdges_retentionMark (s : State) (f : Edges → Edges) : (s.modifyEdges f).retentionMark = s.retentionMark := rfl
@[simp] theorem State.modifyEdges_batteryFall (s : State) (f : Edges → Edges) : (s.modifyEdges f).batteryFall = s.batteryFall := rfl
@[simp] theorem State.modifyEdges_settings (s : State) (f : Edges → Edges) : (s.modifyEdges f).settings = s.settings := rfl
@[simp] theorem State.modifyEdges_image (s : State) (f : Edges → Edges) : (s.modifyEdges f).image = s.image := rfl
@[simp] theorem State.modifyEdges_saving (s : State) (f : Edges → Edges) : (s.modifyEdges f).saving = s.saving := rfl
@[simp] theorem State.modifyEdges_lanes (s : State) (f : Edges → Edges) : (s.modifyEdges f).lanes = s.lanes := rfl
@[simp] theorem State.modifyEdges_ports (s : State) (f : Edges → Edges) : (s.modifyEdges f).ports = s.ports := rfl
@[simp] theorem State.modifyEdges_arbiter (s : State) (f : Edges → Edges) : (s.modifyEdges f).arbiter = s.arbiter := rfl
@[simp] theorem State.modifyEdges_payTimer (s : State) (f : Edges → Edges) : (s.modifyEdges f).payTimer = s.payTimer := rfl
@[simp] theorem State.modifyEdges_setPending (s : State) (f : Edges → Edges) : (s.modifyEdges f).setPending = s.setPending := rfl
@[simp] theorem State.modifyEdges_freeIndex (s : State) (f : Edges → Edges) : (s.modifyEdges f).freeIndex = s.freeIndex := rfl
@[simp] theorem State.modifyEdges_pending (s : State) (f : Edges → Edges) : (s.modifyEdges f).pending = s.pending := rfl

/-! ### `State.withKey` -/

@[simp] theorem State.withKey_phase (s : State) (b : Bool) : (s.withKey b).phase = s.phase := rfl
@[simp] theorem State.withKey_batteryLow (s : State) (b : Bool) : (s.withKey b).batteryLow = s.batteryLow := rfl
@[simp] theorem State.withKey_tickets (s : State) (b : Bool) : (s.withKey b).tickets = s.tickets := rfl
@[simp] theorem State.withKey_holds (s : State) (b : Bool) : (s.withKey b).holds = s.holds := rfl
@[simp] theorem State.withKey_holdOrder (s : State) (b : Bool) : (s.withKey b).holdOrder = s.holdOrder := rfl
@[simp] theorem State.withKey_register (s : State) (b : Bool) : (s.withKey b).register = s.register := rfl
@[simp] theorem State.withKey_watch (s : State) (b : Bool) : (s.withKey b).watch = s.watch := rfl
@[simp] theorem State.withKey_tariff (s : State) (b : Bool) : (s.withKey b).tariff = s.tariff := rfl
@[simp] theorem State.withKey_till (s : State) (b : Bool) : (s.withKey b).till = s.till := rfl
@[simp] theorem State.withKey_clock (s : State) (b : Bool) : (s.withKey b).clock = s.clock := rfl
@[simp] theorem State.withKey_edges (s : State) (b : Bool) : (s.withKey b).edges = s.edges := rfl
@[simp] theorem State.withKey_retentionMark (s : State) (b : Bool) : (s.withKey b).retentionMark = s.retentionMark := rfl
@[simp] theorem State.withKey_batteryFall (s : State) (b : Bool) : (s.withKey b).batteryFall = s.batteryFall := rfl
@[simp] theorem State.withKey_settings (s : State) (b : Bool) : (s.withKey b).settings = s.settings := rfl
@[simp] theorem State.withKey_image (s : State) (b : Bool) : (s.withKey b).image = s.image := rfl
@[simp] theorem State.withKey_saving (s : State) (b : Bool) : (s.withKey b).saving = s.saving := rfl
@[simp] theorem State.withKey_lanes (s : State) (b : Bool) : (s.withKey b).lanes = s.lanes := rfl
@[simp] theorem State.withKey_ports (s : State) (b : Bool) : (s.withKey b).ports = s.ports := rfl
@[simp] theorem State.withKey_arbiter (s : State) (b : Bool) : (s.withKey b).arbiter = s.arbiter := rfl
@[simp] theorem State.withKey_payTimer (s : State) (b : Bool) : (s.withKey b).payTimer = s.payTimer := rfl
@[simp] theorem State.withKey_setPending (s : State) (b : Bool) : (s.withKey b).setPending = s.setPending := rfl
@[simp] theorem State.withKey_freeIndex (s : State) (b : Bool) : (s.withKey b).freeIndex = s.freeIndex := rfl
@[simp] theorem State.withKey_pending (s : State) (b : Bool) : (s.withKey b).pending = s.pending := rfl

/-! ### `State.modifyTicket` -/

@[simp] theorem State.modifyTicket_phase (s : State) (i : Fin 24) (f : Ticket → Ticket) : (s.modifyTicket i f).phase = s.phase := rfl
@[simp] theorem State.modifyTicket_key (s : State) (i : Fin 24) (f : Ticket → Ticket) : (s.modifyTicket i f).key = s.key := rfl
@[simp] theorem State.modifyTicket_batteryLow (s : State) (i : Fin 24) (f : Ticket → Ticket) : (s.modifyTicket i f).batteryLow = s.batteryLow := rfl
@[simp] theorem State.modifyTicket_holds (s : State) (i : Fin 24) (f : Ticket → Ticket) : (s.modifyTicket i f).holds = s.holds := rfl
@[simp] theorem State.modifyTicket_holdOrder (s : State) (i : Fin 24) (f : Ticket → Ticket) : (s.modifyTicket i f).holdOrder = s.holdOrder := rfl
@[simp] theorem State.modifyTicket_register (s : State) (i : Fin 24) (f : Ticket → Ticket) : (s.modifyTicket i f).register = s.register := rfl
@[simp] theorem State.modifyTicket_watch (s : State) (i : Fin 24) (f : Ticket → Ticket) : (s.modifyTicket i f).watch = s.watch := rfl
@[simp] theorem State.modifyTicket_tariff (s : State) (i : Fin 24) (f : Ticket → Ticket) : (s.modifyTicket i f).tariff = s.tariff := rfl
@[simp] theorem State.modifyTicket_till (s : State) (i : Fin 24) (f : Ticket → Ticket) : (s.modifyTicket i f).till = s.till := rfl
@[simp] theorem State.modifyTicket_clock (s : State) (i : Fin 24) (f : Ticket → Ticket) : (s.modifyTicket i f).clock = s.clock := rfl
@[simp] theorem State.modifyTicket_edges (s : State) (i : Fin 24) (f : Ticket → Ticket) : (s.modifyTicket i f).edges = s.edges := rfl
@[simp] theorem State.modifyTicket_retentionMark (s : State) (i : Fin 24) (f : Ticket → Ticket) : (s.modifyTicket i f).retentionMark = s.retentionMark := rfl
@[simp] theorem State.modifyTicket_batteryFall (s : State) (i : Fin 24) (f : Ticket → Ticket) : (s.modifyTicket i f).batteryFall = s.batteryFall := rfl
@[simp] theorem State.modifyTicket_settings (s : State) (i : Fin 24) (f : Ticket → Ticket) : (s.modifyTicket i f).settings = s.settings := rfl
@[simp] theorem State.modifyTicket_image (s : State) (i : Fin 24) (f : Ticket → Ticket) : (s.modifyTicket i f).image = s.image := rfl
@[simp] theorem State.modifyTicket_saving (s : State) (i : Fin 24) (f : Ticket → Ticket) : (s.modifyTicket i f).saving = s.saving := rfl
@[simp] theorem State.modifyTicket_lanes (s : State) (i : Fin 24) (f : Ticket → Ticket) : (s.modifyTicket i f).lanes = s.lanes := rfl
@[simp] theorem State.modifyTicket_ports (s : State) (i : Fin 24) (f : Ticket → Ticket) : (s.modifyTicket i f).ports = s.ports := rfl
@[simp] theorem State.modifyTicket_arbiter (s : State) (i : Fin 24) (f : Ticket → Ticket) : (s.modifyTicket i f).arbiter = s.arbiter := rfl
@[simp] theorem State.modifyTicket_payTimer (s : State) (i : Fin 24) (f : Ticket → Ticket) : (s.modifyTicket i f).payTimer = s.payTimer := rfl
@[simp] theorem State.modifyTicket_setPending (s : State) (i : Fin 24) (f : Ticket → Ticket) : (s.modifyTicket i f).setPending = s.setPending := rfl
@[simp] theorem State.modifyTicket_freeIndex (s : State) (i : Fin 24) (f : Ticket → Ticket) : (s.modifyTicket i f).freeIndex = s.freeIndex := rfl
@[simp] theorem State.modifyTicket_pending (s : State) (i : Fin 24) (f : Ticket → Ticket) : (s.modifyTicket i f).pending = s.pending := rfl

/-! ### `State.raiseCheckError` -/

@[simp] theorem State.raiseCheckError_phase (s : State) : (s.raiseCheckError).phase = s.phase := rfl
@[simp] theorem State.raiseCheckError_key (s : State) : (s.raiseCheckError).key = s.key := rfl
@[simp] theorem State.raiseCheckError_batteryLow (s : State) : (s.raiseCheckError).batteryLow = s.batteryLow := rfl
@[simp] theorem State.raiseCheckError_tickets (s : State) : (s.raiseCheckError).tickets = s.tickets := rfl
@[simp] theorem State.raiseCheckError_holds (s : State) : (s.raiseCheckError).holds = s.holds := rfl
@[simp] theorem State.raiseCheckError_holdOrder (s : State) : (s.raiseCheckError).holdOrder = s.holdOrder := rfl
@[simp] theorem State.raiseCheckError_register (s : State) : (s.raiseCheckError).register = s.register := rfl
@[simp] theorem State.raiseCheckError_watch (s : State) : (s.raiseCheckError).watch = s.watch := rfl
@[simp] theorem State.raiseCheckError_tariff (s : State) : (s.raiseCheckError).tariff = s.tariff := rfl
@[simp] theorem State.raiseCheckError_till (s : State) : (s.raiseCheckError).till = s.till := rfl
@[simp] theorem State.raiseCheckError_clock (s : State) : (s.raiseCheckError).clock = s.clock := rfl
@[simp] theorem State.raiseCheckError_retentionMark (s : State) : (s.raiseCheckError).retentionMark = s.retentionMark := rfl
@[simp] theorem State.raiseCheckError_batteryFall (s : State) : (s.raiseCheckError).batteryFall = s.batteryFall := rfl
@[simp] theorem State.raiseCheckError_settings (s : State) : (s.raiseCheckError).settings = s.settings := rfl
@[simp] theorem State.raiseCheckError_image (s : State) : (s.raiseCheckError).image = s.image := rfl
@[simp] theorem State.raiseCheckError_saving (s : State) : (s.raiseCheckError).saving = s.saving := rfl
@[simp] theorem State.raiseCheckError_lanes (s : State) : (s.raiseCheckError).lanes = s.lanes := rfl
@[simp] theorem State.raiseCheckError_ports (s : State) : (s.raiseCheckError).ports = s.ports := rfl
@[simp] theorem State.raiseCheckError_arbiter (s : State) : (s.raiseCheckError).arbiter = s.arbiter := rfl
@[simp] theorem State.raiseCheckError_payTimer (s : State) : (s.raiseCheckError).payTimer = s.payTimer := rfl
@[simp] theorem State.raiseCheckError_setPending (s : State) : (s.raiseCheckError).setPending = s.setPending := rfl
@[simp] theorem State.raiseCheckError_freeIndex (s : State) : (s.raiseCheckError).freeIndex = s.freeIndex := rfl
@[simp] theorem State.raiseCheckError_pending (s : State) : (s.raiseCheckError).pending = s.pending := rfl

/-! ### `State.raiseLaneFault` -/

@[simp] theorem State.raiseLaneFault_phase (s : State) : (s.raiseLaneFault).phase = s.phase := rfl
@[simp] theorem State.raiseLaneFault_key (s : State) : (s.raiseLaneFault).key = s.key := rfl
@[simp] theorem State.raiseLaneFault_batteryLow (s : State) : (s.raiseLaneFault).batteryLow = s.batteryLow := rfl
@[simp] theorem State.raiseLaneFault_tickets (s : State) : (s.raiseLaneFault).tickets = s.tickets := rfl
@[simp] theorem State.raiseLaneFault_holds (s : State) : (s.raiseLaneFault).holds = s.holds := rfl
@[simp] theorem State.raiseLaneFault_holdOrder (s : State) : (s.raiseLaneFault).holdOrder = s.holdOrder := rfl
@[simp] theorem State.raiseLaneFault_register (s : State) : (s.raiseLaneFault).register = s.register := rfl
@[simp] theorem State.raiseLaneFault_watch (s : State) : (s.raiseLaneFault).watch = s.watch := rfl
@[simp] theorem State.raiseLaneFault_tariff (s : State) : (s.raiseLaneFault).tariff = s.tariff := rfl
@[simp] theorem State.raiseLaneFault_till (s : State) : (s.raiseLaneFault).till = s.till := rfl
@[simp] theorem State.raiseLaneFault_clock (s : State) : (s.raiseLaneFault).clock = s.clock := rfl
@[simp] theorem State.raiseLaneFault_retentionMark (s : State) : (s.raiseLaneFault).retentionMark = s.retentionMark := rfl
@[simp] theorem State.raiseLaneFault_batteryFall (s : State) : (s.raiseLaneFault).batteryFall = s.batteryFall := rfl
@[simp] theorem State.raiseLaneFault_settings (s : State) : (s.raiseLaneFault).settings = s.settings := rfl
@[simp] theorem State.raiseLaneFault_image (s : State) : (s.raiseLaneFault).image = s.image := rfl
@[simp] theorem State.raiseLaneFault_saving (s : State) : (s.raiseLaneFault).saving = s.saving := rfl
@[simp] theorem State.raiseLaneFault_lanes (s : State) : (s.raiseLaneFault).lanes = s.lanes := rfl
@[simp] theorem State.raiseLaneFault_ports (s : State) : (s.raiseLaneFault).ports = s.ports := rfl
@[simp] theorem State.raiseLaneFault_arbiter (s : State) : (s.raiseLaneFault).arbiter = s.arbiter := rfl
@[simp] theorem State.raiseLaneFault_payTimer (s : State) : (s.raiseLaneFault).payTimer = s.payTimer := rfl
@[simp] theorem State.raiseLaneFault_setPending (s : State) : (s.raiseLaneFault).setPending = s.setPending := rfl
@[simp] theorem State.raiseLaneFault_freeIndex (s : State) : (s.raiseLaneFault).freeIndex = s.freeIndex := rfl
@[simp] theorem State.raiseLaneFault_pending (s : State) : (s.raiseLaneFault).pending = s.pending := rfl

/-! ### `State.raiseWatchHit` -/

@[simp] theorem State.raiseWatchHit_phase (s : State) : (s.raiseWatchHit).phase = s.phase := rfl
@[simp] theorem State.raiseWatchHit_key (s : State) : (s.raiseWatchHit).key = s.key := rfl
@[simp] theorem State.raiseWatchHit_batteryLow (s : State) : (s.raiseWatchHit).batteryLow = s.batteryLow := rfl
@[simp] theorem State.raiseWatchHit_tickets (s : State) : (s.raiseWatchHit).tickets = s.tickets := rfl
@[simp] theorem State.raiseWatchHit_holds (s : State) : (s.raiseWatchHit).holds = s.holds := rfl
@[simp] theorem State.raiseWatchHit_holdOrder (s : State) : (s.raiseWatchHit).holdOrder = s.holdOrder := rfl
@[simp] theorem State.raiseWatchHit_register (s : State) : (s.raiseWatchHit).register = s.register := rfl
@[simp] theorem State.raiseWatchHit_watch (s : State) : (s.raiseWatchHit).watch = s.watch := rfl
@[simp] theorem State.raiseWatchHit_tariff (s : State) : (s.raiseWatchHit).tariff = s.tariff := rfl
@[simp] theorem State.raiseWatchHit_till (s : State) : (s.raiseWatchHit).till = s.till := rfl
@[simp] theorem State.raiseWatchHit_clock (s : State) : (s.raiseWatchHit).clock = s.clock := rfl
@[simp] theorem State.raiseWatchHit_retentionMark (s : State) : (s.raiseWatchHit).retentionMark = s.retentionMark := rfl
@[simp] theorem State.raiseWatchHit_batteryFall (s : State) : (s.raiseWatchHit).batteryFall = s.batteryFall := rfl
@[simp] theorem State.raiseWatchHit_settings (s : State) : (s.raiseWatchHit).settings = s.settings := rfl
@[simp] theorem State.raiseWatchHit_image (s : State) : (s.raiseWatchHit).image = s.image := rfl
@[simp] theorem State.raiseWatchHit_saving (s : State) : (s.raiseWatchHit).saving = s.saving := rfl
@[simp] theorem State.raiseWatchHit_lanes (s : State) : (s.raiseWatchHit).lanes = s.lanes := rfl
@[simp] theorem State.raiseWatchHit_ports (s : State) : (s.raiseWatchHit).ports = s.ports := rfl
@[simp] theorem State.raiseWatchHit_arbiter (s : State) : (s.raiseWatchHit).arbiter = s.arbiter := rfl
@[simp] theorem State.raiseWatchHit_payTimer (s : State) : (s.raiseWatchHit).payTimer = s.payTimer := rfl
@[simp] theorem State.raiseWatchHit_setPending (s : State) : (s.raiseWatchHit).setPending = s.setPending := rfl
@[simp] theorem State.raiseWatchHit_freeIndex (s : State) : (s.raiseWatchHit).freeIndex = s.freeIndex := rfl
@[simp] theorem State.raiseWatchHit_pending (s : State) : (s.raiseWatchHit).pending = s.pending := rfl

/-! ### `State.raiseStrayItems` -/

@[simp] theorem State.raiseStrayItems_phase (s : State) : (s.raiseStrayItems).phase = s.phase := rfl
@[simp] theorem State.raiseStrayItems_key (s : State) : (s.raiseStrayItems).key = s.key := rfl
@[simp] theorem State.raiseStrayItems_batteryLow (s : State) : (s.raiseStrayItems).batteryLow = s.batteryLow := rfl
@[simp] theorem State.raiseStrayItems_tickets (s : State) : (s.raiseStrayItems).tickets = s.tickets := rfl
@[simp] theorem State.raiseStrayItems_holds (s : State) : (s.raiseStrayItems).holds = s.holds := rfl
@[simp] theorem State.raiseStrayItems_holdOrder (s : State) : (s.raiseStrayItems).holdOrder = s.holdOrder := rfl
@[simp] theorem State.raiseStrayItems_register (s : State) : (s.raiseStrayItems).register = s.register := rfl
@[simp] theorem State.raiseStrayItems_watch (s : State) : (s.raiseStrayItems).watch = s.watch := rfl
@[simp] theorem State.raiseStrayItems_tariff (s : State) : (s.raiseStrayItems).tariff = s.tariff := rfl
@[simp] theorem State.raiseStrayItems_till (s : State) : (s.raiseStrayItems).till = s.till := rfl
@[simp] theorem State.raiseStrayItems_clock (s : State) : (s.raiseStrayItems).clock = s.clock := rfl
@[simp] theorem State.raiseStrayItems_retentionMark (s : State) : (s.raiseStrayItems).retentionMark = s.retentionMark := rfl
@[simp] theorem State.raiseStrayItems_batteryFall (s : State) : (s.raiseStrayItems).batteryFall = s.batteryFall := rfl
@[simp] theorem State.raiseStrayItems_settings (s : State) : (s.raiseStrayItems).settings = s.settings := rfl
@[simp] theorem State.raiseStrayItems_image (s : State) : (s.raiseStrayItems).image = s.image := rfl
@[simp] theorem State.raiseStrayItems_saving (s : State) : (s.raiseStrayItems).saving = s.saving := rfl
@[simp] theorem State.raiseStrayItems_lanes (s : State) : (s.raiseStrayItems).lanes = s.lanes := rfl
@[simp] theorem State.raiseStrayItems_ports (s : State) : (s.raiseStrayItems).ports = s.ports := rfl
@[simp] theorem State.raiseStrayItems_arbiter (s : State) : (s.raiseStrayItems).arbiter = s.arbiter := rfl
@[simp] theorem State.raiseStrayItems_payTimer (s : State) : (s.raiseStrayItems).payTimer = s.payTimer := rfl
@[simp] theorem State.raiseStrayItems_setPending (s : State) : (s.raiseStrayItems).setPending = s.setPending := rfl
@[simp] theorem State.raiseStrayItems_freeIndex (s : State) : (s.raiseStrayItems).freeIndex = s.freeIndex := rfl
@[simp] theorem State.raiseStrayItems_pending (s : State) : (s.raiseStrayItems).pending = s.pending := rfl

/-! ### `State.raiseChangeoverDone` -/

@[simp] theorem State.raiseChangeoverDone_phase (s : State) : (s.raiseChangeoverDone).phase = s.phase := rfl
@[simp] theorem State.raiseChangeoverDone_key (s : State) : (s.raiseChangeoverDone).key = s.key := rfl
@[simp] theorem State.raiseChangeoverDone_batteryLow (s : State) : (s.raiseChangeoverDone).batteryLow = s.batteryLow := rfl
@[simp] theorem State.raiseChangeoverDone_tickets (s : State) : (s.raiseChangeoverDone).tickets = s.tickets := rfl
@[simp] theorem State.raiseChangeoverDone_holds (s : State) : (s.raiseChangeoverDone).holds = s.holds := rfl
@[simp] theorem State.raiseChangeoverDone_holdOrder (s : State) : (s.raiseChangeoverDone).holdOrder = s.holdOrder := rfl
@[simp] theorem State.raiseChangeoverDone_register (s : State) : (s.raiseChangeoverDone).register = s.register := rfl
@[simp] theorem State.raiseChangeoverDone_watch (s : State) : (s.raiseChangeoverDone).watch = s.watch := rfl
@[simp] theorem State.raiseChangeoverDone_tariff (s : State) : (s.raiseChangeoverDone).tariff = s.tariff := rfl
@[simp] theorem State.raiseChangeoverDone_till (s : State) : (s.raiseChangeoverDone).till = s.till := rfl
@[simp] theorem State.raiseChangeoverDone_clock (s : State) : (s.raiseChangeoverDone).clock = s.clock := rfl
@[simp] theorem State.raiseChangeoverDone_retentionMark (s : State) : (s.raiseChangeoverDone).retentionMark = s.retentionMark := rfl
@[simp] theorem State.raiseChangeoverDone_batteryFall (s : State) : (s.raiseChangeoverDone).batteryFall = s.batteryFall := rfl
@[simp] theorem State.raiseChangeoverDone_settings (s : State) : (s.raiseChangeoverDone).settings = s.settings := rfl
@[simp] theorem State.raiseChangeoverDone_image (s : State) : (s.raiseChangeoverDone).image = s.image := rfl
@[simp] theorem State.raiseChangeoverDone_saving (s : State) : (s.raiseChangeoverDone).saving = s.saving := rfl
@[simp] theorem State.raiseChangeoverDone_lanes (s : State) : (s.raiseChangeoverDone).lanes = s.lanes := rfl
@[simp] theorem State.raiseChangeoverDone_ports (s : State) : (s.raiseChangeoverDone).ports = s.ports := rfl
@[simp] theorem State.raiseChangeoverDone_arbiter (s : State) : (s.raiseChangeoverDone).arbiter = s.arbiter := rfl
@[simp] theorem State.raiseChangeoverDone_payTimer (s : State) : (s.raiseChangeoverDone).payTimer = s.payTimer := rfl
@[simp] theorem State.raiseChangeoverDone_setPending (s : State) : (s.raiseChangeoverDone).setPending = s.setPending := rfl
@[simp] theorem State.raiseChangeoverDone_freeIndex (s : State) : (s.raiseChangeoverDone).freeIndex = s.freeIndex := rfl
@[simp] theorem State.raiseChangeoverDone_pending (s : State) : (s.raiseChangeoverDone).pending = s.pending := rfl

/-! ### `State.raiseSettingsDefault` -/

@[simp] theorem State.raiseSettingsDefault_phase (s : State) : (s.raiseSettingsDefault).phase = s.phase := rfl
@[simp] theorem State.raiseSettingsDefault_key (s : State) : (s.raiseSettingsDefault).key = s.key := rfl
@[simp] theorem State.raiseSettingsDefault_batteryLow (s : State) : (s.raiseSettingsDefault).batteryLow = s.batteryLow := rfl
@[simp] theorem State.raiseSettingsDefault_tickets (s : State) : (s.raiseSettingsDefault).tickets = s.tickets := rfl
@[simp] theorem State.raiseSettingsDefault_holds (s : State) : (s.raiseSettingsDefault).holds = s.holds := rfl
@[simp] theorem State.raiseSettingsDefault_holdOrder (s : State) : (s.raiseSettingsDefault).holdOrder = s.holdOrder := rfl
@[simp] theorem State.raiseSettingsDefault_register (s : State) : (s.raiseSettingsDefault).register = s.register := rfl
@[simp] theorem State.raiseSettingsDefault_watch (s : State) : (s.raiseSettingsDefault).watch = s.watch := rfl
@[simp] theorem State.raiseSettingsDefault_tariff (s : State) : (s.raiseSettingsDefault).tariff = s.tariff := rfl
@[simp] theorem State.raiseSettingsDefault_till (s : State) : (s.raiseSettingsDefault).till = s.till := rfl
@[simp] theorem State.raiseSettingsDefault_clock (s : State) : (s.raiseSettingsDefault).clock = s.clock := rfl
@[simp] theorem State.raiseSettingsDefault_retentionMark (s : State) : (s.raiseSettingsDefault).retentionMark = s.retentionMark := rfl
@[simp] theorem State.raiseSettingsDefault_batteryFall (s : State) : (s.raiseSettingsDefault).batteryFall = s.batteryFall := rfl
@[simp] theorem State.raiseSettingsDefault_settings (s : State) : (s.raiseSettingsDefault).settings = s.settings := rfl
@[simp] theorem State.raiseSettingsDefault_image (s : State) : (s.raiseSettingsDefault).image = s.image := rfl
@[simp] theorem State.raiseSettingsDefault_saving (s : State) : (s.raiseSettingsDefault).saving = s.saving := rfl
@[simp] theorem State.raiseSettingsDefault_lanes (s : State) : (s.raiseSettingsDefault).lanes = s.lanes := rfl
@[simp] theorem State.raiseSettingsDefault_ports (s : State) : (s.raiseSettingsDefault).ports = s.ports := rfl
@[simp] theorem State.raiseSettingsDefault_arbiter (s : State) : (s.raiseSettingsDefault).arbiter = s.arbiter := rfl
@[simp] theorem State.raiseSettingsDefault_payTimer (s : State) : (s.raiseSettingsDefault).payTimer = s.payTimer := rfl
@[simp] theorem State.raiseSettingsDefault_setPending (s : State) : (s.raiseSettingsDefault).setPending = s.setPending := rfl
@[simp] theorem State.raiseSettingsDefault_freeIndex (s : State) : (s.raiseSettingsDefault).freeIndex = s.freeIndex := rfl
@[simp] theorem State.raiseSettingsDefault_pending (s : State) : (s.raiseSettingsDefault).pending = s.pending := rfl

/-! ### `State.raiseSaveFailed` -/

@[simp] theorem State.raiseSaveFailed_phase (s : State) : (s.raiseSaveFailed).phase = s.phase := rfl
@[simp] theorem State.raiseSaveFailed_key (s : State) : (s.raiseSaveFailed).key = s.key := rfl
@[simp] theorem State.raiseSaveFailed_batteryLow (s : State) : (s.raiseSaveFailed).batteryLow = s.batteryLow := rfl
@[simp] theorem State.raiseSaveFailed_tickets (s : State) : (s.raiseSaveFailed).tickets = s.tickets := rfl
@[simp] theorem State.raiseSaveFailed_holds (s : State) : (s.raiseSaveFailed).holds = s.holds := rfl
@[simp] theorem State.raiseSaveFailed_holdOrder (s : State) : (s.raiseSaveFailed).holdOrder = s.holdOrder := rfl
@[simp] theorem State.raiseSaveFailed_register (s : State) : (s.raiseSaveFailed).register = s.register := rfl
@[simp] theorem State.raiseSaveFailed_watch (s : State) : (s.raiseSaveFailed).watch = s.watch := rfl
@[simp] theorem State.raiseSaveFailed_tariff (s : State) : (s.raiseSaveFailed).tariff = s.tariff := rfl
@[simp] theorem State.raiseSaveFailed_till (s : State) : (s.raiseSaveFailed).till = s.till := rfl
@[simp] theorem State.raiseSaveFailed_clock (s : State) : (s.raiseSaveFailed).clock = s.clock := rfl
@[simp] theorem State.raiseSaveFailed_retentionMark (s : State) : (s.raiseSaveFailed).retentionMark = s.retentionMark := rfl
@[simp] theorem State.raiseSaveFailed_batteryFall (s : State) : (s.raiseSaveFailed).batteryFall = s.batteryFall := rfl
@[simp] theorem State.raiseSaveFailed_settings (s : State) : (s.raiseSaveFailed).settings = s.settings := rfl
@[simp] theorem State.raiseSaveFailed_image (s : State) : (s.raiseSaveFailed).image = s.image := rfl
@[simp] theorem State.raiseSaveFailed_saving (s : State) : (s.raiseSaveFailed).saving = s.saving := rfl
@[simp] theorem State.raiseSaveFailed_lanes (s : State) : (s.raiseSaveFailed).lanes = s.lanes := rfl
@[simp] theorem State.raiseSaveFailed_ports (s : State) : (s.raiseSaveFailed).ports = s.ports := rfl
@[simp] theorem State.raiseSaveFailed_arbiter (s : State) : (s.raiseSaveFailed).arbiter = s.arbiter := rfl
@[simp] theorem State.raiseSaveFailed_payTimer (s : State) : (s.raiseSaveFailed).payTimer = s.payTimer := rfl
@[simp] theorem State.raiseSaveFailed_setPending (s : State) : (s.raiseSaveFailed).setPending = s.setPending := rfl
@[simp] theorem State.raiseSaveFailed_freeIndex (s : State) : (s.raiseSaveFailed).freeIndex = s.freeIndex := rfl
@[simp] theorem State.raiseSaveFailed_pending (s : State) : (s.raiseSaveFailed).pending = s.pending := rfl

/-! ### `State.reply` -/

@[simp] theorem State.reply_phase (s : State) (l : Link) (a : Answer) : (s.reply l a).phase = s.phase := rfl
@[simp] theorem State.reply_key (s : State) (l : Link) (a : Answer) : (s.reply l a).key = s.key := rfl
@[simp] theorem State.reply_batteryLow (s : State) (l : Link) (a : Answer) : (s.reply l a).batteryLow = s.batteryLow := rfl
@[simp] theorem State.reply_tickets (s : State) (l : Link) (a : Answer) : (s.reply l a).tickets = s.tickets := rfl
@[simp] theorem State.reply_holds (s : State) (l : Link) (a : Answer) : (s.reply l a).holds = s.holds := rfl
@[simp] theorem State.reply_holdOrder (s : State) (l : Link) (a : Answer) : (s.reply l a).holdOrder = s.holdOrder := rfl
@[simp] theorem State.reply_register (s : State) (l : Link) (a : Answer) : (s.reply l a).register = s.register := rfl
@[simp] theorem State.reply_watch (s : State) (l : Link) (a : Answer) : (s.reply l a).watch = s.watch := rfl
@[simp] theorem State.reply_tariff (s : State) (l : Link) (a : Answer) : (s.reply l a).tariff = s.tariff := rfl
@[simp] theorem State.reply_till (s : State) (l : Link) (a : Answer) : (s.reply l a).till = s.till := rfl
@[simp] theorem State.reply_clock (s : State) (l : Link) (a : Answer) : (s.reply l a).clock = s.clock := rfl
@[simp] theorem State.reply_edges (s : State) (l : Link) (a : Answer) : (s.reply l a).edges = s.edges := rfl
@[simp] theorem State.reply_retentionMark (s : State) (l : Link) (a : Answer) : (s.reply l a).retentionMark = s.retentionMark := rfl
@[simp] theorem State.reply_batteryFall (s : State) (l : Link) (a : Answer) : (s.reply l a).batteryFall = s.batteryFall := rfl
@[simp] theorem State.reply_settings (s : State) (l : Link) (a : Answer) : (s.reply l a).settings = s.settings := rfl
@[simp] theorem State.reply_image (s : State) (l : Link) (a : Answer) : (s.reply l a).image = s.image := rfl
@[simp] theorem State.reply_saving (s : State) (l : Link) (a : Answer) : (s.reply l a).saving = s.saving := rfl
@[simp] theorem State.reply_lanes (s : State) (l : Link) (a : Answer) : (s.reply l a).lanes = s.lanes := rfl
@[simp] theorem State.reply_arbiter (s : State) (l : Link) (a : Answer) : (s.reply l a).arbiter = s.arbiter := rfl
@[simp] theorem State.reply_payTimer (s : State) (l : Link) (a : Answer) : (s.reply l a).payTimer = s.payTimer := rfl
@[simp] theorem State.reply_setPending (s : State) (l : Link) (a : Answer) : (s.reply l a).setPending = s.setPending := rfl
@[simp] theorem State.reply_freeIndex (s : State) (l : Link) (a : Answer) : (s.reply l a).freeIndex = s.freeIndex := rfl
@[simp] theorem State.reply_pending (s : State) (l : Link) (a : Answer) : (s.reply l a).pending = s.pending := rfl

/-! ### `State.replyCode` -/

@[simp] theorem State.replyCode_phase (s : State) (l : Link) (r : Result) : (s.replyCode l r).phase = s.phase := rfl
@[simp] theorem State.replyCode_key (s : State) (l : Link) (r : Result) : (s.replyCode l r).key = s.key := rfl
@[simp] theorem State.replyCode_batteryLow (s : State) (l : Link) (r : Result) : (s.replyCode l r).batteryLow = s.batteryLow := rfl
@[simp] theorem State.replyCode_tickets (s : State) (l : Link) (r : Result) : (s.replyCode l r).tickets = s.tickets := rfl
@[simp] theorem State.replyCode_holds (s : State) (l : Link) (r : Result) : (s.replyCode l r).holds = s.holds := rfl
@[simp] theorem State.replyCode_holdOrder (s : State) (l : Link) (r : Result) : (s.replyCode l r).holdOrder = s.holdOrder := rfl
@[simp] theorem State.replyCode_register (s : State) (l : Link) (r : Result) : (s.replyCode l r).register = s.register := rfl
@[simp] theorem State.replyCode_watch (s : State) (l : Link) (r : Result) : (s.replyCode l r).watch = s.watch := rfl
@[simp] theorem State.replyCode_tariff (s : State) (l : Link) (r : Result) : (s.replyCode l r).tariff = s.tariff := rfl
@[simp] theorem State.replyCode_till (s : State) (l : Link) (r : Result) : (s.replyCode l r).till = s.till := rfl
@[simp] theorem State.replyCode_clock (s : State) (l : Link) (r : Result) : (s.replyCode l r).clock = s.clock := rfl
@[simp] theorem State.replyCode_edges (s : State) (l : Link) (r : Result) : (s.replyCode l r).edges = s.edges := rfl
@[simp] theorem State.replyCode_retentionMark (s : State) (l : Link) (r : Result) : (s.replyCode l r).retentionMark = s.retentionMark := rfl
@[simp] theorem State.replyCode_batteryFall (s : State) (l : Link) (r : Result) : (s.replyCode l r).batteryFall = s.batteryFall := rfl
@[simp] theorem State.replyCode_settings (s : State) (l : Link) (r : Result) : (s.replyCode l r).settings = s.settings := rfl
@[simp] theorem State.replyCode_image (s : State) (l : Link) (r : Result) : (s.replyCode l r).image = s.image := rfl
@[simp] theorem State.replyCode_saving (s : State) (l : Link) (r : Result) : (s.replyCode l r).saving = s.saving := rfl
@[simp] theorem State.replyCode_lanes (s : State) (l : Link) (r : Result) : (s.replyCode l r).lanes = s.lanes := rfl
@[simp] theorem State.replyCode_arbiter (s : State) (l : Link) (r : Result) : (s.replyCode l r).arbiter = s.arbiter := rfl
@[simp] theorem State.replyCode_payTimer (s : State) (l : Link) (r : Result) : (s.replyCode l r).payTimer = s.payTimer := rfl
@[simp] theorem State.replyCode_setPending (s : State) (l : Link) (r : Result) : (s.replyCode l r).setPending = s.setPending := rfl
@[simp] theorem State.replyCode_freeIndex (s : State) (l : Link) (r : Result) : (s.replyCode l r).freeIndex = s.freeIndex := rfl
@[simp] theorem State.replyCode_pending (s : State) (l : Link) (r : Result) : (s.replyCode l r).pending = s.pending := rfl

/-! ### `State.replyOldest` -/

@[simp] theorem State.replyOldest_phase (s : State) (l : Link) (kind : Nat) (a : Answer) : (s.replyOldest l kind a).phase = s.phase := rfl
@[simp] theorem State.replyOldest_key (s : State) (l : Link) (kind : Nat) (a : Answer) : (s.replyOldest l kind a).key = s.key := rfl
@[simp] theorem State.replyOldest_batteryLow (s : State) (l : Link) (kind : Nat) (a : Answer) : (s.replyOldest l kind a).batteryLow = s.batteryLow := rfl
@[simp] theorem State.replyOldest_tickets (s : State) (l : Link) (kind : Nat) (a : Answer) : (s.replyOldest l kind a).tickets = s.tickets := rfl
@[simp] theorem State.replyOldest_holds (s : State) (l : Link) (kind : Nat) (a : Answer) : (s.replyOldest l kind a).holds = s.holds := rfl
@[simp] theorem State.replyOldest_holdOrder (s : State) (l : Link) (kind : Nat) (a : Answer) : (s.replyOldest l kind a).holdOrder = s.holdOrder := rfl
@[simp] theorem State.replyOldest_register (s : State) (l : Link) (kind : Nat) (a : Answer) : (s.replyOldest l kind a).register = s.register := rfl
@[simp] theorem State.replyOldest_watch (s : State) (l : Link) (kind : Nat) (a : Answer) : (s.replyOldest l kind a).watch = s.watch := rfl
@[simp] theorem State.replyOldest_tariff (s : State) (l : Link) (kind : Nat) (a : Answer) : (s.replyOldest l kind a).tariff = s.tariff := rfl
@[simp] theorem State.replyOldest_till (s : State) (l : Link) (kind : Nat) (a : Answer) : (s.replyOldest l kind a).till = s.till := rfl
@[simp] theorem State.replyOldest_clock (s : State) (l : Link) (kind : Nat) (a : Answer) : (s.replyOldest l kind a).clock = s.clock := rfl
@[simp] theorem State.replyOldest_edges (s : State) (l : Link) (kind : Nat) (a : Answer) : (s.replyOldest l kind a).edges = s.edges := rfl
@[simp] theorem State.replyOldest_retentionMark (s : State) (l : Link) (kind : Nat) (a : Answer) : (s.replyOldest l kind a).retentionMark = s.retentionMark := rfl
@[simp] theorem State.replyOldest_batteryFall (s : State) (l : Link) (kind : Nat) (a : Answer) : (s.replyOldest l kind a).batteryFall = s.batteryFall := rfl
@[simp] theorem State.replyOldest_settings (s : State) (l : Link) (kind : Nat) (a : Answer) : (s.replyOldest l kind a).settings = s.settings := rfl
@[simp] theorem State.replyOldest_image (s : State) (l : Link) (kind : Nat) (a : Answer) : (s.replyOldest l kind a).image = s.image := rfl
@[simp] theorem State.replyOldest_saving (s : State) (l : Link) (kind : Nat) (a : Answer) : (s.replyOldest l kind a).saving = s.saving := rfl
@[simp] theorem State.replyOldest_lanes (s : State) (l : Link) (kind : Nat) (a : Answer) : (s.replyOldest l kind a).lanes = s.lanes := rfl
@[simp] theorem State.replyOldest_arbiter (s : State) (l : Link) (kind : Nat) (a : Answer) : (s.replyOldest l kind a).arbiter = s.arbiter := rfl
@[simp] theorem State.replyOldest_payTimer (s : State) (l : Link) (kind : Nat) (a : Answer) : (s.replyOldest l kind a).payTimer = s.payTimer := rfl
@[simp] theorem State.replyOldest_setPending (s : State) (l : Link) (kind : Nat) (a : Answer) : (s.replyOldest l kind a).setPending = s.setPending := rfl
@[simp] theorem State.replyOldest_freeIndex (s : State) (l : Link) (kind : Nat) (a : Answer) : (s.replyOldest l kind a).freeIndex = s.freeIndex := rfl
@[simp] theorem State.replyOldest_pending (s : State) (l : Link) (kind : Nat) (a : Answer) : (s.replyOldest l kind a).pending = s.pending := rfl

/-! ### `State.sendOwn` -/

@[simp] theorem State.sendOwn_phase (s : State) (n : Lane) (f : OwnFrame) : (s.sendOwn n f).phase = s.phase := rfl
@[simp] theorem State.sendOwn_key (s : State) (n : Lane) (f : OwnFrame) : (s.sendOwn n f).key = s.key := rfl
@[simp] theorem State.sendOwn_batteryLow (s : State) (n : Lane) (f : OwnFrame) : (s.sendOwn n f).batteryLow = s.batteryLow := rfl
@[simp] theorem State.sendOwn_tickets (s : State) (n : Lane) (f : OwnFrame) : (s.sendOwn n f).tickets = s.tickets := rfl
@[simp] theorem State.sendOwn_holds (s : State) (n : Lane) (f : OwnFrame) : (s.sendOwn n f).holds = s.holds := rfl
@[simp] theorem State.sendOwn_holdOrder (s : State) (n : Lane) (f : OwnFrame) : (s.sendOwn n f).holdOrder = s.holdOrder := rfl
@[simp] theorem State.sendOwn_register (s : State) (n : Lane) (f : OwnFrame) : (s.sendOwn n f).register = s.register := rfl
@[simp] theorem State.sendOwn_watch (s : State) (n : Lane) (f : OwnFrame) : (s.sendOwn n f).watch = s.watch := rfl
@[simp] theorem State.sendOwn_tariff (s : State) (n : Lane) (f : OwnFrame) : (s.sendOwn n f).tariff = s.tariff := rfl
@[simp] theorem State.sendOwn_till (s : State) (n : Lane) (f : OwnFrame) : (s.sendOwn n f).till = s.till := rfl
@[simp] theorem State.sendOwn_clock (s : State) (n : Lane) (f : OwnFrame) : (s.sendOwn n f).clock = s.clock := rfl
@[simp] theorem State.sendOwn_edges (s : State) (n : Lane) (f : OwnFrame) : (s.sendOwn n f).edges = s.edges := rfl
@[simp] theorem State.sendOwn_retentionMark (s : State) (n : Lane) (f : OwnFrame) : (s.sendOwn n f).retentionMark = s.retentionMark := rfl
@[simp] theorem State.sendOwn_batteryFall (s : State) (n : Lane) (f : OwnFrame) : (s.sendOwn n f).batteryFall = s.batteryFall := rfl
@[simp] theorem State.sendOwn_settings (s : State) (n : Lane) (f : OwnFrame) : (s.sendOwn n f).settings = s.settings := rfl
@[simp] theorem State.sendOwn_image (s : State) (n : Lane) (f : OwnFrame) : (s.sendOwn n f).image = s.image := rfl
@[simp] theorem State.sendOwn_saving (s : State) (n : Lane) (f : OwnFrame) : (s.sendOwn n f).saving = s.saving := rfl
@[simp] theorem State.sendOwn_lanes (s : State) (n : Lane) (f : OwnFrame) : (s.sendOwn n f).lanes = s.lanes := rfl
@[simp] theorem State.sendOwn_arbiter (s : State) (n : Lane) (f : OwnFrame) : (s.sendOwn n f).arbiter = s.arbiter := rfl
@[simp] theorem State.sendOwn_payTimer (s : State) (n : Lane) (f : OwnFrame) : (s.sendOwn n f).payTimer = s.payTimer := rfl
@[simp] theorem State.sendOwn_setPending (s : State) (n : Lane) (f : OwnFrame) : (s.sendOwn n f).setPending = s.setPending := rfl
@[simp] theorem State.sendOwn_freeIndex (s : State) (n : Lane) (f : OwnFrame) : (s.sendOwn n f).freeIndex = s.freeIndex := rfl
@[simp] theorem State.sendOwn_pending (s : State) (n : Lane) (f : OwnFrame) : (s.sendOwn n f).pending = s.pending := rfl

/-! ### `State.overflow` -/

@[simp] theorem State.overflow_phase (s : State) (l : Link) : (s.overflow l).phase = s.phase := rfl
@[simp] theorem State.overflow_key (s : State) (l : Link) : (s.overflow l).key = s.key := rfl
@[simp] theorem State.overflow_batteryLow (s : State) (l : Link) : (s.overflow l).batteryLow = s.batteryLow := rfl
@[simp] theorem State.overflow_tickets (s : State) (l : Link) : (s.overflow l).tickets = s.tickets := rfl
@[simp] theorem State.overflow_holds (s : State) (l : Link) : (s.overflow l).holds = s.holds := rfl
@[simp] theorem State.overflow_holdOrder (s : State) (l : Link) : (s.overflow l).holdOrder = s.holdOrder := rfl
@[simp] theorem State.overflow_register (s : State) (l : Link) : (s.overflow l).register = s.register := rfl
@[simp] theorem State.overflow_watch (s : State) (l : Link) : (s.overflow l).watch = s.watch := rfl
@[simp] theorem State.overflow_tariff (s : State) (l : Link) : (s.overflow l).tariff = s.tariff := rfl
@[simp] theorem State.overflow_till (s : State) (l : Link) : (s.overflow l).till = s.till := rfl
@[simp] theorem State.overflow_clock (s : State) (l : Link) : (s.overflow l).clock = s.clock := rfl
@[simp] theorem State.overflow_retentionMark (s : State) (l : Link) : (s.overflow l).retentionMark = s.retentionMark := rfl
@[simp] theorem State.overflow_batteryFall (s : State) (l : Link) : (s.overflow l).batteryFall = s.batteryFall := rfl
@[simp] theorem State.overflow_settings (s : State) (l : Link) : (s.overflow l).settings = s.settings := rfl
@[simp] theorem State.overflow_image (s : State) (l : Link) : (s.overflow l).image = s.image := rfl
@[simp] theorem State.overflow_saving (s : State) (l : Link) : (s.overflow l).saving = s.saving := rfl
@[simp] theorem State.overflow_lanes (s : State) (l : Link) : (s.overflow l).lanes = s.lanes := rfl
@[simp] theorem State.overflow_arbiter (s : State) (l : Link) : (s.overflow l).arbiter = s.arbiter := rfl
@[simp] theorem State.overflow_payTimer (s : State) (l : Link) : (s.overflow l).payTimer = s.payTimer := rfl
@[simp] theorem State.overflow_setPending (s : State) (l : Link) : (s.overflow l).setPending = s.setPending := rfl
@[simp] theorem State.overflow_freeIndex (s : State) (l : Link) : (s.overflow l).freeIndex = s.freeIndex := rfl
@[simp] theorem State.overflow_pending (s : State) (l : Link) : (s.overflow l).pending = s.pending := rfl

/-! ### `State.heardDesk` -/

@[simp] theorem State.heardDesk_phase (s : State) (l : Link) : (s.heardDesk l).phase = s.phase := by cases l <;> rfl
@[simp] theorem State.heardDesk_key (s : State) (l : Link) : (s.heardDesk l).key = s.key := by cases l <;> rfl
@[simp] theorem State.heardDesk_batteryLow (s : State) (l : Link) : (s.heardDesk l).batteryLow = s.batteryLow := by cases l <;> rfl
@[simp] theorem State.heardDesk_tickets (s : State) (l : Link) : (s.heardDesk l).tickets = s.tickets := by cases l <;> rfl
@[simp] theorem State.heardDesk_holds (s : State) (l : Link) : (s.heardDesk l).holds = s.holds := by cases l <;> rfl
@[simp] theorem State.heardDesk_holdOrder (s : State) (l : Link) : (s.heardDesk l).holdOrder = s.holdOrder := by cases l <;> rfl
@[simp] theorem State.heardDesk_register (s : State) (l : Link) : (s.heardDesk l).register = s.register := by cases l <;> rfl
@[simp] theorem State.heardDesk_watch (s : State) (l : Link) : (s.heardDesk l).watch = s.watch := by cases l <;> rfl
@[simp] theorem State.heardDesk_tariff (s : State) (l : Link) : (s.heardDesk l).tariff = s.tariff := by cases l <;> rfl
@[simp] theorem State.heardDesk_till (s : State) (l : Link) : (s.heardDesk l).till = s.till := by cases l <;> rfl
@[simp] theorem State.heardDesk_clock (s : State) (l : Link) : (s.heardDesk l).clock = s.clock := by cases l <;> rfl
@[simp] theorem State.heardDesk_edges (s : State) (l : Link) : (s.heardDesk l).edges = s.edges := by cases l <;> rfl
@[simp] theorem State.heardDesk_retentionMark (s : State) (l : Link) : (s.heardDesk l).retentionMark = s.retentionMark := by cases l <;> rfl
@[simp] theorem State.heardDesk_batteryFall (s : State) (l : Link) : (s.heardDesk l).batteryFall = s.batteryFall := by cases l <;> rfl
@[simp] theorem State.heardDesk_settings (s : State) (l : Link) : (s.heardDesk l).settings = s.settings := by cases l <;> rfl
@[simp] theorem State.heardDesk_image (s : State) (l : Link) : (s.heardDesk l).image = s.image := by cases l <;> rfl
@[simp] theorem State.heardDesk_saving (s : State) (l : Link) : (s.heardDesk l).saving = s.saving := by cases l <;> rfl
@[simp] theorem State.heardDesk_lanes (s : State) (l : Link) : (s.heardDesk l).lanes = s.lanes := by cases l <;> rfl
@[simp] theorem State.heardDesk_arbiter (s : State) (l : Link) : (s.heardDesk l).arbiter = s.arbiter := by cases l <;> rfl
@[simp] theorem State.heardDesk_payTimer (s : State) (l : Link) : (s.heardDesk l).payTimer = s.payTimer := by cases l <;> rfl
@[simp] theorem State.heardDesk_setPending (s : State) (l : Link) : (s.heardDesk l).setPending = s.setPending := by cases l <;> rfl
@[simp] theorem State.heardDesk_freeIndex (s : State) (l : Link) : (s.heardDesk l).freeIndex = s.freeIndex := by cases l <;> rfl
@[simp] theorem State.heardDesk_pending (s : State) (l : Link) : (s.heardDesk l).pending = s.pending := by cases l <;> rfl

/-! ### `State.heardLane` -/

@[simp] theorem State.heardLane_phase (s : State) (l : Link) : (s.heardLane l).phase = s.phase := by cases l <;> rfl
@[simp] theorem State.heardLane_key (s : State) (l : Link) : (s.heardLane l).key = s.key := by cases l <;> rfl
@[simp] theorem State.heardLane_batteryLow (s : State) (l : Link) : (s.heardLane l).batteryLow = s.batteryLow := by cases l <;> rfl
@[simp] theorem State.heardLane_tickets (s : State) (l : Link) : (s.heardLane l).tickets = s.tickets := by cases l <;> rfl
@[simp] theorem State.heardLane_holds (s : State) (l : Link) : (s.heardLane l).holds = s.holds := by cases l <;> rfl
@[simp] theorem State.heardLane_holdOrder (s : State) (l : Link) : (s.heardLane l).holdOrder = s.holdOrder := by cases l <;> rfl
@[simp] theorem State.heardLane_register (s : State) (l : Link) : (s.heardLane l).register = s.register := by cases l <;> rfl
@[simp] theorem State.heardLane_watch (s : State) (l : Link) : (s.heardLane l).watch = s.watch := by cases l <;> rfl
@[simp] theorem State.heardLane_tariff (s : State) (l : Link) : (s.heardLane l).tariff = s.tariff := by cases l <;> rfl
@[simp] theorem State.heardLane_till (s : State) (l : Link) : (s.heardLane l).till = s.till := by cases l <;> rfl
@[simp] theorem State.heardLane_clock (s : State) (l : Link) : (s.heardLane l).clock = s.clock := by cases l <;> rfl
@[simp] theorem State.heardLane_edges (s : State) (l : Link) : (s.heardLane l).edges = s.edges := by cases l <;> rfl
@[simp] theorem State.heardLane_retentionMark (s : State) (l : Link) : (s.heardLane l).retentionMark = s.retentionMark := by cases l <;> rfl
@[simp] theorem State.heardLane_batteryFall (s : State) (l : Link) : (s.heardLane l).batteryFall = s.batteryFall := by cases l <;> rfl
@[simp] theorem State.heardLane_settings (s : State) (l : Link) : (s.heardLane l).settings = s.settings := by cases l <;> rfl
@[simp] theorem State.heardLane_image (s : State) (l : Link) : (s.heardLane l).image = s.image := by cases l <;> rfl
@[simp] theorem State.heardLane_saving (s : State) (l : Link) : (s.heardLane l).saving = s.saving := by cases l <;> rfl
@[simp] theorem State.heardLane_ports (s : State) (l : Link) : (s.heardLane l).ports = s.ports := by cases l <;> rfl
@[simp] theorem State.heardLane_arbiter (s : State) (l : Link) : (s.heardLane l).arbiter = s.arbiter := by cases l <;> rfl
@[simp] theorem State.heardLane_payTimer (s : State) (l : Link) : (s.heardLane l).payTimer = s.payTimer := by cases l <;> rfl
@[simp] theorem State.heardLane_setPending (s : State) (l : Link) : (s.heardLane l).setPending = s.setPending := by cases l <;> rfl
@[simp] theorem State.heardLane_freeIndex (s : State) (l : Link) : (s.heardLane l).freeIndex = s.freeIndex := by cases l <;> rfl
@[simp] theorem State.heardLane_pending (s : State) (l : Link) : (s.heardLane l).pending = s.pending := by cases l <;> rfl

/-! ### `State.completeOperation` -/

@[simp] theorem State.completeOperation_phase (s : State) : (s.completeOperation).phase = s.phase := by unfold State.completeOperation; split <;> rfl
@[simp] theorem State.completeOperation_key (s : State) : (s.completeOperation).key = s.key := by unfold State.completeOperation; split <;> rfl
@[simp] theorem State.completeOperation_batteryLow (s : State) : (s.completeOperation).batteryLow = s.batteryLow := by unfold State.completeOperation; split <;> rfl
@[simp] theorem State.completeOperation_tickets (s : State) : (s.completeOperation).tickets = s.tickets := by unfold State.completeOperation; split <;> rfl
@[simp] theorem State.completeOperation_holds (s : State) : (s.completeOperation).holds = s.holds := by unfold State.completeOperation; split <;> rfl
@[simp] theorem State.completeOperation_holdOrder (s : State) : (s.completeOperation).holdOrder = s.holdOrder := by unfold State.completeOperation; split <;> rfl
@[simp] theorem State.completeOperation_register (s : State) : (s.completeOperation).register = s.register := by unfold State.completeOperation; split <;> rfl
@[simp] theorem State.completeOperation_watch (s : State) : (s.completeOperation).watch = s.watch := by unfold State.completeOperation; split <;> rfl
@[simp] theorem State.completeOperation_tariff (s : State) : (s.completeOperation).tariff = s.tariff := by unfold State.completeOperation; split <;> rfl
@[simp] theorem State.completeOperation_till (s : State) : (s.completeOperation).till = s.till := by unfold State.completeOperation; split <;> rfl
@[simp] theorem State.completeOperation_clock (s : State) : (s.completeOperation).clock = s.clock := by unfold State.completeOperation; split <;> rfl
@[simp] theorem State.completeOperation_edges (s : State) : (s.completeOperation).edges = s.edges := by unfold State.completeOperation; split <;> rfl
@[simp] theorem State.completeOperation_retentionMark (s : State) : (s.completeOperation).retentionMark = s.retentionMark := by unfold State.completeOperation; split <;> rfl
@[simp] theorem State.completeOperation_batteryFall (s : State) : (s.completeOperation).batteryFall = s.batteryFall := by unfold State.completeOperation; split <;> rfl
@[simp] theorem State.completeOperation_settings (s : State) : (s.completeOperation).settings = s.settings := by unfold State.completeOperation; split <;> rfl
@[simp] theorem State.completeOperation_image (s : State) : (s.completeOperation).image = s.image := by unfold State.completeOperation; split <;> rfl
@[simp] theorem State.completeOperation_saving (s : State) : (s.completeOperation).saving = s.saving := by unfold State.completeOperation; split <;> rfl
@[simp] theorem State.completeOperation_lanes (s : State) : (s.completeOperation).lanes = s.lanes := by unfold State.completeOperation; split <;> rfl
@[simp] theorem State.completeOperation_ports (s : State) : (s.completeOperation).ports = s.ports := by unfold State.completeOperation; split <;> rfl
@[simp] theorem State.completeOperation_payTimer (s : State) : (s.completeOperation).payTimer = s.payTimer := by unfold State.completeOperation; split <;> rfl
@[simp] theorem State.completeOperation_setPending (s : State) : (s.completeOperation).setPending = s.setPending := by unfold State.completeOperation; split <;> rfl
@[simp] theorem State.completeOperation_freeIndex (s : State) : (s.completeOperation).freeIndex = s.freeIndex := by unfold State.completeOperation; split <;> rfl
@[simp] theorem State.completeOperation_pending (s : State) : (s.completeOperation).pending = s.pending := by unfold State.completeOperation; split <;> rfl

/-! ### `State.raiseOrBusy` -/

@[simp] theorem State.raiseOrBusy_phase (s : State) (l : Link) (op : OfficeOp) : (s.raiseOrBusy l op).phase = s.phase := by unfold State.raiseOrBusy; split <;> rfl
@[simp] theorem State.raiseOrBusy_key (s : State) (l : Link) (op : OfficeOp) : (s.raiseOrBusy l op).key = s.key := by unfold State.raiseOrBusy; split <;> rfl
@[simp] theorem State.raiseOrBusy_batteryLow (s : State) (l : Link) (op : OfficeOp) : (s.raiseOrBusy l op).batteryLow = s.batteryLow := by unfold State.raiseOrBusy; split <;> rfl
@[simp] theorem State.raiseOrBusy_tickets (s : State) (l : Link) (op : OfficeOp) : (s.raiseOrBusy l op).tickets = s.tickets := by unfold State.raiseOrBusy; split <;> rfl
@[simp] theorem State.raiseOrBusy_holds (s : State) (l : Link) (op : OfficeOp) : (s.raiseOrBusy l op).holds = s.holds := by unfold State.raiseOrBusy; split <;> rfl
@[simp] theorem State.raiseOrBusy_holdOrder (s : State) (l : Link) (op : OfficeOp) : (s.raiseOrBusy l op).holdOrder = s.holdOrder := by unfold State.raiseOrBusy; split <;> rfl
@[simp] theorem State.raiseOrBusy_register (s : State) (l : Link) (op : OfficeOp) : (s.raiseOrBusy l op).register = s.register := by unfold State.raiseOrBusy; split <;> rfl
@[simp] theorem State.raiseOrBusy_watch (s : State) (l : Link) (op : OfficeOp) : (s.raiseOrBusy l op).watch = s.watch := by unfold State.raiseOrBusy; split <;> rfl
@[simp] theorem State.raiseOrBusy_tariff (s : State) (l : Link) (op : OfficeOp) : (s.raiseOrBusy l op).tariff = s.tariff := by unfold State.raiseOrBusy; split <;> rfl
@[simp] theorem State.raiseOrBusy_till (s : State) (l : Link) (op : OfficeOp) : (s.raiseOrBusy l op).till = s.till := by unfold State.raiseOrBusy; split <;> rfl
@[simp] theorem State.raiseOrBusy_clock (s : State) (l : Link) (op : OfficeOp) : (s.raiseOrBusy l op).clock = s.clock := by unfold State.raiseOrBusy; split <;> rfl
@[simp] theorem State.raiseOrBusy_edges (s : State) (l : Link) (op : OfficeOp) : (s.raiseOrBusy l op).edges = s.edges := by unfold State.raiseOrBusy; split <;> rfl
@[simp] theorem State.raiseOrBusy_retentionMark (s : State) (l : Link) (op : OfficeOp) : (s.raiseOrBusy l op).retentionMark = s.retentionMark := by unfold State.raiseOrBusy; split <;> rfl
@[simp] theorem State.raiseOrBusy_batteryFall (s : State) (l : Link) (op : OfficeOp) : (s.raiseOrBusy l op).batteryFall = s.batteryFall := by unfold State.raiseOrBusy; split <;> rfl
@[simp] theorem State.raiseOrBusy_settings (s : State) (l : Link) (op : OfficeOp) : (s.raiseOrBusy l op).settings = s.settings := by unfold State.raiseOrBusy; split <;> rfl
@[simp] theorem State.raiseOrBusy_image (s : State) (l : Link) (op : OfficeOp) : (s.raiseOrBusy l op).image = s.image := by unfold State.raiseOrBusy; split <;> rfl
@[simp] theorem State.raiseOrBusy_saving (s : State) (l : Link) (op : OfficeOp) : (s.raiseOrBusy l op).saving = s.saving := by unfold State.raiseOrBusy; split <;> rfl
@[simp] theorem State.raiseOrBusy_lanes (s : State) (l : Link) (op : OfficeOp) : (s.raiseOrBusy l op).lanes = s.lanes := by unfold State.raiseOrBusy; split <;> rfl
@[simp] theorem State.raiseOrBusy_payTimer (s : State) (l : Link) (op : OfficeOp) : (s.raiseOrBusy l op).payTimer = s.payTimer := by unfold State.raiseOrBusy; split <;> rfl
@[simp] theorem State.raiseOrBusy_setPending (s : State) (l : Link) (op : OfficeOp) : (s.raiseOrBusy l op).setPending = s.setPending := by unfold State.raiseOrBusy; split <;> rfl
@[simp] theorem State.raiseOrBusy_freeIndex (s : State) (l : Link) (op : OfficeOp) : (s.raiseOrBusy l op).freeIndex = s.freeIndex := by unfold State.raiseOrBusy; split <;> rfl
@[simp] theorem State.raiseOrBusy_pending (s : State) (l : Link) (op : OfficeOp) : (s.raiseOrBusy l op).pending = s.pending := by unfold State.raiseOrBusy; split <;> rfl

/-! ### The changed fields -/

@[simp] theorem State.modifyLane_lanes (s : State) (n : Lane) (f : Intake → Intake) : (s.modifyLane n f).lanes = s.lanes.modify n f := rfl
@[simp] theorem State.modifyPort_ports (s : State) (l : Link) (f : Port → Port) : (s.modifyPort l f).ports = s.ports.modify l f := rfl
@[simp] theorem State.modifyArbiter_arbiter (s : State) (f : Arbiter → Arbiter) : (s.modifyArbiter f).arbiter = f s.arbiter := rfl
@[simp] theorem State.modifyEdges_edges (s : State) (f : Edges → Edges) : (s.modifyEdges f).edges = f s.edges := rfl
@[simp] theorem State.withKey_key (s : State) (b : Bool) : (s.withKey b).key = b := rfl

/-! ### Cells of tables, lanes and links -/

@[simp] theorem PerLane.get_fill {α : Type} (x : α) (n : Lane) : (PerLane.fill x).get n = x := by cases n <;> rfl
@[simp] theorem PerLink.get_fill {α : Type} (x : α) (l : Link) : (PerLink.fill x).get l = x := by cases l <;> simp [PerLink.fill, PerLink.get]
@[simp] theorem PerLane.get_map {α β : Type} (f : α → β) (p : PerLane α) (n : Lane) : (p.map f).get n = f (p.get n) := by cases n <;> rfl
@[simp] theorem PerLink.get_map {α β : Type} (f : α → β) (p : PerLink α) (l : Link) : (p.map f).get l = f (p.get l) := by
  cases l <;> simp [PerLink.map, PerLink.get]

@[simp] theorem PerLane.get_modify_same {α : Type} (p : PerLane α) (n : Lane) (f : α → α) : (p.modify n f).get n = f (p.get n) := by
  cases n <;> rfl

theorem PerLane.get_modify {α : Type} (p : PerLane α) (n m : Lane) (f : α → α) :
    (p.modify n f).get m = if m = n then f (p.get m) else p.get m := by
  cases n <;> cases m <;> rfl

@[simp] theorem PerLink.get_modify_same {α : Type} (p : PerLink α) (l : Link) (f : α → α) : (p.modify l f).get l = f (p.get l) := by
  cases l <;> simp [PerLink.modify, PerLink.get]

theorem PerLink.get_modify {α : Type} (p : PerLink α) (l m : Link) (f : α → α) :
    (p.modify l f).get m = if m = l then f (p.get m) else p.get m := by
  cases l <;> cases m <;> simp [PerLink.modify, PerLink.get, PerLane.get_modify]

@[simp] theorem Table.get_fill {α : Type} {n : Nat} (x : α) (i : Fin n) : (Table.fill n x).get i = x := by
  simp [Table.fill, Table.get]

@[simp] theorem Table.get_set_same {α : Type} {n : Nat} (t : Table α n) (i : Fin n) (x : α) : (t.set i x).get i = x := by
  simp [Table.set, Table.get]

theorem Table.get_set {α : Type} {n : Nat} (t : Table α n) (i j : Fin n) (x : α) :
    (t.set i x).get j = if i = j then x else t.get j := by
  simp [Table.set, Table.get, List.getElem_set, Fin.ext_iff]

@[simp] theorem Table.get_map {α β : Type} {n : Nat} (f : α → β) (t : Table α n) (i : Fin n) : (t.map f).get i = f (t.get i) := by
  simp [Table.map, Table.get]

theorem Table.get_modify {α : Type} {n : Nat} (t : Table α n) (i j : Fin n) (f : α → α) :
    (t.modify i f).get j = if i = j then f (t.get j) else t.get j := by
  unfold Table.modify; rw [Table.get_set]; split
  · rename_i h; rw [h]
  · rfl

@[simp] theorem Table.get_modify_same {α : Type} {n : Nat} (t : Table α n) (i : Fin n) (f : α → α) : (t.modify i f).get i = f (t.get i) := by
  rw [Table.get_modify, if_pos rfl]

/-! ### The parts of the state after an update -/

@[simp] theorem State.modifyLane_lane_same (s : State) (n : Lane) (f : Intake → Intake) : (s.modifyLane n f).lane n = f (s.lane n) := by
  simp [State.lane]

theorem State.modifyLane_lane (s : State) (n m : Lane) (f : Intake → Intake) :
    (s.modifyLane n f).lane m = if m = n then f (s.lane m) else s.lane m := by
  simp [State.lane, PerLane.get_modify]

@[simp] theorem State.modifyLane_port (s : State) (n : Lane) (f : Intake → Intake) (l : Link) : (s.modifyLane n f).port l = s.port l := rfl

@[simp] theorem State.modifyPort_port_same (s : State) (l : Link) (f : Port → Port) : (s.modifyPort l f).port l = f (s.port l) := by
  simp [State.port]

theorem State.modifyPort_port (s : State) (l m : Link) (f : Port → Port) :
    (s.modifyPort l f).port m = if m = l then f (s.port m) else s.port m := by
  simp [State.port, PerLink.get_modify]

@[simp] theorem State.modifyPort_lane (s : State) (l : Link) (f : Port → Port) (n : Lane) : (s.modifyPort l f).lane n = s.lane n := rfl

@[simp] theorem State.modifyTicket_ticketAt_same (s : State) (i : Fin 24) (f : Ticket → Ticket) :
    (s.modifyTicket i f).ticketAt i = (s.ticketAt i).map f := by
  simp [State.ticketAt, State.modifyTicket]

theorem State.modifyTicket_ticketAt (s : State) (i j : Fin 24) (f : Ticket → Ticket) :
    (s.modifyTicket i f).ticketAt j = if i = j then (s.ticketAt j).map f else s.ticketAt j := by
  simp only [State.ticketAt, State.modifyTicket, Table.get_modify]; split <;> rfl

@[simp] theorem State.modifyTicket_ticketNumber (s : State) (i j : Fin 24) (f : Ticket → Ticket) :
    (s.modifyTicket i f).ticketNumber j = s.ticketNumber j := by
  simp only [State.ticketNumber, State.modifyTicket, Table.get_modify]; split <;> rfl

end Sys2Proof.Machine
end

