-- ==== Sys2Proof/Laws/Frames.lean ====
section
/-! SUPPORT. What each operation over the tables, the lanes and the starts leaves as it is, one lemma per field. -/

namespace Sys2Proof.Machine

open Sys2Proof

/-- A fold of a step that keeps a view keeps the view. -/
theorem fold_keeps {α β : Type} (view : State → β) (f : State → α → State) (h : ∀ s a, view (f s a) = view s) :
    ∀ (as : List α) (s : State), view (as.foldl f s) = view s
  | [], _ => rfl
  | a :: as, s => (fold_keeps view f h as (f s a)).trans (h s a)

/-! ### `State.priceTest` -/

@[simp] theorem State.priceTest_phase (s : State) (i : Fin 24) : (s.priceTest i).phase = s.phase := by
  unfold State.priceTest; split <;> (try split) <;> rfl
@[simp] theorem State.priceTest_key (s : State) (i : Fin 24) : (s.priceTest i).key = s.key := by
  unfold State.priceTest; split <;> (try split) <;> rfl
@[simp] theorem State.priceTest_batteryLow (s : State) (i : Fin 24) : (s.priceTest i).batteryLow = s.batteryLow := by
  unfold State.priceTest; split <;> (try split) <;> rfl
@[simp] theorem State.priceTest_holds (s : State) (i : Fin 24) : (s.priceTest i).holds = s.holds := by
  unfold State.priceTest; split <;> (try split) <;> rfl
@[simp] theorem State.priceTest_holdOrder (s : State) (i : Fin 24) : (s.priceTest i).holdOrder = s.holdOrder := by
  unfold State.priceTest; split <;> (try split) <;> rfl
@[simp] theorem State.priceTest_register (s : State) (i : Fin 24) : (s.priceTest i).register = s.register := by
  unfold State.priceTest; split <;> (try split) <;> rfl
@[simp] theorem State.priceTest_watch (s : State) (i : Fin 24) : (s.priceTest i).watch = s.watch := by
  unfold State.priceTest; split <;> (try split) <;> rfl
@[simp] theorem State.priceTest_till (s : State) (i : Fin 24) : (s.priceTest i).till = s.till := by
  unfold State.priceTest; split <;> (try split) <;> rfl
@[simp] theorem State.priceTest_clock (s : State) (i : Fin 24) : (s.priceTest i).clock = s.clock := by
  unfold State.priceTest; split <;> (try split) <;> rfl
@[simp] theorem State.priceTest_edges (s : State) (i : Fin 24) : (s.priceTest i).edges = s.edges := by
  unfold State.priceTest; split <;> (try split) <;> rfl
@[simp] theorem State.priceTest_retentionMark (s : State) (i : Fin 24) : (s.priceTest i).retentionMark = s.retentionMark := by
  unfold State.priceTest; split <;> (try split) <;> rfl
@[simp] theorem State.priceTest_batteryFall (s : State) (i : Fin 24) : (s.priceTest i).batteryFall = s.batteryFall := by
  unfold State.priceTest; split <;> (try split) <;> rfl
@[simp] theorem State.priceTest_settings (s : State) (i : Fin 24) : (s.priceTest i).settings = s.settings := by
  unfold State.priceTest; split <;> (try split) <;> rfl
@[simp] theorem State.priceTest_image (s : State) (i : Fin 24) : (s.priceTest i).image = s.image := by
  unfold State.priceTest; split <;> (try split) <;> rfl
@[simp] theorem State.priceTest_saving (s : State) (i : Fin 24) : (s.priceTest i).saving = s.saving := by
  unfold State.priceTest; split <;> (try split) <;> rfl
@[simp] theorem State.priceTest_lanes (s : State) (i : Fin 24) : (s.priceTest i).lanes = s.lanes := by
  unfold State.priceTest; split <;> (try split) <;> rfl
@[simp] theorem State.priceTest_ports (s : State) (i : Fin 24) : (s.priceTest i).ports = s.ports := by
  unfold State.priceTest; split <;> (try split) <;> rfl
@[simp] theorem State.priceTest_arbiter (s : State) (i : Fin 24) : (s.priceTest i).arbiter = s.arbiter := by
  unfold State.priceTest; split <;> (try split) <;> rfl
@[simp] theorem State.priceTest_payTimer (s : State) (i : Fin 24) : (s.priceTest i).payTimer = s.payTimer := by
  unfold State.priceTest; split <;> (try split) <;> rfl
@[simp] theorem State.priceTest_setPending (s : State) (i : Fin 24) : (s.priceTest i).setPending = s.setPending := by
  unfold State.priceTest; split <;> (try split) <;> rfl
@[simp] theorem State.priceTest_freeIndex (s : State) (i : Fin 24) : (s.priceTest i).freeIndex = s.freeIndex := by
  unfold State.priceTest; split <;> (try split) <;> rfl
@[simp] theorem State.priceTest_pending (s : State) (i : Fin 24) : (s.priceTest i).pending = s.pending := by
  unfold State.priceTest; split <;> (try split) <;> rfl

/-! ### `State.ticketRelease` -/

@[simp] theorem State.ticketRelease_phase (s : State) (n : Lane) (number : Nat) (failed : Bool) : (s.ticketRelease n number failed).phase = s.phase := by
  unfold State.ticketRelease; dsimp only; (repeat' split) <;> simp
@[simp] theorem State.ticketRelease_key (s : State) (n : Lane) (number : Nat) (failed : Bool) : (s.ticketRelease n number failed).key = s.key := by
  unfold State.ticketRelease; dsimp only; (repeat' split) <;> simp
@[simp] theorem State.ticketRelease_batteryLow (s : State) (n : Lane) (number : Nat) (failed : Bool) : (s.ticketRelease n number failed).batteryLow = s.batteryLow := by
  unfold State.ticketRelease; dsimp only; (repeat' split) <;> simp
@[simp] theorem State.ticketRelease_holds (s : State) (n : Lane) (number : Nat) (failed : Bool) : (s.ticketRelease n number failed).holds = s.holds := by
  unfold State.ticketRelease; dsimp only; (repeat' split) <;> simp
@[simp] theorem State.ticketRelease_holdOrder (s : State) (n : Lane) (number : Nat) (failed : Bool) : (s.ticketRelease n number failed).holdOrder = s.holdOrder := by
  unfold State.ticketRelease; dsimp only; (repeat' split) <;> simp
@[simp] theorem State.ticketRelease_register (s : State) (n : Lane) (number : Nat) (failed : Bool) : (s.ticketRelease n number failed).register = s.register := by
  unfold State.ticketRelease; dsimp only; (repeat' split) <;> simp
@[simp] theorem State.ticketRelease_watch (s : State) (n : Lane) (number : Nat) (failed : Bool) : (s.ticketRelease n number failed).watch = s.watch := by
  unfold State.ticketRelease; dsimp only; (repeat' split) <;> simp
@[simp] theorem State.ticketRelease_till (s : State) (n : Lane) (number : Nat) (failed : Bool) : (s.ticketRelease n number failed).till = s.till := by
  unfold State.ticketRelease; dsimp only; (repeat' split) <;> simp
@[simp] theorem State.ticketRelease_clock (s : State) (n : Lane) (number : Nat) (failed : Bool) : (s.ticketRelease n number failed).clock = s.clock := by
  unfold State.ticketRelease; dsimp only; (repeat' split) <;> simp
@[simp] theorem State.ticketRelease_edges (s : State) (n : Lane) (number : Nat) (failed : Bool) : (s.ticketRelease n number failed).edges = s.edges := by
  unfold State.ticketRelease; dsimp only; (repeat' split) <;> simp
@[simp] theorem State.ticketRelease_retentionMark (s : State) (n : Lane) (number : Nat) (failed : Bool) : (s.ticketRelease n number failed).retentionMark = s.retentionMark := by
  unfold State.ticketRelease; dsimp only; (repeat' split) <;> simp
@[simp] theorem State.ticketRelease_batteryFall (s : State) (n : Lane) (number : Nat) (failed : Bool) : (s.ticketRelease n number failed).batteryFall = s.batteryFall := by
  unfold State.ticketRelease; dsimp only; (repeat' split) <;> simp
@[simp] theorem State.ticketRelease_settings (s : State) (n : Lane) (number : Nat) (failed : Bool) : (s.ticketRelease n number failed).settings = s.settings := by
  unfold State.ticketRelease; dsimp only; (repeat' split) <;> simp
@[simp] theorem State.ticketRelease_image (s : State) (n : Lane) (number : Nat) (failed : Bool) : (s.ticketRelease n number failed).image = s.image := by
  unfold State.ticketRelease; dsimp only; (repeat' split) <;> simp
@[simp] theorem State.ticketRelease_saving (s : State) (n : Lane) (number : Nat) (failed : Bool) : (s.ticketRelease n number failed).saving = s.saving := by
  unfold State.ticketRelease; dsimp only; (repeat' split) <;> simp
@[simp] theorem State.ticketRelease_lanes (s : State) (n : Lane) (number : Nat) (failed : Bool) : (s.ticketRelease n number failed).lanes = s.lanes := by
  unfold State.ticketRelease; dsimp only; (repeat' split) <;> simp
@[simp] theorem State.ticketRelease_ports (s : State) (n : Lane) (number : Nat) (failed : Bool) : (s.ticketRelease n number failed).ports = s.ports := by
  unfold State.ticketRelease; dsimp only; (repeat' split) <;> simp
@[simp] theorem State.ticketRelease_arbiter (s : State) (n : Lane) (number : Nat) (failed : Bool) : (s.ticketRelease n number failed).arbiter = s.arbiter := by
  unfold State.ticketRelease; dsimp only; (repeat' split) <;> simp
@[simp] theorem State.ticketRelease_payTimer (s : State) (n : Lane) (number : Nat) (failed : Bool) : (s.ticketRelease n number failed).payTimer = s.payTimer := by
  unfold State.ticketRelease; dsimp only; (repeat' split) <;> simp
@[simp] theorem State.ticketRelease_setPending (s : State) (n : Lane) (number : Nat) (failed : Bool) : (s.ticketRelease n number failed).setPending = s.setPending := by
  unfold State.ticketRelease; dsimp only; (repeat' split) <;> simp
@[simp] theorem State.ticketRelease_freeIndex (s : State) (n : Lane) (number : Nat) (failed : Bool) : (s.ticketRelease n number failed).freeIndex = s.freeIndex := by
  unfold State.ticketRelease; dsimp only; (repeat' split) <;> simp
@[simp] theorem State.ticketRelease_pending (s : State) (n : Lane) (number : Nat) (failed : Bool) : (s.ticketRelease n number failed).pending = s.pending := by
  unfold State.ticketRelease; dsimp only; (repeat' split) <;> simp

/-! ### `State.releaseBatch` -/

@[simp] theorem State.releaseBatch_phase (s : State) (n : Lane) (lost : Bool) : (s.releaseBatch n lost).phase = s.phase := by
  unfold State.releaseBatch; dsimp only; (repeat' split) <;> simp
@[simp] theorem State.releaseBatch_key (s : State) (n : Lane) (lost : Bool) : (s.releaseBatch n lost).key = s.key := by
  unfold State.releaseBatch; dsimp only; (repeat' split) <;> simp
@[simp] theorem State.releaseBatch_batteryLow (s : State) (n : Lane) (lost : Bool) : (s.releaseBatch n lost).batteryLow = s.batteryLow := by
  unfold State.releaseBatch; dsimp only; (repeat' split) <;> simp
@[simp] theorem State.releaseBatch_holds (s : State) (n : Lane) (lost : Bool) : (s.releaseBatch n lost).holds = s.holds := by
  unfold State.releaseBatch; dsimp only; (repeat' split) <;> simp
@[simp] theorem State.releaseBatch_holdOrder (s : State) (n : Lane) (lost : Bool) : (s.releaseBatch n lost).holdOrder = s.holdOrder := by
  unfold State.releaseBatch; dsimp only; (repeat' split) <;> simp
@[simp] theorem State.releaseBatch_register (s : State) (n : Lane) (lost : Bool) : (s.releaseBatch n lost).register = s.register := by
  unfold State.releaseBatch; dsimp only; (repeat' split) <;> simp
@[simp] theorem State.releaseBatch_watch (s : State) (n : Lane) (lost : Bool) : (s.releaseBatch n lost).watch = s.watch := by
  unfold State.releaseBatch; dsimp only; (repeat' split) <;> simp
@[simp] theorem State.releaseBatch_till (s : State) (n : Lane) (lost : Bool) : (s.releaseBatch n lost).till = s.till := by
  unfold State.releaseBatch; dsimp only; (repeat' split) <;> simp
@[simp] theorem State.releaseBatch_clock (s : State) (n : Lane) (lost : Bool) : (s.releaseBatch n lost).clock = s.clock := by
  unfold State.releaseBatch; dsimp only; (repeat' split) <;> simp
@[simp] theorem State.releaseBatch_edges (s : State) (n : Lane) (lost : Bool) : (s.releaseBatch n lost).edges = s.edges := by
  unfold State.releaseBatch; dsimp only; (repeat' split) <;> simp
@[simp] theorem State.releaseBatch_retentionMark (s : State) (n : Lane) (lost : Bool) : (s.releaseBatch n lost).retentionMark = s.retentionMark := by
  unfold State.releaseBatch; dsimp only; (repeat' split) <;> simp
@[simp] theorem State.releaseBatch_batteryFall (s : State) (n : Lane) (lost : Bool) : (s.releaseBatch n lost).batteryFall = s.batteryFall := by
  unfold State.releaseBatch; dsimp only; (repeat' split) <;> simp
@[simp] theorem State.releaseBatch_settings (s : State) (n : Lane) (lost : Bool) : (s.releaseBatch n lost).settings = s.settings := by
  unfold State.releaseBatch; dsimp only; (repeat' split) <;> simp
@[simp] theorem State.releaseBatch_image (s : State) (n : Lane) (lost : Bool) : (s.releaseBatch n lost).image = s.image := by
  unfold State.releaseBatch; dsimp only; (repeat' split) <;> simp
@[simp] theorem State.releaseBatch_saving (s : State) (n : Lane) (lost : Bool) : (s.releaseBatch n lost).saving = s.saving := by
  unfold State.releaseBatch; dsimp only; (repeat' split) <;> simp
@[simp] theorem State.releaseBatch_arbiter (s : State) (n : Lane) (lost : Bool) : (s.releaseBatch n lost).arbiter = s.arbiter := by
  unfold State.releaseBatch; dsimp only; (repeat' split) <;> simp
@[simp] theorem State.releaseBatch_payTimer (s : State) (n : Lane) (lost : Bool) : (s.releaseBatch n lost).payTimer = s.payTimer := by
  unfold State.releaseBatch; dsimp only; (repeat' split) <;> simp
@[simp] theorem State.releaseBatch_setPending (s : State) (n : Lane) (lost : Bool) : (s.releaseBatch n lost).setPending = s.setPending := by
  unfold State.releaseBatch; dsimp only; (repeat' split) <;> simp
@[simp] theorem State.releaseBatch_freeIndex (s : State) (n : Lane) (lost : Bool) : (s.releaseBatch n lost).freeIndex = s.freeIndex := by
  unfold State.releaseBatch; dsimp only; (repeat' split) <;> simp
@[simp] theorem State.releaseBatch_pending (s : State) (n : Lane) (lost : Bool) : (s.releaseBatch n lost).pending = s.pending := by
  unfold State.releaseBatch; dsimp only; (repeat' split) <;> simp

/-! ### `State.closeBatch` -/

@[simp] theorem State.closeBatch_phase (s : State) (n : Lane) (why : CloseReason) : (s.closeBatch n why).phase = s.phase := by
  unfold State.closeBatch; dsimp only; (repeat' split) <;> simp
@[simp] theorem State.closeBatch_key (s : State) (n : Lane) (why : CloseReason) : (s.closeBatch n why).key = s.key := by
  unfold State.closeBatch; dsimp only; (repeat' split) <;> simp
@[simp] theorem State.closeBatch_batteryLow (s : State) (n : Lane) (why : CloseReason) : (s.closeBatch n why).batteryLow = s.batteryLow := by
  unfold State.closeBatch; dsimp only; (repeat' split) <;> simp
@[simp] theorem State.closeBatch_holds (s : State) (n : Lane) (why : CloseReason) : (s.closeBatch n why).holds = s.holds := by
  unfold State.closeBatch; dsimp only; (repeat' split) <;> simp
@[simp] theorem State.closeBatch_holdOrder (s : State) (n : Lane) (why : CloseReason) : (s.closeBatch n why).holdOrder = s.holdOrder := by
  unfold State.closeBatch; dsimp only; (repeat' split) <;> simp
@[simp] theorem State.closeBatch_register (s : State) (n : Lane) (why : CloseReason) : (s.closeBatch n why).register = s.register := by
  unfold State.closeBatch; dsimp only; (repeat' split) <;> simp
@[simp] theorem State.closeBatch_watch (s : State) (n : Lane) (why : CloseReason) : (s.closeBatch n why).watch = s.watch := by
  unfold State.closeBatch; dsimp only; (repeat' split) <;> simp
@[simp] theorem State.closeBatch_till (s : State) (n : Lane) (why : CloseReason) : (s.closeBatch n why).till = s.till := by
  unfold State.closeBatch; dsimp only; (repeat' split) <;> simp
@[simp] theorem State.closeBatch_clock (s : State) (n : Lane) (why : CloseReason) : (s.closeBatch n why).clock = s.clock := by
  unfold State.closeBatch; dsimp only; (repeat' split) <;> simp
@[simp] theorem State.closeBatch_edges (s : State) (n : Lane) (why : CloseReason) : (s.closeBatch n why).edges = s.edges := by
  unfold State.closeBatch; dsimp only; (repeat' split) <;> simp
@[simp] theorem State.closeBatch_retentionMark (s : State) (n : Lane) (why : CloseReason) : (s.closeBatch n why).retentionMark = s.retentionMark := by
  unfold State.closeBatch; dsimp only; (repeat' split) <;> simp
@[simp] theorem State.closeBatch_batteryFall (s : State) (n : Lane) (why : CloseReason) : (s.closeBatch n why).batteryFall = s.batteryFall := by
  unfold State.closeBatch; dsimp only; (repeat' split) <;> simp
@[simp] theorem State.closeBatch_settings (s : State) (n : Lane) (why : CloseReason) : (s.closeBatch n why).settings = s.settings := by
  unfold State.closeBatch; dsimp only; (repeat' split) <;> simp
@[simp] theorem State.closeBatch_image (s : State) (n : Lane) (why : CloseReason) : (s.closeBatch n why).image = s.image := by
  unfold State.closeBatch; dsimp only; (repeat' split) <;> simp
@[simp] theorem State.closeBatch_saving (s : State) (n : Lane) (why : CloseReason) : (s.closeBatch n why).saving = s.saving := by
  unfold State.closeBatch; dsimp only; (repeat' split) <;> simp
@[simp] theorem State.closeBatch_arbiter (s : State) (n : Lane) (why : CloseReason) : (s.closeBatch n why).arbiter = s.arbiter := by
  unfold State.closeBatch; dsimp only; (repeat' split) <;> simp
@[simp] theorem State.closeBatch_payTimer (s : State) (n : Lane) (why : CloseReason) : (s.closeBatch n why).payTimer = s.payTimer := by
  unfold State.closeBatch; dsimp only; (repeat' split) <;> simp
@[simp] theorem State.closeBatch_setPending (s : State) (n : Lane) (why : CloseReason) : (s.closeBatch n why).setPending = s.setPending := by
  unfold State.closeBatch; dsimp only; (repeat' split) <;> simp
@[simp] theorem State.closeBatch_freeIndex (s : State) (n : Lane) (why : CloseReason) : (s.closeBatch n why).freeIndex = s.freeIndex := by
  unfold State.closeBatch; dsimp only; (repeat' split) <;> simp
@[simp] theorem State.closeBatch_pending (s : State) (n : Lane) (why : CloseReason) : (s.closeBatch n why).pending = s.pending := by
  unfold State.closeBatch; dsimp only; (repeat' split) <;> simp

/-! ### `State.enterDown` -/

@[simp] theorem State.enterDown_phase (s : State) (n : Lane) : (s.enterDown n).phase = s.phase := by simp [State.enterDown]
@[simp] theorem State.enterDown_key (s : State) (n : Lane) : (s.enterDown n).key = s.key := by simp [State.enterDown]
@[simp] theorem State.enterDown_batteryLow (s : State) (n : Lane) : (s.enterDown n).batteryLow = s.batteryLow := by simp [State.enterDown]
@[simp] theorem State.enterDown_holds (s : State) (n : Lane) : (s.enterDown n).holds = s.holds := by simp [State.enterDown]
@[simp] theorem State.enterDown_holdOrder (s : State) (n : Lane) : (s.enterDown n).holdOrder = s.holdOrder := by simp [State.enterDown]
@[simp] theorem State.enterDown_register (s : State) (n : Lane) : (s.enterDown n).register = s.register := by simp [State.enterDown]
@[simp] theorem State.enterDown_watch (s : State) (n : Lane) : (s.enterDown n).watch = s.watch := by simp [State.enterDown]
@[simp] theorem State.enterDown_till (s : State) (n : Lane) : (s.enterDown n).till = s.till := by simp [State.enterDown]
@[simp] theorem State.enterDown_clock (s : State) (n : Lane) : (s.enterDown n).clock = s.clock := by simp [State.enterDown]
@[simp] theorem State.enterDown_retentionMark (s : State) (n : Lane) : (s.enterDown n).retentionMark = s.retentionMark := by simp [State.enterDown]
@[simp] theorem State.enterDown_batteryFall (s : State) (n : Lane) : (s.enterDown n).batteryFall = s.batteryFall := by simp [State.enterDown]
@[simp] theorem State.enterDown_settings (s : State) (n : Lane) : (s.enterDown n).settings = s.settings := by simp [State.enterDown]
@[simp] theorem State.enterDown_image (s : State) (n : Lane) : (s.enterDown n).image = s.image := by simp [State.enterDown]
@[simp] theorem State.enterDown_saving (s : State) (n : Lane) : (s.enterDown n).saving = s.saving := by simp [State.enterDown]
@[simp] theorem State.enterDown_arbiter (s : State) (n : Lane) : (s.enterDown n).arbiter = s.arbiter := by simp [State.enterDown]
@[simp] theorem State.enterDown_payTimer (s : State) (n : Lane) : (s.enterDown n).payTimer = s.payTimer := by simp [State.enterDown]
@[simp] theorem State.enterDown_setPending (s : State) (n : Lane) : (s.enterDown n).setPending = s.setPending := by simp [State.enterDown]
@[simp] theorem State.enterDown_freeIndex (s : State) (n : Lane) : (s.enterDown n).freeIndex = s.freeIndex := by simp [State.enterDown]
@[simp] theorem State.enterDown_pending (s : State) (n : Lane) : (s.enterDown n).pending = s.pending := by simp [State.enterDown]

/-! ### `State.enterRefused` -/

@[simp] theorem State.enterRefused_phase (s : State) (n : Lane) (why : RefusalReason) : (s.enterRefused n why).phase = s.phase := rfl
@[simp] theorem State.enterRefused_key (s : State) (n : Lane) (why : RefusalReason) : (s.enterRefused n why).key = s.key := rfl
@[simp] theorem State.enterRefused_batteryLow (s : State) (n : Lane) (why : RefusalReason) : (s.enterRefused n why).batteryLow = s.batteryLow := rfl
@[simp] theorem State.enterRefused_tickets (s : State) (n : Lane) (why : RefusalReason) : (s.enterRefused n why).tickets = s.tickets := rfl
@[simp] theorem State.enterRefused_holds (s : State) (n : Lane) (why : RefusalReason) : (s.enterRefused n why).holds = s.holds := rfl
@[simp] theorem State.enterRefused_holdOrder (s : State) (n : Lane) (why : RefusalReason) : (s.enterRefused n why).holdOrder = s.holdOrder := rfl
@[simp] theorem State.enterRefused_register (s : State) (n : Lane) (why : RefusalReason) : (s.enterRefused n why).register = s.register := rfl
@[simp] theorem State.enterRefused_watch (s : State) (n : Lane) (why : RefusalReason) : (s.enterRefused n why).watch = s.watch := rfl
@[simp] theorem State.enterRefused_tariff (s : State) (n : Lane) (why : RefusalReason) : (s.enterRefused n why).tariff = s.tariff := rfl
@[simp] theorem State.enterRefused_till (s : State) (n : Lane) (why : RefusalReason) : (s.enterRefused n why).till = s.till := rfl
@[simp] theorem State.enterRefused_clock (s : State) (n : Lane) (why : RefusalReason) : (s.enterRefused n why).clock = s.clock := rfl
@[simp] theorem State.enterRefused_retentionMark (s : State) (n : Lane) (why : RefusalReason) : (s.enterRefused n why).retentionMark = s.retentionMark := rfl
@[simp] theorem State.enterRefused_batteryFall (s : State) (n : Lane) (why : RefusalReason) : (s.enterRefused n why).batteryFall = s.batteryFall := rfl
@[simp] theorem State.enterRefused_settings (s : State) (n : Lane) (why : RefusalReason) : (s.enterRefused n why).settings = s.settings := rfl
@[simp] theorem State.enterRefused_image (s : State) (n : Lane) (why : RefusalReason) : (s.enterRefused n why).image = s.image := rfl
@[simp] theorem State.enterRefused_saving (s : State) (n : Lane) (why : RefusalReason) : (s.enterRefused n why).saving = s.saving := rfl
@[simp] theorem State.enterRefused_ports (s : State) (n : Lane) (why : RefusalReason) : (s.enterRefused n why).ports = s.ports := rfl
@[simp] theorem State.enterRefused_arbiter (s : State) (n : Lane) (why : RefusalReason) : (s.enterRefused n why).arbiter = s.arbiter := rfl
@[simp] theorem State.enterRefused_payTimer (s : State) (n : Lane) (why : RefusalReason) : (s.enterRefused n why).payTimer = s.payTimer := rfl
@[simp] theorem State.enterRefused_setPending (s : State) (n : Lane) (why : RefusalReason) : (s.enterRefused n why).setPending = s.setPending := rfl
@[simp] theorem State.enterRefused_freeIndex (s : State) (n : Lane) (why : RefusalReason) : (s.enterRefused n why).freeIndex = s.freeIndex := rfl
@[simp] theorem State.enterRefused_pending (s : State) (n : Lane) (why : RefusalReason) : (s.enterRefused n why).pending = s.pending := rfl

/-! ### `State.flowAfterInsertion` -/

@[simp] theorem State.flowAfterInsertion_phase (s : State) (n : Lane) : (s.flowAfterInsertion n).phase = s.phase := by
  unfold State.flowAfterInsertion; dsimp only; (repeat' split) <;> simp
@[simp] theorem State.flowAfterInsertion_key (s : State) (n : Lane) : (s.flowAfterInsertion n).key = s.key := by
  unfold State.flowAfterInsertion; dsimp only; (repeat' split) <;> simp
@[simp] theorem State.flowAfterInsertion_batteryLow (s : State) (n : Lane) : (s.flowAfterInsertion n).batteryLow = s.batteryLow := by
  unfold State.flowAfterInsertion; dsimp only; (repeat' split) <;> simp
@[simp] theorem State.flowAfterInsertion_tickets (s : State) (n : Lane) : (s.flowAfterInsertion n).tickets = s.tickets := by
  unfold State.flowAfterInsertion; dsimp only; (repeat' split) <;> simp
@[simp] theorem State.flowAfterInsertion_holds (s : State) (n : Lane) : (s.flowAfterInsertion n).holds = s.holds := by
  unfold State.flowAfterInsertion; dsimp only; (repeat' split) <;> simp
@[simp] theorem State.flowAfterInsertion_holdOrder (s : State) (n : Lane) : (s.flowAfterInsertion n).holdOrder = s.holdOrder := by
  unfold State.flowAfterInsertion; dsimp only; (repeat' split) <;> simp
@[simp] theorem State.flowAfterInsertion_register (s : State) (n : Lane) : (s.flowAfterInsertion n).register = s.register := by
  unfold State.flowAfterInsertion; dsimp only; (repeat' split) <;> simp
@[simp] theorem State.flowAfterInsertion_watch (s : State) (n : Lane) : (s.flowAfterInsertion n).watch = s.watch := by
  unfold State.flowAfterInsertion; dsimp only; (repeat' split) <;> simp
@[simp] theorem State.flowAfterInsertion_tariff (s : State) (n : Lane) : (s.flowAfterInsertion n).tariff = s.tariff := by
  unfold State.flowAfterInsertion; dsimp only; (repeat' split) <;> simp
@[simp] theorem State.flowAfterInsertion_till (s : State) (n : Lane) : (s.flowAfterInsertion n).till = s.till := by
  unfold State.flowAfterInsertion; dsimp only; (repeat' split) <;> simp
@[simp] theorem State.flowAfterInsertion_clock (s : State) (n : Lane) : (s.flowAfterInsertion n).clock = s.clock := by
  unfold State.flowAfterInsertion; dsimp only; (repeat' split) <;> simp
@[simp] theorem State.flowAfterInsertion_edges (s : State) (n : Lane) : (s.flowAfterInsertion n).edges = s.edges := by
  unfold State.flowAfterInsertion; dsimp only; (repeat' split) <;> simp
@[simp] theorem State.flowAfterInsertion_retentionMark (s : State) (n : Lane) : (s.flowAfterInsertion n).retentionMark = s.retentionMark := by
  unfold State.flowAfterInsertion; dsimp only; (repeat' split) <;> simp
@[simp] theorem State.flowAfterInsertion_batteryFall (s : State) (n : Lane) : (s.flowAfterInsertion n).batteryFall = s.batteryFall := by
  unfold State.flowAfterInsertion; dsimp only; (repeat' split) <;> simp
@[simp] theorem State.flowAfterInsertion_settings (s : State) (n : Lane) : (s.flowAfterInsertion n).settings = s.settings := by
  unfold State.flowAfterInsertion; dsimp only; (repeat' split) <;> simp
@[simp] theorem State.flowAfterInsertion_image (s : State) (n : Lane) : (s.flowAfterInsertion n).image = s.image := by
  unfold State.flowAfterInsertion; dsimp only; (repeat' split) <;> simp
@[simp] theorem State.flowAfterInsertion_saving (s : State) (n : Lane) : (s.flowAfterInsertion n).saving = s.saving := by
  unfold State.flowAfterInsertion; dsimp only; (repeat' split) <;> simp
@[simp] theorem State.flowAfterInsertion_arbiter (s : State) (n : Lane) : (s.flowAfterInsertion n).arbiter = s.arbiter := by
  unfold State.flowAfterInsertion; dsimp only; (repeat' split) <;> simp
@[simp] theorem State.flowAfterInsertion_payTimer (s : State) (n : Lane) : (s.flowAfterInsertion n).payTimer = s.payTimer := by
  unfold State.flowAfterInsertion; dsimp only; (repeat' split) <;> simp
@[simp] theorem State.flowAfterInsertion_setPending (s : State) (n : Lane) : (s.flowAfterInsertion n).setPending = s.setPending := by
  unfold State.flowAfterInsertion; dsimp only; (repeat' split) <;> simp
@[simp] theorem State.flowAfterInsertion_freeIndex (s : State) (n : Lane) : (s.flowAfterInsertion n).freeIndex = s.freeIndex := by
  unfold State.flowAfterInsertion; dsimp only; (repeat' split) <;> simp
@[simp] theorem State.flowAfterInsertion_pending (s : State) (n : Lane) : (s.flowAfterInsertion n).pending = s.pending := by
  unfold State.flowAfterInsertion; dsimp only; (repeat' split) <;> simp

/-! ### `State.flowAfterRemoval` -/

@[simp] theorem State.flowAfterRemoval_phase (s : State) (n : Lane) : (s.flowAfterRemoval n).phase = s.phase := by
  unfold State.flowAfterRemoval; dsimp only; (repeat' split) <;> simp
@[simp] theorem State.flowAfterRemoval_key (s : State) (n : Lane) : (s.flowAfterRemoval n).key = s.key := by
  unfold State.flowAfterRemoval; dsimp only; (repeat' split) <;> simp
@[simp] theorem State.flowAfterRemoval_batteryLow (s : State) (n : Lane) : (s.flowAfterRemoval n).batteryLow = s.batteryLow := by
  unfold State.flowAfterRemoval; dsimp only; (repeat' split) <;> simp
@[simp] theorem State.flowAfterRemoval_tickets (s : State) (n : Lane) : (s.flowAfterRemoval n).tickets = s.tickets := by
  unfold State.flowAfterRemoval; dsimp only; (repeat' split) <;> simp
@[simp] theorem State.flowAfterRemoval_holds (s : State) (n : Lane) : (s.flowAfterRemoval n).holds = s.holds := by
  unfold State.flowAfterRemoval; dsimp only; (repeat' split) <;> simp
@[simp] theorem State.flowAfterRemoval_holdOrder (s : State) (n : Lane) : (s.flowAfterRemoval n).holdOrder = s.holdOrder := by
  unfold State.flowAfterRemoval; dsimp only; (repeat' split) <;> simp
@[simp] theorem State.flowAfterRemoval_register (s : State) (n : Lane) : (s.flowAfterRemoval n).register = s.register := by
  unfold State.flowAfterRemoval; dsimp only; (repeat' split) <;> simp
@[simp] theorem State.flowAfterRemoval_watch (s : State) (n : Lane) : (s.flowAfterRemoval n).watch = s.watch := by
  unfold State.flowAfterRemoval; dsimp only; (repeat' split) <;> simp
@[simp] theorem State.flowAfterRemoval_tariff (s : State) (n : Lane) : (s.flowAfterRemoval n).tariff = s.tariff := by
  unfold State.flowAfterRemoval; dsimp only; (repeat' split) <;> simp
@[simp] theorem State.flowAfterRemoval_till (s : State) (n : Lane) : (s.flowAfterRemoval n).till = s.till := by
  unfold State.flowAfterRemoval; dsimp only; (repeat' split) <;> simp
@[simp] theorem State.flowAfterRemoval_clock (s : State) (n : Lane) : (s.flowAfterRemoval n).clock = s.clock := by
  unfold State.flowAfterRemoval; dsimp only; (repeat' split) <;> simp
@[simp] theorem State.flowAfterRemoval_edges (s : State) (n : Lane) : (s.flowAfterRemoval n).edges = s.edges := by
  unfold State.flowAfterRemoval; dsimp only; (repeat' split) <;> simp
@[simp] theorem State.flowAfterRemoval_retentionMark (s : State) (n : Lane) : (s.flowAfterRemoval n).retentionMark = s.retentionMark := by
  unfold State.flowAfterRemoval; dsimp only; (repeat' split) <;> simp
@[simp] theorem State.flowAfterRemoval_batteryFall (s : State) (n : Lane) : (s.flowAfterRemoval n).batteryFall = s.batteryFall := by
  unfold State.flowAfterRemoval; dsimp only; (repeat' split) <;> simp
@[simp] theorem State.flowAfterRemoval_settings (s : State) (n : Lane) : (s.flowAfterRemoval n).settings = s.settings := by
  unfold State.flowAfterRemoval; dsimp only; (repeat' split) <;> simp
@[simp] theorem State.flowAfterRemoval_image (s : State) (n : Lane) : (s.flowAfterRemoval n).image = s.image := by
  unfold State.flowAfterRemoval; dsimp only; (repeat' split) <;> simp
@[simp] theorem State.flowAfterRemoval_saving (s : State) (n : Lane) : (s.flowAfterRemoval n).saving = s.saving := by
  unfold State.flowAfterRemoval; dsimp only; (repeat' split) <;> simp
@[simp] theorem State.flowAfterRemoval_arbiter (s : State) (n : Lane) : (s.flowAfterRemoval n).arbiter = s.arbiter := by
  unfold State.flowAfterRemoval; dsimp only; (repeat' split) <;> simp
@[simp] theorem State.flowAfterRemoval_payTimer (s : State) (n : Lane) : (s.flowAfterRemoval n).payTimer = s.payTimer := by
  unfold State.flowAfterRemoval; dsimp only; (repeat' split) <;> simp
@[simp] theorem State.flowAfterRemoval_setPending (s : State) (n : Lane) : (s.flowAfterRemoval n).setPending = s.setPending := by
  unfold State.flowAfterRemoval; dsimp only; (repeat' split) <;> simp
@[simp] theorem State.flowAfterRemoval_freeIndex (s : State) (n : Lane) : (s.flowAfterRemoval n).freeIndex = s.freeIndex := by
  unfold State.flowAfterRemoval; dsimp only; (repeat' split) <;> simp
@[simp] theorem State.flowAfterRemoval_pending (s : State) (n : Lane) : (s.flowAfterRemoval n).pending = s.pending := by
  unfold State.flowAfterRemoval; dsimp only; (repeat' split) <;> simp

/-! ### `State.removeHead` -/

@[simp] theorem State.removeHead_phase (s : State) (n : Lane) (e : Entry) : (s.removeHead n e).phase = s.phase := by
  unfold State.removeHead; dsimp only; (repeat' split) <;> simp
@[simp] theorem State.removeHead_key (s : State) (n : Lane) (e : Entry) : (s.removeHead n e).key = s.key := by
  unfold State.removeHead; dsimp only; (repeat' split) <;> simp
@[simp] theorem State.removeHead_batteryLow (s : State) (n : Lane) (e : Entry) : (s.removeHead n e).batteryLow = s.batteryLow := by
  unfold State.removeHead; dsimp only; (repeat' split) <;> simp
@[simp] theorem State.removeHead_holds (s : State) (n : Lane) (e : Entry) : (s.removeHead n e).holds = s.holds := by
  unfold State.removeHead; dsimp only; (repeat' split) <;> simp
@[simp] theorem State.removeHead_holdOrder (s : State) (n : Lane) (e : Entry) : (s.removeHead n e).holdOrder = s.holdOrder := by
  unfold State.removeHead; dsimp only; (repeat' split) <;> simp
@[simp] theorem State.removeHead_register (s : State) (n : Lane) (e : Entry) : (s.removeHead n e).register = s.register := by
  unfold State.removeHead; dsimp only; (repeat' split) <;> simp
@[simp] theorem State.removeHead_watch (s : State) (n : Lane) (e : Entry) : (s.removeHead n e).watch = s.watch := by
  unfold State.removeHead; dsimp only; (repeat' split) <;> simp
@[simp] theorem State.removeHead_till (s : State) (n : Lane) (e : Entry) : (s.removeHead n e).till = s.till := by
  unfold State.removeHead; dsimp only; (repeat' split) <;> simp
@[simp] theorem State.removeHead_clock (s : State) (n : Lane) (e : Entry) : (s.removeHead n e).clock = s.clock := by
  unfold State.removeHead; dsimp only; (repeat' split) <;> simp
@[simp] theorem State.removeHead_edges (s : State) (n : Lane) (e : Entry) : (s.removeHead n e).edges = s.edges := by
  unfold State.removeHead; dsimp only; (repeat' split) <;> simp
@[simp] theorem State.removeHead_retentionMark (s : State) (n : Lane) (e : Entry) : (s.removeHead n e).retentionMark = s.retentionMark := by
  unfold State.removeHead; dsimp only; (repeat' split) <;> simp
@[simp] theorem State.removeHead_batteryFall (s : State) (n : Lane) (e : Entry) : (s.removeHead n e).batteryFall = s.batteryFall := by
  unfold State.removeHead; dsimp only; (repeat' split) <;> simp
@[simp] theorem State.removeHead_settings (s : State) (n : Lane) (e : Entry) : (s.removeHead n e).settings = s.settings := by
  unfold State.removeHead; dsimp only; (repeat' split) <;> simp
@[simp] theorem State.removeHead_image (s : State) (n : Lane) (e : Entry) : (s.removeHead n e).image = s.image := by
  unfold State.removeHead; dsimp only; (repeat' split) <;> simp
@[simp] theorem State.removeHead_saving (s : State) (n : Lane) (e : Entry) : (s.removeHead n e).saving = s.saving := by
  unfold State.removeHead; dsimp only; (repeat' split) <;> simp
@[simp] theorem State.removeHead_arbiter (s : State) (n : Lane) (e : Entry) : (s.removeHead n e).arbiter = s.arbiter := by
  unfold State.removeHead; dsimp only; (repeat' split) <;> simp
@[simp] theorem State.removeHead_payTimer (s : State) (n : Lane) (e : Entry) : (s.removeHead n e).payTimer = s.payTimer := by
  unfold State.removeHead; dsimp only; (repeat' split) <;> simp
@[simp] theorem State.removeHead_setPending (s : State) (n : Lane) (e : Entry) : (s.removeHead n e).setPending = s.setPending := by
  unfold State.removeHead; dsimp only; (repeat' split) <;> simp
@[simp] theorem State.removeHead_freeIndex (s : State) (n : Lane) (e : Entry) : (s.removeHead n e).freeIndex = s.freeIndex := by
  unfold State.removeHead; dsimp only; (repeat' split) <;> simp
@[simp] theorem State.removeHead_pending (s : State) (n : Lane) (e : Entry) : (s.removeHead n e).pending = s.pending := by
  unfold State.removeHead; dsimp only; (repeat' split) <;> simp

/-! ### `State.refuseAtOnce` -/

@[simp] theorem State.refuseAtOnce_phase (s : State) (n : Lane) (sequence : Nat) (why : Cause) : (s.refuseAtOnce n sequence why).phase = s.phase := rfl
@[simp] theorem State.refuseAtOnce_key (s : State) (n : Lane) (sequence : Nat) (why : Cause) : (s.refuseAtOnce n sequence why).key = s.key := rfl
@[simp] theorem State.refuseAtOnce_batteryLow (s : State) (n : Lane) (sequence : Nat) (why : Cause) : (s.refuseAtOnce n sequence why).batteryLow = s.batteryLow := rfl
@[simp] theorem State.refuseAtOnce_tickets (s : State) (n : Lane) (sequence : Nat) (why : Cause) : (s.refuseAtOnce n sequence why).tickets = s.tickets := rfl
@[simp] theorem State.refuseAtOnce_holds (s : State) (n : Lane) (sequence : Nat) (why : Cause) : (s.refuseAtOnce n sequence why).holds = s.holds := rfl
@[simp] theorem State.refuseAtOnce_holdOrder (s : State) (n : Lane) (sequence : Nat) (why : Cause) : (s.refuseAtOnce n sequence why).holdOrder = s.holdOrder := rfl
@[simp] theorem State.refuseAtOnce_register (s : State) (n : Lane) (sequence : Nat) (why : Cause) : (s.refuseAtOnce n sequence why).register = s.register := rfl
@[simp] theorem State.refuseAtOnce_watch (s : State) (n : Lane) (sequence : Nat) (why : Cause) : (s.refuseAtOnce n sequence why).watch = s.watch := rfl
@[simp] theorem State.refuseAtOnce_tariff (s : State) (n : Lane) (sequence : Nat) (why : Cause) : (s.refuseAtOnce n sequence why).tariff = s.tariff := rfl
@[simp] theorem State.refuseAtOnce_till (s : State) (n : Lane) (sequence : Nat) (why : Cause) : (s.refuseAtOnce n sequence why).till = s.till := rfl
@[simp] theorem State.refuseAtOnce_clock (s : State) (n : Lane) (sequence : Nat) (why : Cause) : (s.refuseAtOnce n sequence why).clock = s.clock := rfl
@[simp] theorem State.refuseAtOnce_edges (s : State) (n : Lane) (sequence : Nat) (why : Cause) : (s.refuseAtOnce n sequence why).edges = s.edges := rfl
@[simp] theorem State.refuseAtOnce_retentionMark (s : State) (n : Lane) (sequence : Nat) (why : Cause) : (s.refuseAtOnce n sequence why).retentionMark = s.retentionMark := rfl
@[simp] theorem State.refuseAtOnce_batteryFall (s : State) (n : Lane) (sequence : Nat) (why : Cause) : (s.refuseAtOnce n sequence why).batteryFall = s.batteryFall := rfl
@[simp] theorem State.refuseAtOnce_settings (s : State) (n : Lane) (sequence : Nat) (why : Cause) : (s.refuseAtOnce n sequence why).settings = s.settings := rfl
@[simp] theorem State.refuseAtOnce_image (s : State) (n : Lane) (sequence : Nat) (why : Cause) : (s.refuseAtOnce n sequence why).image = s.image := rfl
@[simp] theorem State.refuseAtOnce_saving (s : State) (n : Lane) (sequence : Nat) (why : Cause) : (s.refuseAtOnce n sequence why).saving = s.saving := rfl
@[simp] theorem State.refuseAtOnce_lanes (s : State) (n : Lane) (sequence : Nat) (why : Cause) : (s.refuseAtOnce n sequence why).lanes = s.lanes := rfl
@[simp] theorem State.refuseAtOnce_arbiter (s : State) (n : Lane) (sequence : Nat) (why : Cause) : (s.refuseAtOnce n sequence why).arbiter = s.arbiter := rfl
@[simp] theorem State.refuseAtOnce_payTimer (s : State) (n : Lane) (sequence : Nat) (why : Cause) : (s.refuseAtOnce n sequence why).payTimer = s.payTimer := rfl
@[simp] theorem State.refuseAtOnce_setPending (s : State) (n : Lane) (sequence : Nat) (why : Cause) : (s.refuseAtOnce n sequence why).setPending = s.setPending := rfl
@[simp] theorem State.refuseAtOnce_freeIndex (s : State) (n : Lane) (sequence : Nat) (why : Cause) : (s.refuseAtOnce n sequence why).freeIndex = s.freeIndex := rfl
@[simp] theorem State.refuseAtOnce_pending (s : State) (n : Lane) (sequence : Nat) (why : Cause) : (s.refuseAtOnce n sequence why).pending = s.pending := rfl

/-! ### `State.overrun` -/

@[simp] theorem State.overrun_phase (s : State) (n : Lane) (old new : Entry) : (s.overrun n old new).phase = s.phase := by
  unfold State.overrun; dsimp only; (repeat' split) <;> simp
@[simp] theorem State.overrun_key (s : State) (n : Lane) (old new : Entry) : (s.overrun n old new).key = s.key := by
  unfold State.overrun; dsimp only; (repeat' split) <;> simp
@[simp] theorem State.overrun_batteryLow (s : State) (n : Lane) (old new : Entry) : (s.overrun n old new).batteryLow = s.batteryLow := by
  unfold State.overrun; dsimp only; (repeat' split) <;> simp
@[simp] theorem State.overrun_holds (s : State) (n : Lane) (old new : Entry) : (s.overrun n old new).holds = s.holds := by
  unfold State.overrun; dsimp only; (repeat' split) <;> simp
@[simp] theorem State.overrun_holdOrder (s : State) (n : Lane) (old new : Entry) : (s.overrun n old new).holdOrder = s.holdOrder := by
  unfold State.overrun; dsimp only; (repeat' split) <;> simp
@[simp] theorem State.overrun_register (s : State) (n : Lane) (old new : Entry) : (s.overrun n old new).register = s.register := by
  unfold State.overrun; dsimp only; (repeat' split) <;> simp
@[simp] theorem State.overrun_watch (s : State) (n : Lane) (old new : Entry) : (s.overrun n old new).watch = s.watch := by
  unfold State.overrun; dsimp only; (repeat' split) <;> simp
@[simp] theorem State.overrun_till (s : State) (n : Lane) (old new : Entry) : (s.overrun n old new).till = s.till := by
  unfold State.overrun; dsimp only; (repeat' split) <;> simp
@[simp] theorem State.overrun_clock (s : State) (n : Lane) (old new : Entry) : (s.overrun n old new).clock = s.clock := by
  unfold State.overrun; dsimp only; (repeat' split) <;> simp
@[simp] theorem State.overrun_edges (s : State) (n : Lane) (old new : Entry) : (s.overrun n old new).edges = s.edges := by
  unfold State.overrun; dsimp only; (repeat' split) <;> simp
@[simp] theorem State.overrun_retentionMark (s : State) (n : Lane) (old new : Entry) : (s.overrun n old new).retentionMark = s.retentionMark := by
  unfold State.overrun; dsimp only; (repeat' split) <;> simp
@[simp] theorem State.overrun_batteryFall (s : State) (n : Lane) (old new : Entry) : (s.overrun n old new).batteryFall = s.batteryFall := by
  unfold State.overrun; dsimp only; (repeat' split) <;> simp
@[simp] theorem State.overrun_settings (s : State) (n : Lane) (old new : Entry) : (s.overrun n old new).settings = s.settings := by
  unfold State.overrun; dsimp only; (repeat' split) <;> simp
@[simp] theorem State.overrun_image (s : State) (n : Lane) (old new : Entry) : (s.overrun n old new).image = s.image := by
  unfold State.overrun; dsimp only; (repeat' split) <;> simp
@[simp] theorem State.overrun_saving (s : State) (n : Lane) (old new : Entry) : (s.overrun n old new).saving = s.saving := by
  unfold State.overrun; dsimp only; (repeat' split) <;> simp
@[simp] theorem State.overrun_arbiter (s : State) (n : Lane) (old new : Entry) : (s.overrun n old new).arbiter = s.arbiter := by
  unfold State.overrun; dsimp only; (repeat' split) <;> simp
@[simp] theorem State.overrun_payTimer (s : State) (n : Lane) (old new : Entry) : (s.overrun n old new).payTimer = s.payTimer := by
  unfold State.overrun; dsimp only; (repeat' split) <;> simp
@[simp] theorem State.overrun_setPending (s : State) (n : Lane) (old new : Entry) : (s.overrun n old new).setPending = s.setPending := by
  unfold State.overrun; dsimp only; (repeat' split) <;> simp
@[simp] theorem State.overrun_freeIndex (s : State) (n : Lane) (old new : Entry) : (s.overrun n old new).freeIndex = s.freeIndex := by
  unfold State.overrun; dsimp only; (repeat' split) <;> simp
@[simp] theorem State.overrun_pending (s : State) (n : Lane) (old new : Entry) : (s.overrun n old new).pending = s.pending := by
  unfold State.overrun; dsimp only; (repeat' split) <;> simp

/-! ### `State.placeEntry` -/

@[simp] theorem State.placeEntry_phase (s : State) (n : Lane) (e : Entry) : (s.placeEntry n e).phase = s.phase := by
  unfold State.placeEntry; (repeat' split) <;> simp
@[simp] theorem State.placeEntry_key (s : State) (n : Lane) (e : Entry) : (s.placeEntry n e).key = s.key := by
  unfold State.placeEntry; (repeat' split) <;> simp
@[simp] theorem State.placeEntry_batteryLow (s : State) (n : Lane) (e : Entry) : (s.placeEntry n e).batteryLow = s.batteryLow := by
  unfold State.placeEntry; (repeat' split) <;> simp
@[simp] theorem State.placeEntry_holds (s : State) (n : Lane) (e : Entry) : (s.placeEntry n e).holds = s.holds := by
  unfold State.placeEntry; (repeat' split) <;> simp
@[simp] theorem State.placeEntry_holdOrder (s : State) (n : Lane) (e : Entry) : (s.placeEntry n e).holdOrder = s.holdOrder := by
  unfold State.placeEntry; (repeat' split) <;> simp
@[simp] theorem State.placeEntry_register (s : State) (n : Lane) (e : Entry) : (s.placeEntry n e).register = s.register := by
  unfold State.placeEntry; (repeat' split) <;> simp
@[simp] theorem State.placeEntry_watch (s : State) (n : Lane) (e : Entry) : (s.placeEntry n e).watch = s.watch := by
  unfold State.placeEntry; (repeat' split) <;> simp
@[simp] theorem State.placeEntry_till (s : State) (n : Lane) (e : Entry) : (s.placeEntry n e).till = s.till := by
  unfold State.placeEntry; (repeat' split) <;> simp
@[simp] theorem State.placeEntry_clock (s : State) (n : Lane) (e : Entry) : (s.placeEntry n e).clock = s.clock := by
  unfold State.placeEntry; (repeat' split) <;> simp
@[simp] theorem State.placeEntry_edges (s : State) (n : Lane) (e : Entry) : (s.placeEntry n e).edges = s.edges := by
  unfold State.placeEntry; (repeat' split) <;> simp
@[simp] theorem State.placeEntry_retentionMark (s : State) (n : Lane) (e : Entry) : (s.placeEntry n e).retentionMark = s.retentionMark := by
  unfold State.placeEntry; (repeat' split) <;> simp
@[simp] theorem State.placeEntry_batteryFall (s : State) (n : Lane) (e : Entry) : (s.placeEntry n e).batteryFall = s.batteryFall := by
  unfold State.placeEntry; (repeat' split) <;> simp
@[simp] theorem State.placeEntry_settings (s : State) (n : Lane) (e : Entry) : (s.placeEntry n e).settings = s.settings := by
  unfold State.placeEntry; (repeat' split) <;> simp
@[simp] theorem State.placeEntry_image (s : State) (n : Lane) (e : Entry) : (s.placeEntry n e).image = s.image := by
  unfold State.placeEntry; (repeat' split) <;> simp
@[simp] theorem State.placeEntry_saving (s : State) (n : Lane) (e : Entry) : (s.placeEntry n e).saving = s.saving := by
  unfold State.placeEntry; (repeat' split) <;> simp
@[simp] theorem State.placeEntry_arbiter (s : State) (n : Lane) (e : Entry) : (s.placeEntry n e).arbiter = s.arbiter := by
  unfold State.placeEntry; (repeat' split) <;> simp
@[simp] theorem State.placeEntry_payTimer (s : State) (n : Lane) (e : Entry) : (s.placeEntry n e).payTimer = s.payTimer := by
  unfold State.placeEntry; (repeat' split) <;> simp
@[simp] theorem State.placeEntry_setPending (s : State) (n : Lane) (e : Entry) : (s.placeEntry n e).setPending = s.setPending := by
  unfold State.placeEntry; (repeat' split) <;> simp
@[simp] theorem State.placeEntry_freeIndex (s : State) (n : Lane) (e : Entry) : (s.placeEntry n e).freeIndex = s.freeIndex := by
  unfold State.placeEntry; (repeat' split) <;> simp
@[simp] theorem State.placeEntry_pending (s : State) (n : Lane) (e : Entry) : (s.placeEntry n e).pending = s.pending := by
  unfold State.placeEntry; (repeat' split) <;> simp

/-! ### `State.freeHold` -/

@[simp] theorem State.freeHold_phase (s : State) (i : Fin 64) : (s.freeHold i).phase = s.phase := rfl
@[simp] theorem State.freeHold_key (s : State) (i : Fin 64) : (s.freeHold i).key = s.key := rfl
@[simp] theorem State.freeHold_batteryLow (s : State) (i : Fin 64) : (s.freeHold i).batteryLow = s.batteryLow := rfl
@[simp] theorem State.freeHold_tickets (s : State) (i : Fin 64) : (s.freeHold i).tickets = s.tickets := rfl
@[simp] theorem State.freeHold_register (s : State) (i : Fin 64) : (s.freeHold i).register = s.register := rfl
@[simp] theorem State.freeHold_watch (s : State) (i : Fin 64) : (s.freeHold i).watch = s.watch := rfl
@[simp] theorem State.freeHold_tariff (s : State) (i : Fin 64) : (s.freeHold i).tariff = s.tariff := rfl
@[simp] theorem State.freeHold_till (s : State) (i : Fin 64) : (s.freeHold i).till = s.till := rfl
@[simp] theorem State.freeHold_clock (s : State) (i : Fin 64) : (s.freeHold i).clock = s.clock := rfl
@[simp] theorem State.freeHold_edges (s : State) (i : Fin 64) : (s.freeHold i).edges = s.edges := rfl
@[simp] theorem State.freeHold_retentionMark (s : State) (i : Fin 64) : (s.freeHold i).retentionMark = s.retentionMark := rfl
@[simp] theorem State.freeHold_batteryFall (s : State) (i : Fin 64) : (s.freeHold i).batteryFall = s.batteryFall := rfl
@[simp] theorem State.freeHold_settings (s : State) (i : Fin 64) : (s.freeHold i).settings = s.settings := rfl
@[simp] theorem State.freeHold_image (s : State) (i : Fin 64) : (s.freeHold i).image = s.image := rfl
@[simp] theorem State.freeHold_saving (s : State) (i : Fin 64) : (s.freeHold i).saving = s.saving := rfl
@[simp] theorem State.freeHold_lanes (s : State) (i : Fin 64) : (s.freeHold i).lanes = s.lanes := rfl
@[simp] theorem State.freeHold_ports (s : State) (i : Fin 64) : (s.freeHold i).ports = s.ports := rfl
@[simp] theorem State.freeHold_arbiter (s : State) (i : Fin 64) : (s.freeHold i).arbiter = s.arbiter := rfl
@[simp] theorem State.freeHold_payTimer (s : State) (i : Fin 64) : (s.freeHold i).payTimer = s.payTimer := rfl
@[simp] theorem State.freeHold_setPending (s : State) (i : Fin 64) : (s.freeHold i).setPending = s.setPending := rfl
@[simp] theorem State.freeHold_freeIndex (s : State) (i : Fin 64) : (s.freeHold i).freeIndex = s.freeIndex := rfl
@[simp] theorem State.freeHold_pending (s : State) (i : Fin 64) : (s.freeHold i).pending = s.pending := rfl

/-! ### `State.resolveHold` -/

@[simp] theorem State.resolveHold_phase (s : State) (i : Fin 64) (h : Hold) (expired : Bool) : (s.resolveHold i h expired).phase = s.phase := by
  unfold State.resolveHold; dsimp only; (repeat' split) <;> simp
@[simp] theorem State.resolveHold_key (s : State) (i : Fin 64) (h : Hold) (expired : Bool) : (s.resolveHold i h expired).key = s.key := by
  unfold State.resolveHold; dsimp only; (repeat' split) <;> simp
@[simp] theorem State.resolveHold_batteryLow (s : State) (i : Fin 64) (h : Hold) (expired : Bool) : (s.resolveHold i h expired).batteryLow = s.batteryLow := by
  unfold State.resolveHold; dsimp only; (repeat' split) <;> simp
@[simp] theorem State.resolveHold_register (s : State) (i : Fin 64) (h : Hold) (expired : Bool) : (s.resolveHold i h expired).register = s.register := by
  unfold State.resolveHold; dsimp only; (repeat' split) <;> simp
@[simp] theorem State.resolveHold_watch (s : State) (i : Fin 64) (h : Hold) (expired : Bool) : (s.resolveHold i h expired).watch = s.watch := by
  unfold State.resolveHold; dsimp only; (repeat' split) <;> simp
@[simp] theorem State.resolveHold_till (s : State) (i : Fin 64) (h : Hold) (expired : Bool) : (s.resolveHold i h expired).till = s.till := by
  unfold State.resolveHold; dsimp only; (repeat' split) <;> simp
@[simp] theorem State.resolveHold_clock (s : State) (i : Fin 64) (h : Hold) (expired : Bool) : (s.resolveHold i h expired).clock = s.clock := by
  unfold State.resolveHold; dsimp only; (repeat' split) <;> simp
@[simp] theorem State.resolveHold_edges (s : State) (i : Fin 64) (h : Hold) (expired : Bool) : (s.resolveHold i h expired).edges = s.edges := by
  unfold State.resolveHold; dsimp only; (repeat' split) <;> simp
@[simp] theorem State.resolveHold_retentionMark (s : State) (i : Fin 64) (h : Hold) (expired : Bool) : (s.resolveHold i h expired).retentionMark = s.retentionMark := by
  unfold State.resolveHold; dsimp only; (repeat' split) <;> simp
@[simp] theorem State.resolveHold_batteryFall (s : State) (i : Fin 64) (h : Hold) (expired : Bool) : (s.resolveHold i h expired).batteryFall = s.batteryFall := by
  unfold State.resolveHold; dsimp only; (repeat' split) <;> simp
@[simp] theorem State.resolveHold_settings (s : State) (i : Fin 64) (h : Hold) (expired : Bool) : (s.resolveHold i h expired).settings = s.settings := by
  unfold State.resolveHold; dsimp only; (repeat' split) <;> simp
@[simp] theorem State.resolveHold_image (s : State) (i : Fin 64) (h : Hold) (expired : Bool) : (s.resolveHold i h expired).image = s.image := by
  unfold State.resolveHold; dsimp only; (repeat' split) <;> simp
@[simp] theorem State.resolveHold_saving (s : State) (i : Fin 64) (h : Hold) (expired : Bool) : (s.resolveHold i h expired).saving = s.saving := by
  unfold State.resolveHold; dsimp only; (repeat' split) <;> simp
@[simp] theorem State.resolveHold_lanes (s : State) (i : Fin 64) (h : Hold) (expired : Bool) : (s.resolveHold i h expired).lanes = s.lanes := by
  unfold State.resolveHold; dsimp only; (repeat' split) <;> simp
@[simp] theorem State.resolveHold_ports (s : State) (i : Fin 64) (h : Hold) (expired : Bool) : (s.resolveHold i h expired).ports = s.ports := by
  unfold State.resolveHold; dsimp only; (repeat' split) <;> simp
@[simp] theorem State.resolveHold_arbiter (s : State) (i : Fin 64) (h : Hold) (expired : Bool) : (s.resolveHold i h expired).arbiter = s.arbiter := by
  unfold State.resolveHold; dsimp only; (repeat' split) <;> simp
@[simp] theorem State.resolveHold_payTimer (s : State) (i : Fin 64) (h : Hold) (expired : Bool) : (s.resolveHold i h expired).payTimer = s.payTimer := by
  unfold State.resolveHold; dsimp only; (repeat' split) <;> simp
@[simp] theorem State.resolveHold_setPending (s : State) (i : Fin 64) (h : Hold) (expired : Bool) : (s.resolveHold i h expired).setPending = s.setPending := by
  unfold State.resolveHold; dsimp only; (repeat' split) <;> simp
@[simp] theorem State.resolveHold_freeIndex (s : State) (i : Fin 64) (h : Hold) (expired : Bool) : (s.resolveHold i h expired).freeIndex = s.freeIndex := by
  unfold State.resolveHold; dsimp only; (repeat' split) <;> simp
@[simp] theorem State.resolveHold_pending (s : State) (i : Fin 64) (h : Hold) (expired : Bool) : (s.resolveHold i h expired).pending = s.pending := by
  unfold State.resolveHold; dsimp only; (repeat' split) <;> simp

/-! ### `State.expireAtTest` -/

@[simp] theorem State.expireAtTest_phase (s : State) (i : Fin 64) : (s.expireAtTest i).phase = s.phase := by
  unfold State.expireAtTest; (repeat' split) <;> simp
@[simp] theorem State.expireAtTest_key (s : State) (i : Fin 64) : (s.expireAtTest i).key = s.key := by
  unfold State.expireAtTest; (repeat' split) <;> simp
@[simp] theorem State.expireAtTest_batteryLow (s : State) (i : Fin 64) : (s.expireAtTest i).batteryLow = s.batteryLow := by
  unfold State.expireAtTest; (repeat' split) <;> simp
@[simp] theorem State.expireAtTest_register (s : State) (i : Fin 64) : (s.expireAtTest i).register = s.register := by
  unfold State.expireAtTest; (repeat' split) <;> simp
@[simp] theorem State.expireAtTest_watch (s : State) (i : Fin 64) : (s.expireAtTest i).watch = s.watch := by
  unfold State.expireAtTest; (repeat' split) <;> simp
@[simp] theorem State.expireAtTest_till (s : State) (i : Fin 64) : (s.expireAtTest i).till = s.till := by
  unfold State.expireAtTest; (repeat' split) <;> simp
@[simp] theorem State.expireAtTest_clock (s : State) (i : Fin 64) : (s.expireAtTest i).clock = s.clock := by
  unfold State.expireAtTest; (repeat' split) <;> simp
@[simp] theorem State.expireAtTest_edges (s : State) (i : Fin 64) : (s.expireAtTest i).edges = s.edges := by
  unfold State.expireAtTest; (repeat' split) <;> simp
@[simp] theorem State.expireAtTest_retentionMark (s : State) (i : Fin 64) : (s.expireAtTest i).retentionMark = s.retentionMark := by
  unfold State.expireAtTest; (repeat' split) <;> simp
@[simp] theorem State.expireAtTest_batteryFall (s : State) (i : Fin 64) : (s.expireAtTest i).batteryFall = s.batteryFall := by
  unfold State.expireAtTest; (repeat' split) <;> simp
@[simp] theorem State.expireAtTest_settings (s : State) (i : Fin 64) : (s.expireAtTest i).settings = s.settings := by
  unfold State.expireAtTest; (repeat' split) <;> simp
@[simp] theorem State.expireAtTest_image (s : State) (i : Fin 64) : (s.expireAtTest i).image = s.image := by
  unfold State.expireAtTest; (repeat' split) <;> simp
@[simp] theorem State.expireAtTest_saving (s : State) (i : Fin 64) : (s.expireAtTest i).saving = s.saving := by
  unfold State.expireAtTest; (repeat' split) <;> simp
@[simp] theorem State.expireAtTest_lanes (s : State) (i : Fin 64) : (s.expireAtTest i).lanes = s.lanes := by
  unfold State.expireAtTest; (repeat' split) <;> simp
@[simp] theorem State.expireAtTest_ports (s : State) (i : Fin 64) : (s.expireAtTest i).ports = s.ports := by
  unfold State.expireAtTest; (repeat' split) <;> simp
@[simp] theorem State.expireAtTest_arbiter (s : State) (i : Fin 64) : (s.expireAtTest i).arbiter = s.arbiter := by
  unfold State.expireAtTest; (repeat' split) <;> simp
@[simp] theorem State.expireAtTest_payTimer (s : State) (i : Fin 64) : (s.expireAtTest i).payTimer = s.payTimer := by
  unfold State.expireAtTest; (repeat' split) <;> simp
@[simp] theorem State.expireAtTest_setPending (s : State) (i : Fin 64) : (s.expireAtTest i).setPending = s.setPending := by
  unfold State.expireAtTest; (repeat' split) <;> simp
@[simp] theorem State.expireAtTest_freeIndex (s : State) (i : Fin 64) : (s.expireAtTest i).freeIndex = s.freeIndex := by
  unfold State.expireAtTest; (repeat' split) <;> simp
@[simp] theorem State.expireAtTest_pending (s : State) (i : Fin 64) : (s.expireAtTest i).pending = s.pending := by
  unfold State.expireAtTest; (repeat' split) <;> simp

/-! ### `State.expireHolds` -/

@[simp] theorem State.expireHolds_phase (s : State) : (s.expireHolds).phase = s.phase := by
  unfold State.expireHolds; exact fold_keeps State.phase State.expireAtTest (fun s i => by simp) _ s
@[simp] theorem State.expireHolds_key (s : State) : (s.expireHolds).key = s.key := by
  unfold State.expireHolds; exact fold_keeps State.key State.expireAtTest (fun s i => by simp) _ s
@[simp] theorem State.expireHolds_batteryLow (s : State) : (s.expireHolds).batteryLow = s.batteryLow := by
  unfold State.expireHolds; exact fold_keeps State.batteryLow State.expireAtTest (fun s i => by simp) _ s
@[simp] theorem State.expireHolds_register (s : State) : (s.expireHolds).register = s.register := by
  unfold State.expireHolds; exact fold_keeps State.register State.expireAtTest (fun s i => by simp) _ s
@[simp] theorem State.expireHolds_watch (s : State) : (s.expireHolds).watch = s.watch := by
  unfold State.expireHolds; exact fold_keeps State.watch State.expireAtTest (fun s i => by simp) _ s
@[simp] theorem State.expireHolds_till (s : State) : (s.expireHolds).till = s.till := by
  unfold State.expireHolds; exact fold_keeps State.till State.expireAtTest (fun s i => by simp) _ s
@[simp] theorem State.expireHolds_clock (s : State) : (s.expireHolds).clock = s.clock := by
  unfold State.expireHolds; exact fold_keeps State.clock State.expireAtTest (fun s i => by simp) _ s
@[simp] theorem State.expireHolds_edges (s : State) : (s.expireHolds).edges = s.edges := by
  unfold State.expireHolds; exact fold_keeps State.edges State.expireAtTest (fun s i => by simp) _ s
@[simp] theorem State.expireHolds_retentionMark (s : State) : (s.expireHolds).retentionMark = s.retentionMark := by
  unfold State.expireHolds; exact fold_keeps State.retentionMark State.expireAtTest (fun s i => by simp) _ s
@[simp] theorem State.expireHolds_batteryFall (s : State) : (s.expireHolds).batteryFall = s.batteryFall := by
  unfold State.expireHolds; exact fold_keeps State.batteryFall State.expireAtTest (fun s i => by simp) _ s
@[simp] theorem State.expireHolds_settings (s : State) : (s.expireHolds).settings = s.settings := by
  unfold State.expireHolds; exact fold_keeps State.settings State.expireAtTest (fun s i => by simp) _ s
@[simp] theorem State.expireHolds_image (s : State) : (s.expireHolds).image = s.image := by
  unfold State.expireHolds; exact fold_keeps State.image State.expireAtTest (fun s i => by simp) _ s
@[simp] theorem State.expireHolds_saving (s : State) : (s.expireHolds).saving = s.saving := by
  unfold State.expireHolds; exact fold_keeps State.saving State.expireAtTest (fun s i => by simp) _ s
@[simp] theorem State.expireHolds_lanes (s : State) : (s.expireHolds).lanes = s.lanes := by
  unfold State.expireHolds; exact fold_keeps State.lanes State.expireAtTest (fun s i => by simp) _ s
@[simp] theorem State.expireHolds_ports (s : State) : (s.expireHolds).ports = s.ports := by
  unfold State.expireHolds; exact fold_keeps State.ports State.expireAtTest (fun s i => by simp) _ s
@[simp] theorem State.expireHolds_arbiter (s : State) : (s.expireHolds).arbiter = s.arbiter := by
  unfold State.expireHolds; exact fold_keeps State.arbiter State.expireAtTest (fun s i => by simp) _ s
@[simp] theorem State.expireHolds_payTimer (s : State) : (s.expireHolds).payTimer = s.payTimer := by
  unfold State.expireHolds; exact fold_keeps State.payTimer State.expireAtTest (fun s i => by simp) _ s
@[simp] theorem State.expireHolds_setPending (s : State) : (s.expireHolds).setPending = s.setPending := by
  unfold State.expireHolds; exact fold_keeps State.setPending State.expireAtTest (fun s i => by simp) _ s
@[simp] theorem State.expireHolds_freeIndex (s : State) : (s.expireHolds).freeIndex = s.freeIndex := by
  unfold State.expireHolds; exact fold_keeps State.freeIndex State.expireAtTest (fun s i => by simp) _ s
@[simp] theorem State.expireHolds_pending (s : State) : (s.expireHolds).pending = s.pending := by
  unfold State.expireHolds; exact fold_keeps State.pending State.expireAtTest (fun s i => by simp) _ s

/-! ### `State.raiseSweep` -/

@[simp] theorem State.raiseSweep_phase (s : State) : (s.raiseSweep).phase = s.phase := by unfold State.raiseSweep; split <;> rfl
@[simp] theorem State.raiseSweep_key (s : State) : (s.raiseSweep).key = s.key := by unfold State.raiseSweep; split <;> rfl
@[simp] theorem State.raiseSweep_batteryLow (s : State) : (s.raiseSweep).batteryLow = s.batteryLow := by unfold State.raiseSweep; split <;> rfl
@[simp] theorem State.raiseSweep_tickets (s : State) : (s.raiseSweep).tickets = s.tickets := by unfold State.raiseSweep; split <;> rfl
@[simp] theorem State.raiseSweep_holds (s : State) : (s.raiseSweep).holds = s.holds := by unfold State.raiseSweep; split <;> rfl
@[simp] theorem State.raiseSweep_holdOrder (s : State) : (s.raiseSweep).holdOrder = s.holdOrder := by unfold State.raiseSweep; split <;> rfl
@[simp] theorem State.raiseSweep_register (s : State) : (s.raiseSweep).register = s.register := by unfold State.raiseSweep; split <;> rfl
@[simp] theorem State.raiseSweep_watch (s : State) : (s.raiseSweep).watch = s.watch := by unfold State.raiseSweep; split <;> rfl
@[simp] theorem State.raiseSweep_tariff (s : State) : (s.raiseSweep).tariff = s.tariff := by unfold State.raiseSweep; split <;> rfl
@[simp] theorem State.raiseSweep_till (s : State) : (s.raiseSweep).till = s.till := by unfold State.raiseSweep; split <;> rfl
@[simp] theorem State.raiseSweep_clock (s : State) : (s.raiseSweep).clock = s.clock := by unfold State.raiseSweep; split <;> rfl
@[simp] theorem State.raiseSweep_edges (s : State) : (s.raiseSweep).edges = s.edges := by unfold State.raiseSweep; split <;> rfl
@[simp] theorem State.raiseSweep_retentionMark (s : State) : (s.raiseSweep).retentionMark = s.retentionMark := by unfold State.raiseSweep; split <;> rfl
@[simp] theorem State.raiseSweep_batteryFall (s : State) : (s.raiseSweep).batteryFall = s.batteryFall := by unfold State.raiseSweep; split <;> rfl
@[simp] theorem State.raiseSweep_settings (s : State) : (s.raiseSweep).settings = s.settings := by unfold State.raiseSweep; split <;> rfl
@[simp] theorem State.raiseSweep_image (s : State) : (s.raiseSweep).image = s.image := by unfold State.raiseSweep; split <;> rfl
@[simp] theorem State.raiseSweep_saving (s : State) : (s.raiseSweep).saving = s.saving := by unfold State.raiseSweep; split <;> rfl
@[simp] theorem State.raiseSweep_lanes (s : State) : (s.raiseSweep).lanes = s.lanes := by unfold State.raiseSweep; split <;> rfl
@[simp] theorem State.raiseSweep_ports (s : State) : (s.raiseSweep).ports = s.ports := by unfold State.raiseSweep; split <;> rfl
@[simp] theorem State.raiseSweep_payTimer (s : State) : (s.raiseSweep).payTimer = s.payTimer := by unfold State.raiseSweep; split <;> rfl
@[simp] theorem State.raiseSweep_setPending (s : State) : (s.raiseSweep).setPending = s.setPending := by unfold State.raiseSweep; split <;> rfl
@[simp] theorem State.raiseSweep_freeIndex (s : State) : (s.raiseSweep).freeIndex = s.freeIndex := by unfold State.raiseSweep; split <;> rfl
@[simp] theorem State.raiseSweep_pending (s : State) : (s.raiseSweep).pending = s.pending := by unfold State.raiseSweep; split <;> rfl

/-! ### `State.raiseExpiriesAndSweep` -/

@[simp] theorem State.raiseExpiriesAndSweep_phase (s : State) : (s.raiseExpiriesAndSweep).phase = s.phase := by
  unfold State.raiseExpiriesAndSweep; dsimp only; (repeat' split) <;> simp
@[simp] theorem State.raiseExpiriesAndSweep_key (s : State) : (s.raiseExpiriesAndSweep).key = s.key := by
  unfold State.raiseExpiriesAndSweep; dsimp only; (repeat' split) <;> simp
@[simp] theorem State.raiseExpiriesAndSweep_batteryLow (s : State) : (s.raiseExpiriesAndSweep).batteryLow = s.batteryLow := by
  unfold State.raiseExpiriesAndSweep; dsimp only; (repeat' split) <;> simp
@[simp] theorem State.raiseExpiriesAndSweep_tickets (s : State) : (s.raiseExpiriesAndSweep).tickets = s.tickets := by
  unfold State.raiseExpiriesAndSweep; dsimp only; (repeat' split) <;> simp
@[simp] theorem State.raiseExpiriesAndSweep_holds (s : State) : (s.raiseExpiriesAndSweep).holds = s.holds := by
  unfold State.raiseExpiriesAndSweep; dsimp only; (repeat' split) <;> simp
@[simp] theorem State.raiseExpiriesAndSweep_holdOrder (s : State) : (s.raiseExpiriesAndSweep).holdOrder = s.holdOrder := by
  unfold State.raiseExpiriesAndSweep; dsimp only; (repeat' split) <;> simp
@[simp] theorem State.raiseExpiriesAndSweep_register (s : State) : (s.raiseExpiriesAndSweep).register = s.register := by
  unfold State.raiseExpiriesAndSweep; dsimp only; (repeat' split) <;> simp
@[simp] theorem State.raiseExpiriesAndSweep_watch (s : State) : (s.raiseExpiriesAndSweep).watch = s.watch := by
  unfold State.raiseExpiriesAndSweep; dsimp only; (repeat' split) <;> simp
@[simp] theorem State.raiseExpiriesAndSweep_tariff (s : State) : (s.raiseExpiriesAndSweep).tariff = s.tariff := by
  unfold State.raiseExpiriesAndSweep; dsimp only; (repeat' split) <;> simp
@[simp] theorem State.raiseExpiriesAndSweep_till (s : State) : (s.raiseExpiriesAndSweep).till = s.till := by
  unfold State.raiseExpiriesAndSweep; dsimp only; (repeat' split) <;> simp
@[simp] theorem State.raiseExpiriesAndSweep_clock (s : State) : (s.raiseExpiriesAndSweep).clock = s.clock := by
  unfold State.raiseExpiriesAndSweep; dsimp only; (repeat' split) <;> simp
@[simp] theorem State.raiseExpiriesAndSweep_edges (s : State) : (s.raiseExpiriesAndSweep).edges = s.edges := by
  unfold State.raiseExpiriesAndSweep; dsimp only; (repeat' split) <;> simp
@[simp] theorem State.raiseExpiriesAndSweep_retentionMark (s : State) : (s.raiseExpiriesAndSweep).retentionMark = s.retentionMark := by
  unfold State.raiseExpiriesAndSweep; dsimp only; (repeat' split) <;> simp
@[simp] theorem State.raiseExpiriesAndSweep_batteryFall (s : State) : (s.raiseExpiriesAndSweep).batteryFall = s.batteryFall := by
  unfold State.raiseExpiriesAndSweep; dsimp only; (repeat' split) <;> simp
@[simp] theorem State.raiseExpiriesAndSweep_settings (s : State) : (s.raiseExpiriesAndSweep).settings = s.settings := by
  unfold State.raiseExpiriesAndSweep; dsimp only; (repeat' split) <;> simp
@[simp] theorem State.raiseExpiriesAndSweep_image (s : State) : (s.raiseExpiriesAndSweep).image = s.image := by
  unfold State.raiseExpiriesAndSweep; dsimp only; (repeat' split) <;> simp
@[simp] theorem State.raiseExpiriesAndSweep_saving (s : State) : (s.raiseExpiriesAndSweep).saving = s.saving := by
  unfold State.raiseExpiriesAndSweep; dsimp only; (repeat' split) <;> simp
@[simp] theorem State.raiseExpiriesAndSweep_lanes (s : State) : (s.raiseExpiriesAndSweep).lanes = s.lanes := by
  unfold State.raiseExpiriesAndSweep; dsimp only; (repeat' split) <;> simp
@[simp] theorem State.raiseExpiriesAndSweep_ports (s : State) : (s.raiseExpiriesAndSweep).ports = s.ports := by
  unfold State.raiseExpiriesAndSweep; dsimp only; (repeat' split) <;> simp
@[simp] theorem State.raiseExpiriesAndSweep_payTimer (s : State) : (s.raiseExpiriesAndSweep).payTimer = s.payTimer := by
  unfold State.raiseExpiriesAndSweep; dsimp only; (repeat' split) <;> simp
@[simp] theorem State.raiseExpiriesAndSweep_setPending (s : State) : (s.raiseExpiriesAndSweep).setPending = s.setPending := by
  unfold State.raiseExpiriesAndSweep; dsimp only; (repeat' split) <;> simp
@[simp] theorem State.raiseExpiriesAndSweep_pending (s : State) : (s.raiseExpiriesAndSweep).pending = s.pending := by
  unfold State.raiseExpiriesAndSweep; dsimp only; (repeat' split) <;> simp

/-! ### `State.swap` -/

@[simp] theorem State.swap_phase (s : State) : (s.swap).phase = s.phase := rfl
@[simp] theorem State.swap_key (s : State) : (s.swap).key = s.key := rfl
@[simp] theorem State.swap_batteryLow (s : State) : (s.swap).batteryLow = s.batteryLow := rfl
@[simp] theorem State.swap_tickets (s : State) : (s.swap).tickets = s.tickets := rfl
@[simp] theorem State.swap_holds (s : State) : (s.swap).holds = s.holds := rfl
@[simp] theorem State.swap_holdOrder (s : State) : (s.swap).holdOrder = s.holdOrder := rfl
@[simp] theorem State.swap_register (s : State) : (s.swap).register = s.register := rfl
@[simp] theorem State.swap_watch (s : State) : (s.swap).watch = s.watch := rfl
@[simp] theorem State.swap_till (s : State) : (s.swap).till = s.till := rfl
@[simp] theorem State.swap_clock (s : State) : (s.swap).clock = s.clock := rfl
@[simp] theorem State.swap_retentionMark (s : State) : (s.swap).retentionMark = s.retentionMark := rfl
@[simp] theorem State.swap_batteryFall (s : State) : (s.swap).batteryFall = s.batteryFall := rfl
@[simp] theorem State.swap_settings (s : State) : (s.swap).settings = s.settings := rfl
@[simp] theorem State.swap_image (s : State) : (s.swap).image = s.image := rfl
@[simp] theorem State.swap_saving (s : State) : (s.swap).saving = s.saving := rfl
@[simp] theorem State.swap_lanes (s : State) : (s.swap).lanes = s.lanes := rfl
@[simp] theorem State.swap_ports (s : State) : (s.swap).ports = s.ports := rfl
@[simp] theorem State.swap_arbiter (s : State) : (s.swap).arbiter = s.arbiter := rfl
@[simp] theorem State.swap_payTimer (s : State) : (s.swap).payTimer = s.payTimer := rfl
@[simp] theorem State.swap_setPending (s : State) : (s.swap).setPending = s.setPending := rfl
@[simp] theorem State.swap_freeIndex (s : State) : (s.swap).freeIndex = s.freeIndex := rfl
@[simp] theorem State.swap_pending (s : State) : (s.swap).pending = s.pending := rfl

/-! ### `State.reachedTest` -/

@[simp] theorem State.reachedTest_phase (s : State) : (s.reachedTest).phase = s.phase := by unfold State.reachedTest; split <;> (try split) <;> rfl
@[simp] theorem State.reachedTest_key (s : State) : (s.reachedTest).key = s.key := by unfold State.reachedTest; split <;> (try split) <;> rfl
@[simp] theorem State.reachedTest_batteryLow (s : State) : (s.reachedTest).batteryLow = s.batteryLow := by unfold State.reachedTest; split <;> (try split) <;> rfl
@[simp] theorem State.reachedTest_tickets (s : State) : (s.reachedTest).tickets = s.tickets := by unfold State.reachedTest; split <;> (try split) <;> rfl
@[simp] theorem State.reachedTest_holds (s : State) : (s.reachedTest).holds = s.holds := by unfold State.reachedTest; split <;> (try split) <;> rfl
@[simp] theorem State.reachedTest_holdOrder (s : State) : (s.reachedTest).holdOrder = s.holdOrder := by unfold State.reachedTest; split <;> (try split) <;> rfl
@[simp] theorem State.reachedTest_register (s : State) : (s.reachedTest).register = s.register := by unfold State.reachedTest; split <;> (try split) <;> rfl
@[simp] theorem State.reachedTest_watch (s : State) : (s.reachedTest).watch = s.watch := by unfold State.reachedTest; split <;> (try split) <;> rfl
@[simp] theorem State.reachedTest_till (s : State) : (s.reachedTest).till = s.till := by unfold State.reachedTest; split <;> (try split) <;> rfl
@[simp] theorem State.reachedTest_clock (s : State) : (s.reachedTest).clock = s.clock := by unfold State.reachedTest; split <;> (try split) <;> rfl
@[simp] theorem State.reachedTest_retentionMark (s : State) : (s.reachedTest).retentionMark = s.retentionMark := by unfold State.reachedTest; split <;> (try split) <;> rfl
@[simp] theorem State.reachedTest_batteryFall (s : State) : (s.reachedTest).batteryFall = s.batteryFall := by unfold State.reachedTest; split <;> (try split) <;> rfl
@[simp] theorem State.reachedTest_settings (s : State) : (s.reachedTest).settings = s.settings := by unfold State.reachedTest; split <;> (try split) <;> rfl
@[simp] theorem State.reachedTest_image (s : State) : (s.reachedTest).image = s.image := by unfold State.reachedTest; split <;> (try split) <;> rfl
@[simp] theorem State.reachedTest_saving (s : State) : (s.reachedTest).saving = s.saving := by unfold State.reachedTest; split <;> (try split) <;> rfl
@[simp] theorem State.reachedTest_lanes (s : State) : (s.reachedTest).lanes = s.lanes := by unfold State.reachedTest; split <;> (try split) <;> rfl
@[simp] theorem State.reachedTest_ports (s : State) : (s.reachedTest).ports = s.ports := by unfold State.reachedTest; split <;> (try split) <;> rfl
@[simp] theorem State.reachedTest_arbiter (s : State) : (s.reachedTest).arbiter = s.arbiter := by unfold State.reachedTest; split <;> (try split) <;> rfl
@[simp] theorem State.reachedTest_payTimer (s : State) : (s.reachedTest).payTimer = s.payTimer := by unfold State.reachedTest; split <;> (try split) <;> rfl
@[simp] theorem State.reachedTest_setPending (s : State) : (s.reachedTest).setPending = s.setPending := by unfold State.reachedTest; split <;> (try split) <;> rfl
@[simp] theorem State.reachedTest_freeIndex (s : State) : (s.reachedTest).freeIndex = s.freeIndex := by unfold State.reachedTest; split <;> (try split) <;> rfl
@[simp] theorem State.reachedTest_pending (s : State) : (s.reachedTest).pending = s.pending := by unfold State.reachedTest; split <;> (try split) <;> rfl

/-! ### `State.dropHolds` -/

@[simp] theorem State.dropHolds_phase (s : State) (ticket : Nat) : (s.dropHolds ticket).phase = s.phase := rfl
@[simp] theorem State.dropHolds_key (s : State) (ticket : Nat) : (s.dropHolds ticket).key = s.key := rfl
@[simp] theorem State.dropHolds_batteryLow (s : State) (ticket : Nat) : (s.dropHolds ticket).batteryLow = s.batteryLow := rfl
@[simp] theorem State.dropHolds_tickets (s : State) (ticket : Nat) : (s.dropHolds ticket).tickets = s.tickets := rfl
@[simp] theorem State.dropHolds_register (s : State) (ticket : Nat) : (s.dropHolds ticket).register = s.register := rfl
@[simp] theorem State.dropHolds_watch (s : State) (ticket : Nat) : (s.dropHolds ticket).watch = s.watch := rfl
@[simp] theorem State.dropHolds_tariff (s : State) (ticket : Nat) : (s.dropHolds ticket).tariff = s.tariff := rfl
@[simp] theorem State.dropHolds_till (s : State) (ticket : Nat) : (s.dropHolds ticket).till = s.till := rfl
@[simp] theorem State.dropHolds_clock (s : State) (ticket : Nat) : (s.dropHolds ticket).clock = s.clock := rfl
@[simp] theorem State.dropHolds_edges (s : State) (ticket : Nat) : (s.dropHolds ticket).edges = s.edges := rfl
@[simp] theorem State.dropHolds_retentionMark (s : State) (ticket : Nat) : (s.dropHolds ticket).retentionMark = s.retentionMark := rfl
@[simp] theorem State.dropHolds_batteryFall (s : State) (ticket : Nat) : (s.dropHolds ticket).batteryFall = s.batteryFall := rfl
@[simp] theorem State.dropHolds_settings (s : State) (ticket : Nat) : (s.dropHolds ticket).settings = s.settings := rfl
@[simp] theorem State.dropHolds_image (s : State) (ticket : Nat) : (s.dropHolds ticket).image = s.image := rfl
@[simp] theorem State.dropHolds_saving (s : State) (ticket : Nat) : (s.dropHolds ticket).saving = s.saving := rfl
@[simp] theorem State.dropHolds_lanes (s : State) (ticket : Nat) : (s.dropHolds ticket).lanes = s.lanes := rfl
@[simp] theorem State.dropHolds_ports (s : State) (ticket : Nat) : (s.dropHolds ticket).ports = s.ports := rfl
@[simp] theorem State.dropHolds_arbiter (s : State) (ticket : Nat) : (s.dropHolds ticket).arbiter = s.arbiter := rfl
@[simp] theorem State.dropHolds_payTimer (s : State) (ticket : Nat) : (s.dropHolds ticket).payTimer = s.payTimer := rfl
@[simp] theorem State.dropHolds_setPending (s : State) (ticket : Nat) : (s.dropHolds ticket).setPending = s.setPending := rfl
@[simp] theorem State.dropHolds_freeIndex (s : State) (ticket : Nat) : (s.dropHolds ticket).freeIndex = s.freeIndex := rfl
@[simp] theorem State.dropHolds_pending (s : State) (ticket : Nat) : (s.dropHolds ticket).pending = s.pending := rfl

/-! ### `State.closeBatches` -/

@[simp] theorem State.closeBatches_phase (s : State) (ns : List Lane) (why : CloseReason) : (s.closeBatches ns why).phase = s.phase := by
  unfold State.closeBatches; induction ns generalizing s with
  | nil => rfl
  | cons n ns ih => exact (ih _).trans (by simp)
@[simp] theorem State.closeBatches_key (s : State) (ns : List Lane) (why : CloseReason) : (s.closeBatches ns why).key = s.key := by
  unfold State.closeBatches; induction ns generalizing s with
  | nil => rfl
  | cons n ns ih => exact (ih _).trans (by simp)
@[simp] theorem State.closeBatches_batteryLow (s : State) (ns : List Lane) (why : CloseReason) : (s.closeBatches ns why).batteryLow = s.batteryLow := by
  unfold State.closeBatches; induction ns generalizing s with
  | nil => rfl
  | cons n ns ih => exact (ih _).trans (by simp)
@[simp] theorem State.closeBatches_holds (s : State) (ns : List Lane) (why : CloseReason) : (s.closeBatches ns why).holds = s.holds := by
  unfold State.closeBatches; induction ns generalizing s with
  | nil => rfl
  | cons n ns ih => exact (ih _).trans (by simp)
@[simp] theorem State.closeBatches_holdOrder (s : State) (ns : List Lane) (why : CloseReason) : (s.closeBatches ns why).holdOrder = s.holdOrder := by
  unfold State.closeBatches; induction ns generalizing s with
  | nil => rfl
  | cons n ns ih => exact (ih _).trans (by simp)
@[simp] theorem State.closeBatches_register (s : State) (ns : List Lane) (why : CloseReason) : (s.closeBatches ns why).register = s.register := by
  unfold State.closeBatches; induction ns generalizing s with
  | nil => rfl
  | cons n ns ih => exact (ih _).trans (by simp)
@[simp] theorem State.closeBatches_watch (s : State) (ns : List Lane) (why : CloseReason) : (s.closeBatches ns why).watch = s.watch := by
  unfold State.closeBatches; induction ns generalizing s with
  | nil => rfl
  | cons n ns ih => exact (ih _).trans (by simp)
@[simp] theorem State.closeBatches_till (s : State) (ns : List Lane) (why : CloseReason) : (s.closeBatches ns why).till = s.till := by
  unfold State.closeBatches; induction ns generalizing s with
  | nil => rfl
  | cons n ns ih => exact (ih _).trans (by simp)
@[simp] theorem State.closeBatches_clock (s : State) (ns : List Lane) (why : CloseReason) : (s.closeBatches ns why).clock = s.clock := by
  unfold State.closeBatches; induction ns generalizing s with
  | nil => rfl
  | cons n ns ih => exact (ih _).trans (by simp)
@[simp] theorem State.closeBatches_edges (s : State) (ns : List Lane) (why : CloseReason) : (s.closeBatches ns why).edges = s.edges := by
  unfold State.closeBatches; induction ns generalizing s with
  | nil => rfl
  | cons n ns ih => exact (ih _).trans (by simp)
@[simp] theorem State.closeBatches_retentionMark (s : State) (ns : List Lane) (why : CloseReason) : (s.closeBatches ns why).retentionMark = s.retentionMark := by
  unfold State.closeBatches; induction ns generalizing s with
  | nil => rfl
  | cons n ns ih => exact (ih _).trans (by simp)
@[simp] theorem State.closeBatches_batteryFall (s : State) (ns : List Lane) (why : CloseReason) : (s.closeBatches ns why).batteryFall = s.batteryFall := by
  unfold State.closeBatches; induction ns generalizing s with
  | nil => rfl
  | cons n ns ih => exact (ih _).trans (by simp)
@[simp] theorem State.closeBatches_settings (s : State) (ns : List Lane) (why : CloseReason) : (s.closeBatches ns why).settings = s.settings := by
  unfold State.closeBatches; induction ns generalizing s with
  | nil => rfl
  | cons n ns ih => exact (ih _).trans (by simp)
@[simp] theorem State.closeBatches_image (s : State) (ns : List Lane) (why : CloseReason) : (s.closeBatches ns why).image = s.image := by
  unfold State.closeBatches; induction ns generalizing s with
  | nil => rfl
  | cons n ns ih => exact (ih _).trans (by simp)
@[simp] theorem State.closeBatches_saving (s : State) (ns : List Lane) (why : CloseReason) : (s.closeBatches ns why).saving = s.saving := by
  unfold State.closeBatches; induction ns generalizing s with
  | nil => rfl
  | cons n ns ih => exact (ih _).trans (by simp)
@[simp] theorem State.closeBatches_arbiter (s : State) (ns : List Lane) (why : CloseReason) : (s.closeBatches ns why).arbiter = s.arbiter := by
  unfold State.closeBatches; induction ns generalizing s with
  | nil => rfl
  | cons n ns ih => exact (ih _).trans (by simp)
@[simp] theorem State.closeBatches_payTimer (s : State) (ns : List Lane) (why : CloseReason) : (s.closeBatches ns why).payTimer = s.payTimer := by
  unfold State.closeBatches; induction ns generalizing s with
  | nil => rfl
  | cons n ns ih => exact (ih _).trans (by simp)
@[simp] theorem State.closeBatches_setPending (s : State) (ns : List Lane) (why : CloseReason) : (s.closeBatches ns why).setPending = s.setPending := by
  unfold State.closeBatches; induction ns generalizing s with
  | nil => rfl
  | cons n ns ih => exact (ih _).trans (by simp)
@[simp] theorem State.closeBatches_freeIndex (s : State) (ns : List Lane) (why : CloseReason) : (s.closeBatches ns why).freeIndex = s.freeIndex := by
  unfold State.closeBatches; induction ns generalizing s with
  | nil => rfl
  | cons n ns ih => exact (ih _).trans (by simp)
@[simp] theorem State.closeBatches_pending (s : State) (ns : List Lane) (why : CloseReason) : (s.closeBatches ns why).pending = s.pending := by
  unfold State.closeBatches; induction ns generalizing s with
  | nil => rfl
  | cons n ns ih => exact (ih _).trans (by simp)

/-! ### `State.closeTicket` -/

@[simp] theorem State.closeTicket_phase (s : State) (i : Fin 24) : (s.closeTicket i).phase = s.phase := by simp [State.closeTicket]
@[simp] theorem State.closeTicket_key (s : State) (i : Fin 24) : (s.closeTicket i).key = s.key := by simp [State.closeTicket]
@[simp] theorem State.closeTicket_batteryLow (s : State) (i : Fin 24) : (s.closeTicket i).batteryLow = s.batteryLow := by simp [State.closeTicket]
@[simp] theorem State.closeTicket_holds (s : State) (i : Fin 24) : (s.closeTicket i).holds = s.holds := by simp [State.closeTicket]
@[simp] theorem State.closeTicket_holdOrder (s : State) (i : Fin 24) : (s.closeTicket i).holdOrder = s.holdOrder := by simp [State.closeTicket]
@[simp] theorem State.closeTicket_register (s : State) (i : Fin 24) : (s.closeTicket i).register = s.register := by simp [State.closeTicket]
@[simp] theorem State.closeTicket_watch (s : State) (i : Fin 24) : (s.closeTicket i).watch = s.watch := by simp [State.closeTicket]
@[simp] theorem State.closeTicket_till (s : State) (i : Fin 24) : (s.closeTicket i).till = s.till := by simp [State.closeTicket]
@[simp] theorem State.closeTicket_clock (s : State) (i : Fin 24) : (s.closeTicket i).clock = s.clock := by simp [State.closeTicket]
@[simp] theorem State.closeTicket_edges (s : State) (i : Fin 24) : (s.closeTicket i).edges = s.edges := by simp [State.closeTicket]
@[simp] theorem State.closeTicket_retentionMark (s : State) (i : Fin 24) : (s.closeTicket i).retentionMark = s.retentionMark := by simp [State.closeTicket]
@[simp] theorem State.closeTicket_batteryFall (s : State) (i : Fin 24) : (s.closeTicket i).batteryFall = s.batteryFall := by simp [State.closeTicket]
@[simp] theorem State.closeTicket_settings (s : State) (i : Fin 24) : (s.closeTicket i).settings = s.settings := by simp [State.closeTicket]
@[simp] theorem State.closeTicket_image (s : State) (i : Fin 24) : (s.closeTicket i).image = s.image := by simp [State.closeTicket]
@[simp] theorem State.closeTicket_saving (s : State) (i : Fin 24) : (s.closeTicket i).saving = s.saving := by simp [State.closeTicket]
@[simp] theorem State.closeTicket_lanes (s : State) (i : Fin 24) : (s.closeTicket i).lanes = s.lanes := by simp [State.closeTicket]
@[simp] theorem State.closeTicket_ports (s : State) (i : Fin 24) : (s.closeTicket i).ports = s.ports := by simp [State.closeTicket]
@[simp] theorem State.closeTicket_arbiter (s : State) (i : Fin 24) : (s.closeTicket i).arbiter = s.arbiter := by simp [State.closeTicket]
@[simp] theorem State.closeTicket_payTimer (s : State) (i : Fin 24) : (s.closeTicket i).payTimer = s.payTimer := by simp [State.closeTicket]
@[simp] theorem State.closeTicket_setPending (s : State) (i : Fin 24) : (s.closeTicket i).setPending = s.setPending := by simp [State.closeTicket]
@[simp] theorem State.closeTicket_freeIndex (s : State) (i : Fin 24) : (s.closeTicket i).freeIndex = s.freeIndex := by simp [State.closeTicket]
@[simp] theorem State.closeTicket_pending (s : State) (i : Fin 24) : (s.closeTicket i).pending = s.pending := by simp [State.closeTicket]

/-! ### `State.voidTicket` -/

@[simp] theorem State.voidTicket_phase (s : State) (ticket : Nat) (i : Fin 24) (t : Ticket) : (s.voidTicket ticket i t).phase = s.phase := by
  unfold State.voidTicket; dsimp only; (repeat' split) <;> simp
@[simp] theorem State.voidTicket_key (s : State) (ticket : Nat) (i : Fin 24) (t : Ticket) : (s.voidTicket ticket i t).key = s.key := by
  unfold State.voidTicket; dsimp only; (repeat' split) <;> simp
@[simp] theorem State.voidTicket_batteryLow (s : State) (ticket : Nat) (i : Fin 24) (t : Ticket) : (s.voidTicket ticket i t).batteryLow = s.batteryLow := by
  unfold State.voidTicket; dsimp only; (repeat' split) <;> simp
@[simp] theorem State.voidTicket_watch (s : State) (ticket : Nat) (i : Fin 24) (t : Ticket) : (s.voidTicket ticket i t).watch = s.watch := by
  unfold State.voidTicket; dsimp only; (repeat' split) <;> simp
@[simp] theorem State.voidTicket_till (s : State) (ticket : Nat) (i : Fin 24) (t : Ticket) : (s.voidTicket ticket i t).till = s.till := by
  unfold State.voidTicket; dsimp only; (repeat' split) <;> simp
@[simp] theorem State.voidTicket_clock (s : State) (ticket : Nat) (i : Fin 24) (t : Ticket) : (s.voidTicket ticket i t).clock = s.clock := by
  unfold State.voidTicket; dsimp only; (repeat' split) <;> simp
@[simp] theorem State.voidTicket_edges (s : State) (ticket : Nat) (i : Fin 24) (t : Ticket) : (s.voidTicket ticket i t).edges = s.edges := by
  unfold State.voidTicket; dsimp only; (repeat' split) <;> simp
@[simp] theorem State.voidTicket_retentionMark (s : State) (ticket : Nat) (i : Fin 24) (t : Ticket) : (s.voidTicket ticket i t).retentionMark = s.retentionMark := by
  unfold State.voidTicket; dsimp only; (repeat' split) <;> simp
@[simp] theorem State.voidTicket_batteryFall (s : State) (ticket : Nat) (i : Fin 24) (t : Ticket) : (s.voidTicket ticket i t).batteryFall = s.batteryFall := by
  unfold State.voidTicket; dsimp only; (repeat' split) <;> simp
@[simp] theorem State.voidTicket_settings (s : State) (ticket : Nat) (i : Fin 24) (t : Ticket) : (s.voidTicket ticket i t).settings = s.settings := by
  unfold State.voidTicket; dsimp only; (repeat' split) <;> simp
@[simp] theorem State.voidTicket_image (s : State) (ticket : Nat) (i : Fin 24) (t : Ticket) : (s.voidTicket ticket i t).image = s.image := by
  unfold State.voidTicket; dsimp only; (repeat' split) <;> simp
@[simp] theorem State.voidTicket_saving (s : State) (ticket : Nat) (i : Fin 24) (t : Ticket) : (s.voidTicket ticket i t).saving = s.saving := by
  unfold State.voidTicket; dsimp only; (repeat' split) <;> simp
@[simp] theorem State.voidTicket_arbiter (s : State) (ticket : Nat) (i : Fin 24) (t : Ticket) : (s.voidTicket ticket i t).arbiter = s.arbiter := by
  unfold State.voidTicket; dsimp only; (repeat' split) <;> simp
@[simp] theorem State.voidTicket_payTimer (s : State) (ticket : Nat) (i : Fin 24) (t : Ticket) : (s.voidTicket ticket i t).payTimer = s.payTimer := by
  unfold State.voidTicket; dsimp only; (repeat' split) <;> simp
@[simp] theorem State.voidTicket_setPending (s : State) (ticket : Nat) (i : Fin 24) (t : Ticket) : (s.voidTicket ticket i t).setPending = s.setPending := by
  unfold State.voidTicket; dsimp only; (repeat' split) <;> simp
@[simp] theorem State.voidTicket_freeIndex (s : State) (ticket : Nat) (i : Fin 24) (t : Ticket) : (s.voidTicket ticket i t).freeIndex = s.freeIndex := by
  unfold State.voidTicket; dsimp only; (repeat' split) <;> simp
@[simp] theorem State.voidTicket_pending (s : State) (ticket : Nat) (i : Fin 24) (t : Ticket) : (s.voidTicket ticket i t).pending = s.pending := by
  unfold State.voidTicket; dsimp only; (repeat' split) <;> simp

/-! ### `State.deadlineTest` -/

@[simp] theorem State.deadlineTest_phase (s : State) (i : Fin 24) : (s.deadlineTest i).phase = s.phase := by
  unfold State.deadlineTest; (repeat' split) <;> simp
@[simp] theorem State.deadlineTest_key (s : State) (i : Fin 24) : (s.deadlineTest i).key = s.key := by
  unfold State.deadlineTest; (repeat' split) <;> simp
@[simp] theorem State.deadlineTest_batteryLow (s : State) (i : Fin 24) : (s.deadlineTest i).batteryLow = s.batteryLow := by
  unfold State.deadlineTest; (repeat' split) <;> simp
@[simp] theorem State.deadlineTest_holds (s : State) (i : Fin 24) : (s.deadlineTest i).holds = s.holds := by
  unfold State.deadlineTest; (repeat' split) <;> simp
@[simp] theorem State.deadlineTest_holdOrder (s : State) (i : Fin 24) : (s.deadlineTest i).holdOrder = s.holdOrder := by
  unfold State.deadlineTest; (repeat' split) <;> simp
@[simp] theorem State.deadlineTest_register (s : State) (i : Fin 24) : (s.deadlineTest i).register = s.register := by
  unfold State.deadlineTest; (repeat' split) <;> simp
@[simp] theorem State.deadlineTest_watch (s : State) (i : Fin 24) : (s.deadlineTest i).watch = s.watch := by
  unfold State.deadlineTest; (repeat' split) <;> simp
@[simp] theorem State.deadlineTest_till (s : State) (i : Fin 24) : (s.deadlineTest i).till = s.till := by
  unfold State.deadlineTest; (repeat' split) <;> simp
@[simp] theorem State.deadlineTest_clock (s : State) (i : Fin 24) : (s.deadlineTest i).clock = s.clock := by
  unfold State.deadlineTest; (repeat' split) <;> simp
@[simp] theorem State.deadlineTest_edges (s : State) (i : Fin 24) : (s.deadlineTest i).edges = s.edges := by
  unfold State.deadlineTest; (repeat' split) <;> simp
@[simp] theorem State.deadlineTest_retentionMark (s : State) (i : Fin 24) : (s.deadlineTest i).retentionMark = s.retentionMark := by
  unfold State.deadlineTest; (repeat' split) <;> simp
@[simp] theorem State.deadlineTest_batteryFall (s : State) (i : Fin 24) : (s.deadlineTest i).batteryFall = s.batteryFall := by
  unfold State.deadlineTest; (repeat' split) <;> simp
@[simp] theorem State.deadlineTest_settings (s : State) (i : Fin 24) : (s.deadlineTest i).settings = s.settings := by
  unfold State.deadlineTest; (repeat' split) <;> simp
@[simp] theorem State.deadlineTest_image (s : State) (i : Fin 24) : (s.deadlineTest i).image = s.image := by
  unfold State.deadlineTest; (repeat' split) <;> simp
@[simp] theorem State.deadlineTest_saving (s : State) (i : Fin 24) : (s.deadlineTest i).saving = s.saving := by
  unfold State.deadlineTest; (repeat' split) <;> simp
@[simp] theorem State.deadlineTest_arbiter (s : State) (i : Fin 24) : (s.deadlineTest i).arbiter = s.arbiter := by
  unfold State.deadlineTest; (repeat' split) <;> simp
@[simp] theorem State.deadlineTest_payTimer (s : State) (i : Fin 24) : (s.deadlineTest i).payTimer = s.payTimer := by
  unfold State.deadlineTest; (repeat' split) <;> simp
@[simp] theorem State.deadlineTest_setPending (s : State) (i : Fin 24) : (s.deadlineTest i).setPending = s.setPending := by
  unfold State.deadlineTest; (repeat' split) <;> simp
@[simp] theorem State.deadlineTest_freeIndex (s : State) (i : Fin 24) : (s.deadlineTest i).freeIndex = s.freeIndex := by
  unfold State.deadlineTest; (repeat' split) <;> simp
@[simp] theorem State.deadlineTest_pending (s : State) (i : Fin 24) : (s.deadlineTest i).pending = s.pending := by
  unfold State.deadlineTest; (repeat' split) <;> simp

/-! ### `State.deadlineTests` -/

@[simp] theorem State.deadlineTests_phase (s : State) : (s.deadlineTests).phase = s.phase := by
  unfold State.deadlineTests; exact fold_keeps State.phase State.deadlineTest (fun s i => by simp) _ s
@[simp] theorem State.deadlineTests_key (s : State) : (s.deadlineTests).key = s.key := by
  unfold State.deadlineTests; exact fold_keeps State.key State.deadlineTest (fun s i => by simp) _ s
@[simp] theorem State.deadlineTests_batteryLow (s : State) : (s.deadlineTests).batteryLow = s.batteryLow := by
  unfold State.deadlineTests; exact fold_keeps State.batteryLow State.deadlineTest (fun s i => by simp) _ s
@[simp] theorem State.deadlineTests_holds (s : State) : (s.deadlineTests).holds = s.holds := by
  unfold State.deadlineTests; exact fold_keeps State.holds State.deadlineTest (fun s i => by simp) _ s
@[simp] theorem State.deadlineTests_holdOrder (s : State) : (s.deadlineTests).holdOrder = s.holdOrder := by
  unfold State.deadlineTests; exact fold_keeps State.holdOrder State.deadlineTest (fun s i => by simp) _ s
@[simp] theorem State.deadlineTests_register (s : State) : (s.deadlineTests).register = s.register := by
  unfold State.deadlineTests; exact fold_keeps State.register State.deadlineTest (fun s i => by simp) _ s
@[simp] theorem State.deadlineTests_watch (s : State) : (s.deadlineTests).watch = s.watch := by
  unfold State.deadlineTests; exact fold_keeps State.watch State.deadlineTest (fun s i => by simp) _ s
@[simp] theorem State.deadlineTests_till (s : State) : (s.deadlineTests).till = s.till := by
  unfold State.deadlineTests; exact fold_keeps State.till State.deadlineTest (fun s i => by simp) _ s
@[simp] theorem State.deadlineTests_clock (s : State) : (s.deadlineTests).clock = s.clock := by
  unfold State.deadlineTests; exact fold_keeps State.clock State.deadlineTest (fun s i => by simp) _ s
@[simp] theorem State.deadlineTests_edges (s : State) : (s.deadlineTests).edges = s.edges := by
  unfold State.deadlineTests; exact fold_keeps State.edges State.deadlineTest (fun s i => by simp) _ s
@[simp] theorem State.deadlineTests_retentionMark (s : State) : (s.deadlineTests).retentionMark = s.retentionMark := by
  unfold State.deadlineTests; exact fold_keeps State.retentionMark State.deadlineTest (fun s i => by simp) _ s
@[simp] theorem State.deadlineTests_batteryFall (s : State) : (s.deadlineTests).batteryFall = s.batteryFall := by
  unfold State.deadlineTests; exact fold_keeps State.batteryFall State.deadlineTest (fun s i => by simp) _ s
@[simp] theorem State.deadlineTests_settings (s : State) : (s.deadlineTests).settings = s.settings := by
  unfold State.deadlineTests; exact fold_keeps State.settings State.deadlineTest (fun s i => by simp) _ s
@[simp] theorem State.deadlineTests_image (s : State) : (s.deadlineTests).image = s.image := by
  unfold State.deadlineTests; exact fold_keeps State.image State.deadlineTest (fun s i => by simp) _ s
@[simp] theorem State.deadlineTests_saving (s : State) : (s.deadlineTests).saving = s.saving := by
  unfold State.deadlineTests; exact fold_keeps State.saving State.deadlineTest (fun s i => by simp) _ s
@[simp] theorem State.deadlineTests_arbiter (s : State) : (s.deadlineTests).arbiter = s.arbiter := by
  unfold State.deadlineTests; exact fold_keeps State.arbiter State.deadlineTest (fun s i => by simp) _ s
@[simp] theorem State.deadlineTests_payTimer (s : State) : (s.deadlineTests).payTimer = s.payTimer := by
  unfold State.deadlineTests; exact fold_keeps State.payTimer State.deadlineTest (fun s i => by simp) _ s
@[simp] theorem State.deadlineTests_setPending (s : State) : (s.deadlineTests).setPending = s.setPending := by
  unfold State.deadlineTests; exact fold_keeps State.setPending State.deadlineTest (fun s i => by simp) _ s
@[simp] theorem State.deadlineTests_freeIndex (s : State) : (s.deadlineTests).freeIndex = s.freeIndex := by
  unfold State.deadlineTests; exact fold_keeps State.freeIndex State.deadlineTest (fun s i => by simp) _ s
@[simp] theorem State.deadlineTests_pending (s : State) : (s.deadlineTests).pending = s.pending := by
  unfold State.deadlineTests; exact fold_keeps State.pending State.deadlineTest (fun s i => by simp) _ s

/-! ### `State.settleTicket` -/

@[simp] theorem State.settleTicket_phase (s : State) (ticket : Nat) (i : Fin 24) (g : Settling) : (s.settleTicket ticket i g).phase = s.phase := rfl
@[simp] theorem State.settleTicket_key (s : State) (ticket : Nat) (i : Fin 24) (g : Settling) : (s.settleTicket ticket i g).key = s.key := rfl
@[simp] theorem State.settleTicket_batteryLow (s : State) (ticket : Nat) (i : Fin 24) (g : Settling) : (s.settleTicket ticket i g).batteryLow = s.batteryLow := rfl
@[simp] theorem State.settleTicket_holds (s : State) (ticket : Nat) (i : Fin 24) (g : Settling) : (s.settleTicket ticket i g).holds = s.holds := rfl
@[simp] theorem State.settleTicket_holdOrder (s : State) (ticket : Nat) (i : Fin 24) (g : Settling) : (s.settleTicket ticket i g).holdOrder = s.holdOrder := rfl
@[simp] theorem State.settleTicket_watch (s : State) (ticket : Nat) (i : Fin 24) (g : Settling) : (s.settleTicket ticket i g).watch = s.watch := rfl
@[simp] theorem State.settleTicket_tariff (s : State) (ticket : Nat) (i : Fin 24) (g : Settling) : (s.settleTicket ticket i g).tariff = s.tariff := rfl
@[simp] theorem State.settleTicket_clock (s : State) (ticket : Nat) (i : Fin 24) (g : Settling) : (s.settleTicket ticket i g).clock = s.clock := rfl
@[simp] theorem State.settleTicket_edges (s : State) (ticket : Nat) (i : Fin 24) (g : Settling) : (s.settleTicket ticket i g).edges = s.edges := rfl
@[simp] theorem State.settleTicket_retentionMark (s : State) (ticket : Nat) (i : Fin 24) (g : Settling) : (s.settleTicket ticket i g).retentionMark = s.retentionMark := rfl
@[simp] theorem State.settleTicket_batteryFall (s : State) (ticket : Nat) (i : Fin 24) (g : Settling) : (s.settleTicket ticket i g).batteryFall = s.batteryFall := rfl
@[simp] theorem State.settleTicket_settings (s : State) (ticket : Nat) (i : Fin 24) (g : Settling) : (s.settleTicket ticket i g).settings = s.settings := rfl
@[simp] theorem State.settleTicket_image (s : State) (ticket : Nat) (i : Fin 24) (g : Settling) : (s.settleTicket ticket i g).image = s.image := rfl
@[simp] theorem State.settleTicket_saving (s : State) (ticket : Nat) (i : Fin 24) (g : Settling) : (s.settleTicket ticket i g).saving = s.saving := rfl
@[simp] theorem State.settleTicket_lanes (s : State) (ticket : Nat) (i : Fin 24) (g : Settling) : (s.settleTicket ticket i g).lanes = s.lanes := rfl
@[simp] theorem State.settleTicket_ports (s : State) (ticket : Nat) (i : Fin 24) (g : Settling) : (s.settleTicket ticket i g).ports = s.ports := rfl
@[simp] theorem State.settleTicket_arbiter (s : State) (ticket : Nat) (i : Fin 24) (g : Settling) : (s.settleTicket ticket i g).arbiter = s.arbiter := rfl
@[simp] theorem State.settleTicket_payTimer (s : State) (ticket : Nat) (i : Fin 24) (g : Settling) : (s.settleTicket ticket i g).payTimer = s.payTimer := rfl
@[simp] theorem State.settleTicket_setPending (s : State) (ticket : Nat) (i : Fin 24) (g : Settling) : (s.settleTicket ticket i g).setPending = s.setPending := rfl
@[simp] theorem State.settleTicket_freeIndex (s : State) (ticket : Nat) (i : Fin 24) (g : Settling) : (s.settleTicket ticket i g).freeIndex = s.freeIndex := rfl
@[simp] theorem State.settleTicket_pending (s : State) (ticket : Nat) (i : Fin 24) (g : Settling) : (s.settleTicket ticket i g).pending = s.pending := rfl

/-! ### `State.makeHold` -/

@[simp] theorem State.makeHold_phase (s : State) (i : Fin 64) (c : Case) (cause : Cause) (also : List Cause) (entryMade : Bool) : (s.makeHold i c cause also entryMade).phase = s.phase := rfl
@[simp] theorem State.makeHold_key (s : State) (i : Fin 64) (c : Case) (cause : Cause) (also : List Cause) (entryMade : Bool) : (s.makeHold i c cause also entryMade).key = s.key := rfl
@[simp] theorem State.makeHold_batteryLow (s : State) (i : Fin 64) (c : Case) (cause : Cause) (also : List Cause) (entryMade : Bool) : (s.makeHold i c cause also entryMade).batteryLow = s.batteryLow := rfl
@[simp] theorem State.makeHold_register (s : State) (i : Fin 64) (c : Case) (cause : Cause) (also : List Cause) (entryMade : Bool) : (s.makeHold i c cause also entryMade).register = s.register := rfl
@[simp] theorem State.makeHold_watch (s : State) (i : Fin 64) (c : Case) (cause : Cause) (also : List Cause) (entryMade : Bool) : (s.makeHold i c cause also entryMade).watch = s.watch := rfl
@[simp] theorem State.makeHold_tariff (s : State) (i : Fin 64) (c : Case) (cause : Cause) (also : List Cause) (entryMade : Bool) : (s.makeHold i c cause also entryMade).tariff = s.tariff := rfl
@[simp] theorem State.makeHold_till (s : State) (i : Fin 64) (c : Case) (cause : Cause) (also : List Cause) (entryMade : Bool) : (s.makeHold i c cause also entryMade).till = s.till := rfl
@[simp] theorem State.makeHold_clock (s : State) (i : Fin 64) (c : Case) (cause : Cause) (also : List Cause) (entryMade : Bool) : (s.makeHold i c cause also entryMade).clock = s.clock := rfl
@[simp] theorem State.makeHold_edges (s : State) (i : Fin 64) (c : Case) (cause : Cause) (also : List Cause) (entryMade : Bool) : (s.makeHold i c cause also entryMade).edges = s.edges := rfl
@[simp] theorem State.makeHold_retentionMark (s : State) (i : Fin 64) (c : Case) (cause : Cause) (also : List Cause) (entryMade : Bool) : (s.makeHold i c cause also entryMade).retentionMark = s.retentionMark := rfl
@[simp] theorem State.makeHold_batteryFall (s : State) (i : Fin 64) (c : Case) (cause : Cause) (also : List Cause) (entryMade : Bool) : (s.makeHold i c cause also entryMade).batteryFall = s.batteryFall := rfl
@[simp] theorem State.makeHold_settings (s : State) (i : Fin 64) (c : Case) (cause : Cause) (also : List Cause) (entryMade : Bool) : (s.makeHold i c cause also entryMade).settings = s.settings := rfl
@[simp] theorem State.makeHold_image (s : State) (i : Fin 64) (c : Case) (cause : Cause) (also : List Cause) (entryMade : Bool) : (s.makeHold i c cause also entryMade).image = s.image := rfl
@[simp] theorem State.makeHold_saving (s : State) (i : Fin 64) (c : Case) (cause : Cause) (also : List Cause) (entryMade : Bool) : (s.makeHold i c cause also entryMade).saving = s.saving := rfl
@[simp] theorem State.makeHold_lanes (s : State) (i : Fin 64) (c : Case) (cause : Cause) (also : List Cause) (entryMade : Bool) : (s.makeHold i c cause also entryMade).lanes = s.lanes := rfl
@[simp] theorem State.makeHold_ports (s : State) (i : Fin 64) (c : Case) (cause : Cause) (also : List Cause) (entryMade : Bool) : (s.makeHold i c cause also entryMade).ports = s.ports := rfl
@[simp] theorem State.makeHold_arbiter (s : State) (i : Fin 64) (c : Case) (cause : Cause) (also : List Cause) (entryMade : Bool) : (s.makeHold i c cause also entryMade).arbiter = s.arbiter := rfl
@[simp] theorem State.makeHold_payTimer (s : State) (i : Fin 64) (c : Case) (cause : Cause) (also : List Cause) (entryMade : Bool) : (s.makeHold i c cause also entryMade).payTimer = s.payTimer := rfl
@[simp] theorem State.makeHold_setPending (s : State) (i : Fin 64) (c : Case) (cause : Cause) (also : List Cause) (entryMade : Bool) : (s.makeHold i c cause also entryMade).setPending = s.setPending := rfl
@[simp] theorem State.makeHold_freeIndex (s : State) (i : Fin 64) (c : Case) (cause : Cause) (also : List Cause) (entryMade : Bool) : (s.makeHold i c cause also entryMade).freeIndex = s.freeIndex := rfl
@[simp] theorem State.makeHold_pending (s : State) (i : Fin 64) (c : Case) (cause : Cause) (also : List Cause) (entryMade : Bool) : (s.makeHold i c cause also entryMade).pending = s.pending := rfl

/-! ### `State.applyWatch` -/

@[simp] theorem State.applyWatch_phase (s : State) (i : Fin 24) (w : Watched) (f : Fired) : (s.applyWatch i w f).phase = s.phase := by unfold State.applyWatch; dsimp only; split <;> rfl
@[simp] theorem State.applyWatch_key (s : State) (i : Fin 24) (w : Watched) (f : Fired) : (s.applyWatch i w f).key = s.key := by unfold State.applyWatch; dsimp only; split <;> rfl
@[simp] theorem State.applyWatch_batteryLow (s : State) (i : Fin 24) (w : Watched) (f : Fired) : (s.applyWatch i w f).batteryLow = s.batteryLow := by unfold State.applyWatch; dsimp only; split <;> rfl
@[simp] theorem State.applyWatch_holds (s : State) (i : Fin 24) (w : Watched) (f : Fired) : (s.applyWatch i w f).holds = s.holds := by unfold State.applyWatch; dsimp only; split <;> rfl
@[simp] theorem State.applyWatch_holdOrder (s : State) (i : Fin 24) (w : Watched) (f : Fired) : (s.applyWatch i w f).holdOrder = s.holdOrder := by unfold State.applyWatch; dsimp only; split <;> rfl
@[simp] theorem State.applyWatch_register (s : State) (i : Fin 24) (w : Watched) (f : Fired) : (s.applyWatch i w f).register = s.register := by unfold State.applyWatch; dsimp only; split <;> rfl
@[simp] theorem State.applyWatch_tariff (s : State) (i : Fin 24) (w : Watched) (f : Fired) : (s.applyWatch i w f).tariff = s.tariff := by unfold State.applyWatch; dsimp only; split <;> rfl
@[simp] theorem State.applyWatch_till (s : State) (i : Fin 24) (w : Watched) (f : Fired) : (s.applyWatch i w f).till = s.till := by unfold State.applyWatch; dsimp only; split <;> rfl
@[simp] theorem State.applyWatch_clock (s : State) (i : Fin 24) (w : Watched) (f : Fired) : (s.applyWatch i w f).clock = s.clock := by unfold State.applyWatch; dsimp only; split <;> rfl
@[simp] theorem State.applyWatch_retentionMark (s : State) (i : Fin 24) (w : Watched) (f : Fired) : (s.applyWatch i w f).retentionMark = s.retentionMark := by unfold State.applyWatch; dsimp only; split <;> rfl
@[simp] theorem State.applyWatch_batteryFall (s : State) (i : Fin 24) (w : Watched) (f : Fired) : (s.applyWatch i w f).batteryFall = s.batteryFall := by unfold State.applyWatch; dsimp only; split <;> rfl
@[simp] theorem State.applyWatch_settings (s : State) (i : Fin 24) (w : Watched) (f : Fired) : (s.applyWatch i w f).settings = s.settings := by unfold State.applyWatch; dsimp only; split <;> rfl
@[simp] theorem State.applyWatch_image (s : State) (i : Fin 24) (w : Watched) (f : Fired) : (s.applyWatch i w f).image = s.image := by unfold State.applyWatch; dsimp only; split <;> rfl
@[simp] theorem State.applyWatch_saving (s : State) (i : Fin 24) (w : Watched) (f : Fired) : (s.applyWatch i w f).saving = s.saving := by unfold State.applyWatch; dsimp only; split <;> rfl
@[simp] theorem State.applyWatch_lanes (s : State) (i : Fin 24) (w : Watched) (f : Fired) : (s.applyWatch i w f).lanes = s.lanes := by unfold State.applyWatch; dsimp only; split <;> rfl
@[simp] theorem State.applyWatch_ports (s : State) (i : Fin 24) (w : Watched) (f : Fired) : (s.applyWatch i w f).ports = s.ports := by unfold State.applyWatch; dsimp only; split <;> rfl
@[simp] theorem State.applyWatch_arbiter (s : State) (i : Fin 24) (w : Watched) (f : Fired) : (s.applyWatch i w f).arbiter = s.arbiter := by unfold State.applyWatch; dsimp only; split <;> rfl
@[simp] theorem State.applyWatch_payTimer (s : State) (i : Fin 24) (w : Watched) (f : Fired) : (s.applyWatch i w f).payTimer = s.payTimer := by unfold State.applyWatch; dsimp only; split <;> rfl
@[simp] theorem State.applyWatch_setPending (s : State) (i : Fin 24) (w : Watched) (f : Fired) : (s.applyWatch i w f).setPending = s.setPending := by unfold State.applyWatch; dsimp only; split <;> rfl
@[simp] theorem State.applyWatch_freeIndex (s : State) (i : Fin 24) (w : Watched) (f : Fired) : (s.applyWatch i w f).freeIndex = s.freeIndex := by unfold State.applyWatch; dsimp only; split <;> rfl
@[simp] theorem State.applyWatch_pending (s : State) (i : Fin 24) (w : Watched) (f : Fired) : (s.applyWatch i w f).pending = s.pending := by unfold State.applyWatch; dsimp only; split <;> rfl

/-! ### `State.sendVerdict` -/

@[simp] theorem State.sendVerdict_phase (s : State) (n : Lane) (e : Entry) (v : VerdictFrame) : (s.sendVerdict n e v).phase = s.phase := rfl
@[simp] theorem State.sendVerdict_key (s : State) (n : Lane) (e : Entry) (v : VerdictFrame) : (s.sendVerdict n e v).key = s.key := rfl
@[simp] theorem State.sendVerdict_batteryLow (s : State) (n : Lane) (e : Entry) (v : VerdictFrame) : (s.sendVerdict n e v).batteryLow = s.batteryLow := rfl
@[simp] theorem State.sendVerdict_tickets (s : State) (n : Lane) (e : Entry) (v : VerdictFrame) : (s.sendVerdict n e v).tickets = s.tickets := rfl
@[simp] theorem State.sendVerdict_holds (s : State) (n : Lane) (e : Entry) (v : VerdictFrame) : (s.sendVerdict n e v).holds = s.holds := rfl
@[simp] theorem State.sendVerdict_holdOrder (s : State) (n : Lane) (e : Entry) (v : VerdictFrame) : (s.sendVerdict n e v).holdOrder = s.holdOrder := rfl
@[simp] theorem State.sendVerdict_register (s : State) (n : Lane) (e : Entry) (v : VerdictFrame) : (s.sendVerdict n e v).register = s.register := rfl
@[simp] theorem State.sendVerdict_watch (s : State) (n : Lane) (e : Entry) (v : VerdictFrame) : (s.sendVerdict n e v).watch = s.watch := rfl
@[simp] theorem State.sendVerdict_tariff (s : State) (n : Lane) (e : Entry) (v : VerdictFrame) : (s.sendVerdict n e v).tariff = s.tariff := rfl
@[simp] theorem State.sendVerdict_till (s : State) (n : Lane) (e : Entry) (v : VerdictFrame) : (s.sendVerdict n e v).till = s.till := rfl
@[simp] theorem State.sendVerdict_clock (s : State) (n : Lane) (e : Entry) (v : VerdictFrame) : (s.sendVerdict n e v).clock = s.clock := rfl
@[simp] theorem State.sendVerdict_edges (s : State) (n : Lane) (e : Entry) (v : VerdictFrame) : (s.sendVerdict n e v).edges = s.edges := rfl
@[simp] theorem State.sendVerdict_retentionMark (s : State) (n : Lane) (e : Entry) (v : VerdictFrame) : (s.sendVerdict n e v).retentionMark = s.retentionMark := rfl
@[simp] theorem State.sendVerdict_batteryFall (s : State) (n : Lane) (e : Entry) (v : VerdictFrame) : (s.sendVerdict n e v).batteryFall = s.batteryFall := rfl
@[simp] theorem State.sendVerdict_settings (s : State) (n : Lane) (e : Entry) (v : VerdictFrame) : (s.sendVerdict n e v).settings = s.settings := rfl
@[simp] theorem State.sendVerdict_image (s : State) (n : Lane) (e : Entry) (v : VerdictFrame) : (s.sendVerdict n e v).image = s.image := rfl
@[simp] theorem State.sendVerdict_saving (s : State) (n : Lane) (e : Entry) (v : VerdictFrame) : (s.sendVerdict n e v).saving = s.saving := rfl
@[simp] theorem State.sendVerdict_lanes (s : State) (n : Lane) (e : Entry) (v : VerdictFrame) : (s.sendVerdict n e v).lanes = s.lanes := rfl
@[simp] theorem State.sendVerdict_arbiter (s : State) (n : Lane) (e : Entry) (v : VerdictFrame) : (s.sendVerdict n e v).arbiter = s.arbiter := rfl
@[simp] theorem State.sendVerdict_payTimer (s : State) (n : Lane) (e : Entry) (v : VerdictFrame) : (s.sendVerdict n e v).payTimer = s.payTimer := rfl
@[simp] theorem State.sendVerdict_setPending (s : State) (n : Lane) (e : Entry) (v : VerdictFrame) : (s.sendVerdict n e v).setPending = s.setPending := rfl
@[simp] theorem State.sendVerdict_freeIndex (s : State) (n : Lane) (e : Entry) (v : VerdictFrame) : (s.sendVerdict n e v).freeIndex = s.freeIndex := rfl
@[simp] theorem State.sendVerdict_pending (s : State) (n : Lane) (e : Entry) (v : VerdictFrame) : (s.sendVerdict n e v).pending = s.pending := rfl

/-! ### `State.discard` -/

@[simp] theorem State.discard_phase (s : State) (l : Link) (why : DiscardReason) : (s.discard l why).phase = s.phase := by unfold State.discard; split <;> rfl
@[simp] theorem State.discard_key (s : State) (l : Link) (why : DiscardReason) : (s.discard l why).key = s.key := by unfold State.discard; split <;> rfl
@[simp] theorem State.discard_batteryLow (s : State) (l : Link) (why : DiscardReason) : (s.discard l why).batteryLow = s.batteryLow := by unfold State.discard; split <;> rfl
@[simp] theorem State.discard_tickets (s : State) (l : Link) (why : DiscardReason) : (s.discard l why).tickets = s.tickets := by unfold State.discard; split <;> rfl
@[simp] theorem State.discard_holds (s : State) (l : Link) (why : DiscardReason) : (s.discard l why).holds = s.holds := by unfold State.discard; split <;> rfl
@[simp] theorem State.discard_holdOrder (s : State) (l : Link) (why : DiscardReason) : (s.discard l why).holdOrder = s.holdOrder := by unfold State.discard; split <;> rfl
@[simp] theorem State.discard_register (s : State) (l : Link) (why : DiscardReason) : (s.discard l why).register = s.register := by unfold State.discard; split <;> rfl
@[simp] theorem State.discard_watch (s : State) (l : Link) (why : DiscardReason) : (s.discard l why).watch = s.watch := by unfold State.discard; split <;> rfl
@[simp] theorem State.discard_tariff (s : State) (l : Link) (why : DiscardReason) : (s.discard l why).tariff = s.tariff := by unfold State.discard; split <;> rfl
@[simp] theorem State.discard_till (s : State) (l : Link) (why : DiscardReason) : (s.discard l why).till = s.till := by unfold State.discard; split <;> rfl
@[simp] theorem State.discard_clock (s : State) (l : Link) (why : DiscardReason) : (s.discard l why).clock = s.clock := by unfold State.discard; split <;> rfl
@[simp] theorem State.discard_retentionMark (s : State) (l : Link) (why : DiscardReason) : (s.discard l why).retentionMark = s.retentionMark := by unfold State.discard; split <;> rfl
@[simp] theorem State.discard_batteryFall (s : State) (l : Link) (why : DiscardReason) : (s.discard l why).batteryFall = s.batteryFall := by unfold State.discard; split <;> rfl
@[simp] theorem State.discard_settings (s : State) (l : Link) (why : DiscardReason) : (s.discard l why).settings = s.settings := by unfold State.discard; split <;> rfl
@[simp] theorem State.discard_image (s : State) (l : Link) (why : DiscardReason) : (s.discard l why).image = s.image := by unfold State.discard; split <;> rfl
@[simp] theorem State.discard_saving (s : State) (l : Link) (why : DiscardReason) : (s.discard l why).saving = s.saving := by unfold State.discard; split <;> rfl
@[simp] theorem State.discard_lanes (s : State) (l : Link) (why : DiscardReason) : (s.discard l why).lanes = s.lanes := by unfold State.discard; split <;> rfl
@[simp] theorem State.discard_arbiter (s : State) (l : Link) (why : DiscardReason) : (s.discard l why).arbiter = s.arbiter := by unfold State.discard; split <;> rfl
@[simp] theorem State.discard_payTimer (s : State) (l : Link) (why : DiscardReason) : (s.discard l why).payTimer = s.payTimer := by unfold State.discard; split <;> rfl
@[simp] theorem State.discard_setPending (s : State) (l : Link) (why : DiscardReason) : (s.discard l why).setPending = s.setPending := by unfold State.discard; split <;> rfl
@[simp] theorem State.discard_freeIndex (s : State) (l : Link) (why : DiscardReason) : (s.discard l why).freeIndex = s.freeIndex := by unfold State.discard; split <;> rfl
@[simp] theorem State.discard_pending (s : State) (l : Link) (why : DiscardReason) : (s.discard l why).pending = s.pending := by unfold State.discard; split <;> rfl

/-! ### `State.clearErrors` -/

@[simp] theorem State.clearErrors_phase (s : State) : (s.clearErrors).phase = s.phase := rfl
@[simp] theorem State.clearErrors_key (s : State) : (s.clearErrors).key = s.key := rfl
@[simp] theorem State.clearErrors_batteryLow (s : State) : (s.clearErrors).batteryLow = s.batteryLow := rfl
@[simp] theorem State.clearErrors_tickets (s : State) : (s.clearErrors).tickets = s.tickets := rfl
@[simp] theorem State.clearErrors_holds (s : State) : (s.clearErrors).holds = s.holds := rfl
@[simp] theorem State.clearErrors_holdOrder (s : State) : (s.clearErrors).holdOrder = s.holdOrder := rfl
@[simp] theorem State.clearErrors_register (s : State) : (s.clearErrors).register = s.register := rfl
@[simp] theorem State.clearErrors_watch (s : State) : (s.clearErrors).watch = s.watch := rfl
@[simp] theorem State.clearErrors_tariff (s : State) : (s.clearErrors).tariff = s.tariff := rfl
@[simp] theorem State.clearErrors_till (s : State) : (s.clearErrors).till = s.till := rfl
@[simp] theorem State.clearErrors_clock (s : State) : (s.clearErrors).clock = s.clock := rfl
@[simp] theorem State.clearErrors_edges (s : State) : (s.clearErrors).edges = s.edges := rfl
@[simp] theorem State.clearErrors_retentionMark (s : State) : (s.clearErrors).retentionMark = s.retentionMark := rfl
@[simp] theorem State.clearErrors_batteryFall (s : State) : (s.clearErrors).batteryFall = s.batteryFall := rfl
@[simp] theorem State.clearErrors_settings (s : State) : (s.clearErrors).settings = s.settings := rfl
@[simp] theorem State.clearErrors_image (s : State) : (s.clearErrors).image = s.image := rfl
@[simp] theorem State.clearErrors_saving (s : State) : (s.clearErrors).saving = s.saving := rfl
@[simp] theorem State.clearErrors_lanes (s : State) : (s.clearErrors).lanes = s.lanes := rfl
@[simp] theorem State.clearErrors_arbiter (s : State) : (s.clearErrors).arbiter = s.arbiter := rfl
@[simp] theorem State.clearErrors_payTimer (s : State) : (s.clearErrors).payTimer = s.payTimer := rfl
@[simp] theorem State.clearErrors_setPending (s : State) : (s.clearErrors).setPending = s.setPending := rfl
@[simp] theorem State.clearErrors_freeIndex (s : State) : (s.clearErrors).freeIndex = s.freeIndex := rfl
@[simp] theorem State.clearErrors_pending (s : State) : (s.clearErrors).pending = s.pending := rfl

/-! ### `State.cutSave` -/

@[simp] theorem State.cutSave_phase (s : State) : (s.cutSave).phase = s.phase := by unfold State.cutSave; split <;> rfl
@[simp] theorem State.cutSave_key (s : State) : (s.cutSave).key = s.key := by unfold State.cutSave; split <;> rfl
@[simp] theorem State.cutSave_batteryLow (s : State) : (s.cutSave).batteryLow = s.batteryLow := by unfold State.cutSave; split <;> rfl
@[simp] theorem State.cutSave_tickets (s : State) : (s.cutSave).tickets = s.tickets := by unfold State.cutSave; split <;> rfl
@[simp] theorem State.cutSave_holds (s : State) : (s.cutSave).holds = s.holds := by unfold State.cutSave; split <;> rfl
@[simp] theorem State.cutSave_holdOrder (s : State) : (s.cutSave).holdOrder = s.holdOrder := by unfold State.cutSave; split <;> rfl
@[simp] theorem State.cutSave_register (s : State) : (s.cutSave).register = s.register := by unfold State.cutSave; split <;> rfl
@[simp] theorem State.cutSave_watch (s : State) : (s.cutSave).watch = s.watch := by unfold State.cutSave; split <;> rfl
@[simp] theorem State.cutSave_tariff (s : State) : (s.cutSave).tariff = s.tariff := by unfold State.cutSave; split <;> rfl
@[simp] theorem State.cutSave_till (s : State) : (s.cutSave).till = s.till := by unfold State.cutSave; split <;> rfl
@[simp] theorem State.cutSave_clock (s : State) : (s.cutSave).clock = s.clock := by unfold State.cutSave; split <;> rfl
@[simp] theorem State.cutSave_edges (s : State) : (s.cutSave).edges = s.edges := by unfold State.cutSave; split <;> rfl
@[simp] theorem State.cutSave_retentionMark (s : State) : (s.cutSave).retentionMark = s.retentionMark := by unfold State.cutSave; split <;> rfl
@[simp] theorem State.cutSave_batteryFall (s : State) : (s.cutSave).batteryFall = s.batteryFall := by unfold State.cutSave; split <;> rfl
@[simp] theorem State.cutSave_settings (s : State) : (s.cutSave).settings = s.settings := by unfold State.cutSave; split <;> rfl
@[simp] theorem State.cutSave_lanes (s : State) : (s.cutSave).lanes = s.lanes := by unfold State.cutSave; split <;> rfl
@[simp] theorem State.cutSave_ports (s : State) : (s.cutSave).ports = s.ports := by unfold State.cutSave; split <;> rfl
@[simp] theorem State.cutSave_arbiter (s : State) : (s.cutSave).arbiter = s.arbiter := by unfold State.cutSave; split <;> rfl
@[simp] theorem State.cutSave_payTimer (s : State) : (s.cutSave).payTimer = s.payTimer := by unfold State.cutSave; split <;> rfl
@[simp] theorem State.cutSave_setPending (s : State) : (s.cutSave).setPending = s.setPending := by unfold State.cutSave; split <;> rfl
@[simp] theorem State.cutSave_pending (s : State) : (s.cutSave).pending = s.pending := by unfold State.cutSave; split <;> rfl

/-- All that a cut save can leave (R209): the image as it was, as the erase left it, or as step 3 wrote it. -/
theorem State.cutSave_some (s : State) (v : Save) (h : s.saving = some v) :
    ∃ i, (i = v.former ∨ i = s.image ∨ i = Image.of v.copy) ∧ s.cutSave = { s with saving := none, image := i, freeIndex := s.freeIndex + 1 } := by
  simp only [State.cutSave, h]
  split
  · exact ⟨_, .inr (.inr rfl), rfl⟩
  · split
    · exact ⟨_, .inr (.inl rfl), rfl⟩
    · exact ⟨_, .inl rfl, rfl⟩

@[simp] theorem State.cutSave_of_none (s : State) (h : s.saving = none) : s.cutSave = s := by simp [State.cutSave, h]

/-! ### `State.cutStart` -/

/-- All that a cut start can be: the same state, the mark and the latch apart. -/
theorem State.cutStart_eq (s : State) : ∃ mark latch k, s.cutStart = { s with retentionMark := mark, batteryFall := latch, freeIndex := k } := by
  unfold State.cutStart; split
  · split
    · exact ⟨_, _, _, rfl⟩
    · exact ⟨_, _, _, rfl⟩
  · exact ⟨_, _, _, rfl⟩

@[simp] theorem State.cutStart_phase (s : State) : s.cutStart.phase = s.phase := by obtain ⟨_, _, _, h⟩ := s.cutStart_eq; rw [h]
@[simp] theorem State.cutStart_key (s : State) : s.cutStart.key = s.key := by obtain ⟨_, _, _, h⟩ := s.cutStart_eq; rw [h]
@[simp] theorem State.cutStart_batteryLow (s : State) : s.cutStart.batteryLow = s.batteryLow := by obtain ⟨_, _, _, h⟩ := s.cutStart_eq; rw [h]
@[simp] theorem State.cutStart_tickets (s : State) : s.cutStart.tickets = s.tickets := by obtain ⟨_, _, _, h⟩ := s.cutStart_eq; rw [h]
@[simp] theorem State.cutStart_holds (s : State) : s.cutStart.holds = s.holds := by obtain ⟨_, _, _, h⟩ := s.cutStart_eq; rw [h]
@[simp] theorem State.cutStart_holdOrder (s : State) : s.cutStart.holdOrder = s.holdOrder := by obtain ⟨_, _, _, h⟩ := s.cutStart_eq; rw [h]
@[simp] theorem State.cutStart_register (s : State) : s.cutStart.register = s.register := by obtain ⟨_, _, _, h⟩ := s.cutStart_eq; rw [h]
@[simp] theorem State.cutStart_watch (s : State) : s.cutStart.watch = s.watch := by obtain ⟨_, _, _, h⟩ := s.cutStart_eq; rw [h]
@[simp] theorem State.cutStart_tariff (s : State) : s.cutStart.tariff = s.tariff := by obtain ⟨_, _, _, h⟩ := s.cutStart_eq; rw [h]
@[simp] theorem State.cutStart_till (s : State) : s.cutStart.till = s.till := by obtain ⟨_, _, _, h⟩ := s.cutStart_eq; rw [h]
@[simp] theorem State.cutStart_clock (s : State) : s.cutStart.clock = s.clock := by obtain ⟨_, _, _, h⟩ := s.cutStart_eq; rw [h]
@[simp] theorem State.cutStart_edges (s : State) : s.cutStart.edges = s.edges := by obtain ⟨_, _, _, h⟩ := s.cutStart_eq; rw [h]
@[simp] theorem State.cutStart_settings (s : State) : s.cutStart.settings = s.settings := by obtain ⟨_, _, _, h⟩ := s.cutStart_eq; rw [h]
@[simp] theorem State.cutStart_image (s : State) : s.cutStart.image = s.image := by obtain ⟨_, _, _, h⟩ := s.cutStart_eq; rw [h]
@[simp] theorem State.cutStart_saving (s : State) : s.cutStart.saving = s.saving := by obtain ⟨_, _, _, h⟩ := s.cutStart_eq; rw [h]
@[simp] theorem State.cutStart_lanes (s : State) : s.cutStart.lanes = s.lanes := by obtain ⟨_, _, _, h⟩ := s.cutStart_eq; rw [h]
@[simp] theorem State.cutStart_ports (s : State) : s.cutStart.ports = s.ports := by obtain ⟨_, _, _, h⟩ := s.cutStart_eq; rw [h]
@[simp] theorem State.cutStart_arbiter (s : State) : s.cutStart.arbiter = s.arbiter := by obtain ⟨_, _, _, h⟩ := s.cutStart_eq; rw [h]
@[simp] theorem State.cutStart_payTimer (s : State) : s.cutStart.payTimer = s.payTimer := by obtain ⟨_, _, _, h⟩ := s.cutStart_eq; rw [h]
@[simp] theorem State.cutStart_setPending (s : State) : s.cutStart.setPending = s.setPending := by obtain ⟨_, _, _, h⟩ := s.cutStart_eq; rw [h]
@[simp] theorem State.cutStart_pending (s : State) : s.cutStart.pending = s.pending := by obtain ⟨_, _, _, h⟩ := s.cutStart_eq; rw [h]
@[simp] theorem State.cutStart_of_phase (s : State) (h : ∀ latch, s.phase ≠ .starting (.cold latch)) : s.cutStart = s := by
  unfold State.cutStart; split
  · exact absurd ‹_› (h _)
  · rfl

/-! ### `State.loadSettings` -/

@[simp] theorem State.loadSettings_phase (s : State) : (s.loadSettings).phase = s.phase := by unfold State.loadSettings; dsimp only; split <;> rfl
@[simp] theorem State.loadSettings_key (s : State) : (s.loadSettings).key = s.key := by unfold State.loadSettings; dsimp only; split <;> rfl
@[simp] theorem State.loadSettings_batteryLow (s : State) : (s.loadSettings).batteryLow = s.batteryLow := by unfold State.loadSettings; dsimp only; split <;> rfl
@[simp] theorem State.loadSettings_tickets (s : State) : (s.loadSettings).tickets = s.tickets := by unfold State.loadSettings; dsimp only; split <;> rfl
@[simp] theorem State.loadSettings_holds (s : State) : (s.loadSettings).holds = s.holds := by unfold State.loadSettings; dsimp only; split <;> rfl
@[simp] theorem State.loadSettings_holdOrder (s : State) : (s.loadSettings).holdOrder = s.holdOrder := by unfold State.loadSettings; dsimp only; split <;> rfl
@[simp] theorem State.loadSettings_register (s : State) : (s.loadSettings).register = s.register := by unfold State.loadSettings; dsimp only; split <;> rfl
@[simp] theorem State.loadSettings_watch (s : State) : (s.loadSettings).watch = s.watch := by unfold State.loadSettings; dsimp only; split <;> rfl
@[simp] theorem State.loadSettings_tariff (s : State) : (s.loadSettings).tariff = s.tariff := by unfold State.loadSettings; dsimp only; split <;> rfl
@[simp] theorem State.loadSettings_till (s : State) : (s.loadSettings).till = s.till := by unfold State.loadSettings; dsimp only; split <;> rfl
@[simp] theorem State.loadSettings_clock (s : State) : (s.loadSettings).clock = s.clock := by unfold State.loadSettings; dsimp only; split <;> rfl
@[simp] theorem State.loadSettings_retentionMark (s : State) : (s.loadSettings).retentionMark = s.retentionMark := by unfold State.loadSettings; dsimp only; split <;> rfl
@[simp] theorem State.loadSettings_batteryFall (s : State) : (s.loadSettings).batteryFall = s.batteryFall := by unfold State.loadSettings; dsimp only; split <;> rfl
@[simp] theorem State.loadSettings_image (s : State) : (s.loadSettings).image = s.image := by unfold State.loadSettings; dsimp only; split <;> rfl
@[simp] theorem State.loadSettings_saving (s : State) : (s.loadSettings).saving = s.saving := by unfold State.loadSettings; dsimp only; split <;> rfl
@[simp] theorem State.loadSettings_lanes (s : State) : (s.loadSettings).lanes = s.lanes := by unfold State.loadSettings; dsimp only; split <;> rfl
@[simp] theorem State.loadSettings_ports (s : State) : (s.loadSettings).ports = s.ports := by unfold State.loadSettings; dsimp only; split <;> rfl
@[simp] theorem State.loadSettings_arbiter (s : State) : (s.loadSettings).arbiter = s.arbiter := by unfold State.loadSettings; dsimp only; split <;> rfl
@[simp] theorem State.loadSettings_payTimer (s : State) : (s.loadSettings).payTimer = s.payTimer := by unfold State.loadSettings; dsimp only; split <;> rfl
@[simp] theorem State.loadSettings_setPending (s : State) : (s.loadSettings).setPending = s.setPending := by unfold State.loadSettings; dsimp only; split <;> rfl
@[simp] theorem State.loadSettings_freeIndex (s : State) : (s.loadSettings).freeIndex = s.freeIndex := by unfold State.loadSettings; dsimp only; split <;> rfl
@[simp] theorem State.loadSettings_pending (s : State) : (s.loadSettings).pending = s.pending := by unfold State.loadSettings; dsimp only; split <;> rfl

/-! ### `State.startVolatile` -/

@[simp] theorem State.startVolatile_phase (s : State) : (s.startVolatile).phase = s.phase := rfl
@[simp] theorem State.startVolatile_key (s : State) : (s.startVolatile).key = s.key := rfl
@[simp] theorem State.startVolatile_batteryLow (s : State) : (s.startVolatile).batteryLow = s.batteryLow := rfl
@[simp] theorem State.startVolatile_tickets (s : State) : (s.startVolatile).tickets = s.tickets := rfl
@[simp] theorem State.startVolatile_holds (s : State) : (s.startVolatile).holds = s.holds := rfl
@[simp] theorem State.startVolatile_holdOrder (s : State) : (s.startVolatile).holdOrder = s.holdOrder := rfl
@[simp] theorem State.startVolatile_register (s : State) : (s.startVolatile).register = s.register := rfl
@[simp] theorem State.startVolatile_watch (s : State) : (s.startVolatile).watch = s.watch := rfl
@[simp] theorem State.startVolatile_tariff (s : State) : (s.startVolatile).tariff = s.tariff := rfl
@[simp] theorem State.startVolatile_till (s : State) : (s.startVolatile).till = s.till := rfl
@[simp] theorem State.startVolatile_clock (s : State) : (s.startVolatile).clock = s.clock := rfl
@[simp] theorem State.startVolatile_edges (s : State) : (s.startVolatile).edges = s.edges := rfl
@[simp] theorem State.startVolatile_retentionMark (s : State) : (s.startVolatile).retentionMark = s.retentionMark := rfl
@[simp] theorem State.startVolatile_batteryFall (s : State) : (s.startVolatile).batteryFall = s.batteryFall := rfl
@[simp] theorem State.startVolatile_settings (s : State) : (s.startVolatile).settings = s.settings := rfl
@[simp] theorem State.startVolatile_image (s : State) : (s.startVolatile).image = s.image := rfl
@[simp] theorem State.startVolatile_saving (s : State) : (s.startVolatile).saving = s.saving := rfl
@[simp] theorem State.startVolatile_freeIndex (s : State) : (s.startVolatile).freeIndex = s.freeIndex := rfl
@[simp] theorem State.startVolatile_pending (s : State) : (s.startVolatile).pending = s.pending := rfl

/-! ### `State.dropVolatile` -/

@[simp] theorem State.dropVolatile_phase (s : State) : (s.dropVolatile).phase = s.phase := rfl
@[simp] theorem State.dropVolatile_key (s : State) : (s.dropVolatile).key = s.key := rfl
@[simp] theorem State.dropVolatile_batteryLow (s : State) : (s.dropVolatile).batteryLow = s.batteryLow := rfl
@[simp] theorem State.dropVolatile_tickets (s : State) : (s.dropVolatile).tickets = s.tickets := rfl
@[simp] theorem State.dropVolatile_holds (s : State) : (s.dropVolatile).holds = s.holds := rfl
@[simp] theorem State.dropVolatile_holdOrder (s : State) : (s.dropVolatile).holdOrder = s.holdOrder := rfl
@[simp] theorem State.dropVolatile_register (s : State) : (s.dropVolatile).register = s.register := rfl
@[simp] theorem State.dropVolatile_watch (s : State) : (s.dropVolatile).watch = s.watch := rfl
@[simp] theorem State.dropVolatile_tariff (s : State) : (s.dropVolatile).tariff = s.tariff := rfl
@[simp] theorem State.dropVolatile_till (s : State) : (s.dropVolatile).till = s.till := rfl
@[simp] theorem State.dropVolatile_clock (s : State) : (s.dropVolatile).clock = s.clock := rfl
@[simp] theorem State.dropVolatile_edges (s : State) : (s.dropVolatile).edges = s.edges := rfl
@[simp] theorem State.dropVolatile_retentionMark (s : State) : (s.dropVolatile).retentionMark = s.retentionMark := rfl
@[simp] theorem State.dropVolatile_batteryFall (s : State) : (s.dropVolatile).batteryFall = s.batteryFall := rfl
@[simp] theorem State.dropVolatile_settings (s : State) : (s.dropVolatile).settings = s.settings := rfl
@[simp] theorem State.dropVolatile_image (s : State) : (s.dropVolatile).image = s.image := rfl
@[simp] theorem State.dropVolatile_saving (s : State) : (s.dropVolatile).saving = s.saving := rfl
@[simp] theorem State.dropVolatile_freeIndex (s : State) : (s.dropVolatile).freeIndex = s.freeIndex := rfl
@[simp] theorem State.dropVolatile_pending (s : State) : (s.dropVolatile).pending = s.pending := rfl

/-! ### `State.warmFixups` -/

@[simp] theorem State.warmFixups_phase (s : State) : (s.warmFixups).phase = s.phase := rfl
@[simp] theorem State.warmFixups_key (s : State) : (s.warmFixups).key = s.key := rfl
@[simp] theorem State.warmFixups_batteryLow (s : State) : (s.warmFixups).batteryLow = s.batteryLow := rfl
@[simp] theorem State.warmFixups_holds (s : State) : (s.warmFixups).holds = s.holds := rfl
@[simp] theorem State.warmFixups_holdOrder (s : State) : (s.warmFixups).holdOrder = s.holdOrder := rfl
@[simp] theorem State.warmFixups_register (s : State) : (s.warmFixups).register = s.register := rfl
@[simp] theorem State.warmFixups_watch (s : State) : (s.warmFixups).watch = s.watch := rfl
@[simp] theorem State.warmFixups_tariff (s : State) : (s.warmFixups).tariff = s.tariff := rfl
@[simp] theorem State.warmFixups_till (s : State) : (s.warmFixups).till = s.till := rfl
@[simp] theorem State.warmFixups_clock (s : State) : (s.warmFixups).clock = s.clock := rfl
@[simp] theorem State.warmFixups_edges (s : State) : (s.warmFixups).edges = s.edges := rfl
@[simp] theorem State.warmFixups_retentionMark (s : State) : (s.warmFixups).retentionMark = s.retentionMark := rfl
@[simp] theorem State.warmFixups_batteryFall (s : State) : (s.warmFixups).batteryFall = s.batteryFall := rfl
@[simp] theorem State.warmFixups_settings (s : State) : (s.warmFixups).settings = s.settings := rfl
@[simp] theorem State.warmFixups_image (s : State) : (s.warmFixups).image = s.image := rfl
@[simp] theorem State.warmFixups_saving (s : State) : (s.warmFixups).saving = s.saving := rfl
@[simp] theorem State.warmFixups_lanes (s : State) : (s.warmFixups).lanes = s.lanes := rfl
@[simp] theorem State.warmFixups_ports (s : State) : (s.warmFixups).ports = s.ports := rfl
@[simp] theorem State.warmFixups_arbiter (s : State) : (s.warmFixups).arbiter = s.arbiter := rfl
@[simp] theorem State.warmFixups_payTimer (s : State) : (s.warmFixups).payTimer = s.payTimer := rfl
@[simp] theorem State.warmFixups_setPending (s : State) : (s.warmFixups).setPending = s.setPending := rfl
@[simp] theorem State.warmFixups_freeIndex (s : State) : (s.warmFixups).freeIndex = s.freeIndex := rfl
@[simp] theorem State.warmFixups_pending (s : State) : (s.warmFixups).pending = s.pending := rfl

/-! ### `State.loseDomain` -/

@[simp] theorem State.loseDomain_phase (s : State) : s.loseDomain.phase = s.phase := rfl
@[simp] theorem State.loseDomain_key (s : State) : s.loseDomain.key = s.key := rfl
@[simp] theorem State.loseDomain_tickets (s : State) : s.loseDomain.tickets = s.tickets := rfl
@[simp] theorem State.loseDomain_holds (s : State) : s.loseDomain.holds = s.holds := rfl
@[simp] theorem State.loseDomain_holdOrder (s : State) : s.loseDomain.holdOrder = s.holdOrder := rfl
@[simp] theorem State.loseDomain_register (s : State) : s.loseDomain.register = s.register := rfl
@[simp] theorem State.loseDomain_watch (s : State) : s.loseDomain.watch = s.watch := rfl
@[simp] theorem State.loseDomain_tariff (s : State) : s.loseDomain.tariff = s.tariff := rfl
@[simp] theorem State.loseDomain_till (s : State) : s.loseDomain.till = s.till := rfl
@[simp] theorem State.loseDomain_clock (s : State) : s.loseDomain.clock = s.clock := rfl
@[simp] theorem State.loseDomain_edges (s : State) : s.loseDomain.edges = s.edges := rfl
@[simp] theorem State.loseDomain_settings (s : State) : s.loseDomain.settings = s.settings := rfl
@[simp] theorem State.loseDomain_image (s : State) : s.loseDomain.image = s.image := rfl
@[simp] theorem State.loseDomain_saving (s : State) : s.loseDomain.saving = s.saving := rfl
@[simp] theorem State.loseDomain_lanes (s : State) : s.loseDomain.lanes = s.lanes := rfl
@[simp] theorem State.loseDomain_ports (s : State) : s.loseDomain.ports = s.ports := rfl
@[simp] theorem State.loseDomain_arbiter (s : State) : s.loseDomain.arbiter = s.arbiter := rfl
@[simp] theorem State.loseDomain_payTimer (s : State) : s.loseDomain.payTimer = s.payTimer := rfl
@[simp] theorem State.loseDomain_setPending (s : State) : s.loseDomain.setPending = s.setPending := rfl
@[simp] theorem State.loseDomain_freeIndex (s : State) : s.loseDomain.freeIndex = s.freeIndex := rfl
@[simp] theorem State.loseDomain_pending (s : State) : s.loseDomain.pending = s.pending := rfl

/-! ### `State.openLinks` -/

@[simp] theorem State.openLinks_key (s : State) : (s.openLinks).key = s.key := rfl
@[simp] theorem State.openLinks_batteryLow (s : State) : (s.openLinks).batteryLow = s.batteryLow := rfl
@[simp] theorem State.openLinks_tickets (s : State) : (s.openLinks).tickets = s.tickets := rfl
@[simp] theorem State.openLinks_holds (s : State) : (s.openLinks).holds = s.holds := rfl
@[simp] theorem State.openLinks_holdOrder (s : State) : (s.openLinks).holdOrder = s.holdOrder := rfl
@[simp] theorem State.openLinks_register (s : State) : (s.openLinks).register = s.register := rfl
@[simp] theorem State.openLinks_watch (s : State) : (s.openLinks).watch = s.watch := rfl
@[simp] theorem State.openLinks_tariff (s : State) : (s.openLinks).tariff = s.tariff := rfl
@[simp] theorem State.openLinks_till (s : State) : (s.openLinks).till = s.till := rfl
@[simp] theorem State.openLinks_clock (s : State) : (s.openLinks).clock = s.clock := rfl
@[simp] theorem State.openLinks_edges (s : State) : (s.openLinks).edges = s.edges := rfl
@[simp] theorem State.openLinks_retentionMark (s : State) : (s.openLinks).retentionMark = s.retentionMark := rfl
@[simp] theorem State.openLinks_batteryFall (s : State) : (s.openLinks).batteryFall = s.batteryFall := rfl
@[simp] theorem State.openLinks_settings (s : State) : (s.openLinks).settings = s.settings := rfl
@[simp] theorem State.openLinks_image (s : State) : (s.openLinks).image = s.image := rfl
@[simp] theorem State.openLinks_saving (s : State) : (s.openLinks).saving = s.saving := rfl
@[simp] theorem State.openLinks_ports (s : State) : (s.openLinks).ports = s.ports := rfl
@[simp] theorem State.openLinks_arbiter (s : State) : (s.openLinks).arbiter = s.arbiter := rfl
@[simp] theorem State.openLinks_payTimer (s : State) : (s.openLinks).payTimer = s.payTimer := rfl
@[simp] theorem State.openLinks_setPending (s : State) : (s.openLinks).setPending = s.setPending := rfl
@[simp] theorem State.openLinks_freeIndex (s : State) : (s.openLinks).freeIndex = s.freeIndex := rfl
@[simp] theorem State.openLinks_pending (s : State) : (s.openLinks).pending = s.pending := rfl

/-! ### `State.handBoundary` -/

@[simp] theorem State.handBoundary_phase (s : State) : (s.handBoundary).phase = s.phase := by simp [State.handBoundary]
@[simp] theorem State.handBoundary_key (s : State) : (s.handBoundary).key = s.key := by simp [State.handBoundary]
@[simp] theorem State.handBoundary_batteryLow (s : State) : (s.handBoundary).batteryLow = s.batteryLow := by simp [State.handBoundary]
@[simp] theorem State.handBoundary_register (s : State) : (s.handBoundary).register = s.register := by simp [State.handBoundary]
@[simp] theorem State.handBoundary_watch (s : State) : (s.handBoundary).watch = s.watch := by simp [State.handBoundary]
@[simp] theorem State.handBoundary_till (s : State) : (s.handBoundary).till = s.till := by simp [State.handBoundary]
@[simp] theorem State.handBoundary_clock (s : State) : (s.handBoundary).clock = s.clock := by simp [State.handBoundary]
@[simp] theorem State.handBoundary_retentionMark (s : State) : (s.handBoundary).retentionMark = s.retentionMark := by simp [State.handBoundary]
@[simp] theorem State.handBoundary_batteryFall (s : State) : (s.handBoundary).batteryFall = s.batteryFall := by simp [State.handBoundary]
@[simp] theorem State.handBoundary_settings (s : State) : (s.handBoundary).settings = s.settings := by simp [State.handBoundary]
@[simp] theorem State.handBoundary_image (s : State) : (s.handBoundary).image = s.image := by simp [State.handBoundary]
@[simp] theorem State.handBoundary_saving (s : State) : (s.handBoundary).saving = s.saving := by simp [State.handBoundary]
@[simp] theorem State.handBoundary_payTimer (s : State) : (s.handBoundary).payTimer = s.payTimer := by simp [State.handBoundary]
@[simp] theorem State.handBoundary_setPending (s : State) : (s.handBoundary).setPending = s.setPending := by simp [State.handBoundary]
@[simp] theorem State.handBoundary_pending (s : State) : (s.handBoundary).pending = s.pending := by simp [State.handBoundary]

/-! ### `State.rebaseTo` -/

@[simp] theorem State.rebaseTo_phase (s : State) (c : ClockSet) : (s.rebaseTo c).phase = s.phase := rfl
@[simp] theorem State.rebaseTo_key (s : State) (c : ClockSet) : (s.rebaseTo c).key = s.key := rfl
@[simp] theorem State.rebaseTo_batteryLow (s : State) (c : ClockSet) : (s.rebaseTo c).batteryLow = s.batteryLow := rfl
@[simp] theorem State.rebaseTo_holdOrder (s : State) (c : ClockSet) : (s.rebaseTo c).holdOrder = s.holdOrder := rfl
@[simp] theorem State.rebaseTo_watch (s : State) (c : ClockSet) : (s.rebaseTo c).watch = s.watch := rfl
@[simp] theorem State.rebaseTo_tariff (s : State) (c : ClockSet) : (s.rebaseTo c).tariff = s.tariff := rfl
@[simp] theorem State.rebaseTo_till (s : State) (c : ClockSet) : (s.rebaseTo c).till = s.till := rfl
@[simp] theorem State.rebaseTo_edges (s : State) (c : ClockSet) : (s.rebaseTo c).edges = s.edges := rfl
@[simp] theorem State.rebaseTo_retentionMark (s : State) (c : ClockSet) : (s.rebaseTo c).retentionMark = s.retentionMark := rfl
@[simp] theorem State.rebaseTo_batteryFall (s : State) (c : ClockSet) : (s.rebaseTo c).batteryFall = s.batteryFall := rfl
@[simp] theorem State.rebaseTo_settings (s : State) (c : ClockSet) : (s.rebaseTo c).settings = s.settings := rfl
@[simp] theorem State.rebaseTo_image (s : State) (c : ClockSet) : (s.rebaseTo c).image = s.image := rfl
@[simp] theorem State.rebaseTo_saving (s : State) (c : ClockSet) : (s.rebaseTo c).saving = s.saving := rfl
@[simp] theorem State.rebaseTo_ports (s : State) (c : ClockSet) : (s.rebaseTo c).ports = s.ports := rfl
@[simp] theorem State.rebaseTo_arbiter (s : State) (c : ClockSet) : (s.rebaseTo c).arbiter = s.arbiter := rfl
@[simp] theorem State.rebaseTo_payTimer (s : State) (c : ClockSet) : (s.rebaseTo c).payTimer = s.payTimer := rfl
@[simp] theorem State.rebaseTo_freeIndex (s : State) (c : ClockSet) : (s.rebaseTo c).freeIndex = s.freeIndex := rfl
@[simp] theorem State.rebaseTo_pending (s : State) (c : ClockSet) : (s.rebaseTo c).pending = s.pending := rfl

/-! ## The pool after its deadline tests -/

theorem State.resolveHold_holds (s : State) (i : Fin 64) (h : Hold) (expired : Bool) :
    (s.resolveHold i h expired).holds = s.holds.modify i (fun sl => { sl with hold := none }) := by
  unfold State.resolveHold State.freeHold
  simp only
  split
  · rfl
  · simp

/-- The test of one slot frees its hold when that made no entry and its deadline is reached, and touches no other slot's. -/
theorem State.expireAtTest_hold (s : State) (i j : Fin 64) : ((s.expireAtTest i).holds.get j).hold =
    if i = j then (s.holds.get j).hold.filter (fun h => !(atOrAfter s.clock.minute h.deadline && !h.entryMade))
    else (s.holds.get j).hold := by
  unfold State.expireAtTest
  by_cases e : i = j
  · subst e
    simp only [if_true]
    cases hh : (s.holds.get i).hold with
    | none => simp [hh]
    | some h =>
      simp only
      split
      · rename_i hc; rw [State.resolveHold_holds]; simp [Option.filter, hc]
      · rename_i hc; simp [hh, Option.filter, hc]
  · simp only [if_neg e]
    split
    · rfl
    · split
      · rw [State.resolveHold_holds, Table.get_modify, if_neg e]
      · rfl

end Sys2Proof.Machine
end

