-- ==== Sys2Proof/Laws/Ops.lean ====
section
/-! SUPPORT. What each shared operation answers, said once: requests taken and not taken, names of tickets and holds, the first free slot, the
arbiter, the pricing test. -/

namespace Sys2Proof.Machine

open Sys2Proof

/-! ## Changes that agree where they act are one change -/

theorem PerLane.modify_congr {α : Type} {p : PerLane α} {n : Lane} {f g : α → α} (h : f (p.get n) = g (p.get n)) :
    p.modify n f = p.modify n g := by
  cases n <;> simpa [PerLane.modify, PerLane.get] using h

theorem PerLink.modify_congr {α : Type} {p : PerLink α} {l : Link} {f g : α → α} (h : f (p.get l) = g (p.get l)) :
    p.modify l f = p.modify l g := by
  cases l with
  | lane n => simp only [PerLink.modify]; rw [PerLane.modify_congr h]
  | k => simpa [PerLink.modify, PerLink.get] using h
  | f => simpa [PerLink.modify, PerLink.get] using h

theorem State.modifyLane_congr {s : State} {n : Lane} {f g : Intake → Intake} (h : f (s.lane n) = g (s.lane n)) :
    s.modifyLane n f = s.modifyLane n g := by
  unfold State.modifyLane; rw [PerLane.modify_congr h]

theorem State.modifyPort_congr {s : State} {l : Link} {f g : Port → Port} (h : f (s.port l) = g (s.port l)) :
    s.modifyPort l f = s.modifyPort l g := by
  unfold State.modifyPort; rw [PerLink.modify_congr h]

/-- A change of a record that stands is the record it makes put in its place. -/
theorem State.modifyTicket_eq_put {s : State} {i : Fin 24} {t : Ticket} (h : s.ticketAt i = some t) (f : Ticket → Ticket) :
    s.modifyTicket i f = s.putTicket i (f t) := by
  have h' : (s.tickets.get i).ticket = some t := h
  unfold State.putTicket State.modifyTicket Table.modify
  simp [h']

@[simp] theorem State.putTicket_ticketAt_same {s : State} {i : Fin 24} {t u : Ticket} (h : s.ticketAt i = some t) :
    (s.putTicket i u).ticketAt i = some u := by
  simp [State.putTicket, h]

theorem State.modifyLane_modifyLane (s : State) (n : Lane) (f g : Intake → Intake) :
    (s.modifyLane n f).modifyLane n g = s.modifyLane n (fun i => g (f i)) := by
  cases n <;> rfl

theorem State.modifyPort_modifyPort (s : State) (l : Link) (f g : Port → Port) :
    (s.modifyPort l f).modifyPort l g = s.modifyPort l (fun p => g (f p)) := by
  rcases l with n | _ | _ <;> (try cases n) <;> rfl

theorem Table.set_set {α : Type} {n : Nat} (t : Table α n) (i : Fin n) (x y : α) : (t.set i x).set i y = t.set i y := by
  simp [Table.set]

theorem State.putTicket_putTicket (s : State) (i : Fin 24) (t u : Ticket) : (s.putTicket i t).putTicket i u = s.putTicket i u := by
  unfold State.putTicket State.modifyTicket Table.modify
  simp [Table.set_set, Option.map_map, Function.comp_def]

/-! ## Deaf links -/

theorem State.listening_eq_false {s : State} {l : Link} : s.listening l = false ↔ s.deaf l := by
  unfold State.deaf State.listening State.running
  cases l with
  | lane n =>
    simp
    constructor
    · intro h
      by_cases hp : s.phase = .running
      · exact Or.inr (h hp)
      · exact Or.inl hp
    · rintro (h | h)
      · intro h2; exact absurd h2 h
      · intro _; exact h
  | k => simp
  | f => simp

/-- A saturating count is the lesser of its limit and the next number. -/
theorem bump_eq_min (top n : Nat) : bump top n = min top (n + 1) := by unfold bump; split <;> omega

/-! ## Requests -/

theorem State.takeRequest_of_canTake {s : State} {l : Link} (h : s.canTake l) (kind tag : Nat) (f : State → State) :
    s.takeRequest l kind tag f = (f ((s.heardDesk l).modifyPort l (Port.enqueue kind tag))).heardLane l := by
  simp [State.takeRequest, h.1, h.2]

theorem State.takeRequest_of_full {s : State} {l : Link} (h : s.listening l = true) (full : s.hasRoom l = false) (kind tag : Nat)
    (f : State → State) : s.takeRequest l kind tag f = s.overflow l := by
  simp [State.takeRequest, h, full]

theorem State.takeRequest_of_dropped {s : State} {l : Link} (h : s.listening l = false) (kind tag : Nat) (f : State → State) :
    s.takeRequest l kind tag f = s := by
  simp [State.takeRequest, h]

/-- A request whose handling is to be left waiting. -/
theorem State.waiting_eq {s : State} {l : Link} (h : s.canTake l) (kind tag : Nat) :
    s.takeRequest l kind tag (fun s => s) = s.waiting l kind tag :=
  State.takeRequest_of_canTake h kind tag _

@[simp] theorem State.withKey_canTake (s : State) (k : Bool) (l : Link) : (s.withKey k).canTake l ↔ s.canTake l := by
  cases l <;> exact Iff.rfl

/-! ## Names of tickets and holds -/

theorem State.findTicket_eq_some {s : State} {number : Nat} {i : Fin 24} :
    s.findTicket number = some i ↔ (s.ticketAt i).isSome = true ∧ s.ticketNumber i = number := by
  unfold State.findTicket State.ticketNumber
  constructor
  · intro h
    split at h
    · rename_i hb
      simp only [] at h
      split at h
      · rename_i hc
        simp only [Option.some.injEq] at h
        subst h
        simp only [Bool.and_eq_true, beq_iff_eq] at hc
        refine ⟨hc.1, ?_⟩
        rw [hc.2]
        simp only
        omega
      · cases h
    · cases h
  · rintro ⟨h1, h2⟩
    have hi := i.isLt
    have hb : 1 ≤ number % 256 ∧ number % 256 ≤ 24 := by omega
    have he : (⟨number % 256 - 1, by omega⟩ : Fin 24) = i := by ext; simp only; omega
    have hg : (s.tickets.get i).generation = number / 256 := by omega
    rw [dif_pos hb]
    simp only [he, h1, hg, Bool.true_and, beq_self_eq_true, if_true]

theorem State.lookupTicket_eq_some {s : State} {number : Nat} {i : Fin 24} {t : Ticket} :
    s.lookupTicket number = some (i, t) ↔ s.ticketAt i = some t ∧ s.ticketNumber i = number := by
  unfold State.lookupTicket
  constructor
  · intro h
    split at h
    · cases h
    · rename_i j hj
      split at h
      · cases h
      · rename_i u hu
        simp only [Option.some.injEq, Prod.mk.injEq] at h
        obtain ⟨rfl, rfl⟩ := h
        exact ⟨hu, (State.findTicket_eq_some.mp hj).2⟩
  · rintro ⟨h1, h2⟩
    have : s.findTicket number = some i := State.findTicket_eq_some.mpr ⟨by simp [h1], h2⟩
    simp [this, h1]

theorem State.lookupTicket_eq_none {s : State} {number : Nat} :
    s.lookupTicket number = none ↔ ∀ i t, s.ticketAt i = some t → s.ticketNumber i ≠ number := by
  constructor
  · intro h i t ht hn
    rw [State.lookupTicket_eq_some.mpr ⟨ht, hn⟩] at h
    cases h
  · intro h
    cases hl : s.lookupTicket number with
    | none => rfl
    | some p =>
      obtain ⟨h1, h2⟩ := State.lookupTicket_eq_some.mp (show s.lookupTicket number = some (p.1, p.2) from hl)
      exact absurd h2 (h _ _ h1)

theorem State.findTicket_of_lookup {s : State} {number : Nat} {i : Fin 24} {t : Ticket} (h : s.lookupTicket number = some (i, t)) :
    s.findTicket number = some i := by
  obtain ⟨h1, h2⟩ := State.lookupTicket_eq_some.mp h
  exact State.findTicket_eq_some.mpr ⟨by simp [h1], h2⟩

theorem State.findTicket_eq_none {s : State} {number : Nat} : s.findTicket number = none ↔ s.lookupTicket number = none := by
  constructor
  · intro h; simp [State.lookupTicket, h]
  · intro h
    cases hf : s.findTicket number with
    | none => rfl
    | some i =>
      obtain ⟨h1, h2⟩ := State.findTicket_eq_some.mp hf
      obtain ⟨t, ht⟩ := Option.isSome_iff_exists.mp h1
      rw [State.lookupTicket_eq_some.mpr ⟨ht, h2⟩] at h
      cases h

/-- A number names at most one slot of the ticket table. -/
theorem State.ticketNumber_inj {s : State} {i j : Fin 24} (h : s.ticketNumber i = s.ticketNumber j) : i = j := by
  unfold State.ticketNumber at h
  ext
  omega

theorem State.findHold_eq_some {s : State} {number : Nat} {i : Fin 64} :
    s.findHold number = some i ↔ (s.holds.get i).hold.isSome = true ∧ s.holdNumber i = number := by
  unfold State.findHold State.holdNumber
  constructor
  · intro h
    split at h
    · rename_i hb
      simp only [] at h
      split at h
      · rename_i hc
        simp only [Option.some.injEq] at h
        subst h
        simp only [Bool.and_eq_true, beq_iff_eq] at hc
        refine ⟨hc.1, ?_⟩
        rw [hc.2]
        simp only
        omega
      · cases h
    · cases h
  · rintro ⟨h1, h2⟩
    have hi := i.isLt
    have hb : number % 256 < 64 := by omega
    have he : (⟨number % 256, hb⟩ : Fin 64) = i := by ext; simp only; omega
    have hg : (s.holds.get i).generation = number / 256 := by omega
    rw [dif_pos hb]
    simp only [he, h1, hg, Bool.true_and, beq_self_eq_true, if_true]

theorem State.lookupHold_eq_some {s : State} {number : Nat} {i : Fin 64} {h : Hold} :
    s.lookupHold number = some (i, h) ↔ (s.holds.get i).hold = some h ∧ s.holdNumber i = number := by
  unfold State.lookupHold
  constructor
  · intro hh
    split at hh
    · cases hh
    · rename_i j hj
      split at hh
      · cases hh
      · rename_i u hu
        simp only [Option.some.injEq, Prod.mk.injEq] at hh
        obtain ⟨rfl, rfl⟩ := hh
        exact ⟨hu, (State.findHold_eq_some.mp hj).2⟩
  · rintro ⟨h1, h2⟩
    have : s.findHold number = some i := State.findHold_eq_some.mpr ⟨by simp [h1], h2⟩
    simp [this, h1]

/-- A number names at most one slot of the hold pool. -/
theorem State.holdNumber_inj {s : State} {i j : Fin 64} (h : s.holdNumber i = s.holdNumber j) : i = j := by
  unfold State.holdNumber at h
  ext
  omega

/-! ## The first free slot -/

/-- The first number of a range that satisfies a test. -/
theorem find_finRange_eq_some {n : Nat} {p : Fin n → Bool} {i : Fin n} :
    (List.finRange n).find? p = some i ↔ p i = true ∧ ∀ j, j < i → p j = false := by
  rw [List.find?_eq_some_iff_getElem]
  constructor
  · rintro ⟨h1, k, hk, he, hlt⟩
    refine ⟨h1, fun j hj => ?_⟩
    simp only [List.getElem_finRange] at he
    have hik : i.val = k := by rw [← he]; rfl
    have := hlt j.val (by omega)
    simpa [List.getElem_finRange] using this
  · rintro ⟨h1, h2⟩
    refine ⟨h1, i.val, by simp, by simp [List.getElem_finRange], fun j hj => ?_⟩
    simpa [List.getElem_finRange] using h2 ⟨j, by omega⟩ hj

theorem State.freeTicketSlot_eq_some {s : State} {i : Fin 24} :
    s.freeTicketSlot = some i ↔ s.ticketAt i = none ∧ ∀ j, j < i → (s.ticketAt j).isSome = true := by
  unfold State.freeTicketSlot
  rw [find_finRange_eq_some]
  simp

theorem State.freeTicketSlot_eq_none {s : State} : s.freeTicketSlot = none ↔ ∀ i, (s.ticketAt i).isSome = true := by
  simp [State.freeTicketSlot, List.find?_eq_none, Option.isSome_iff_ne_none]

theorem State.freeHoldSlot_eq_some {s : State} {i : Fin 64} :
    s.freeHoldSlot = some i ↔ (s.holds.get i).hold = none ∧ ∀ j, j < i → (s.holds.get j).hold.isSome = true := by
  unfold State.freeHoldSlot
  rw [find_finRange_eq_some]
  simp

theorem State.freeHoldSlot_eq_none {s : State} : s.freeHoldSlot = none ↔ ∀ i, (s.holds.get i).hold.isSome = true := by
  simp [State.freeHoldSlot, List.find?_eq_none, Option.isSome_iff_ne_none]

/-! ## The pricing test -/

theorem State.priceTest_of_clear {s : State} {i : Fin 24} {t : Ticket} (h : s.ticketAt i = some t) (c : t.clearToPrice = true) :
    s.priceTest i = { s.modifyTicket i (Ticket.priceWith (s.tariff.bank t.bank) s.settings.cashStep s.settings.cashCap) with
        tariff := s.tariff.dropRef t.bank } := by
  simp [State.priceTest, h, c]

theorem State.priceTest_of_blocked {s : State} {i : Fin 24} {t : Ticket} (h : s.ticketAt i = some t) (c : t.clearToPrice = false) :
    s.priceTest i = s := by
  simp [State.priceTest, h, c]

/-! ## The arbiter -/

theorem State.raiseOrBusy_of_room {s : State} (h : s.arbiter.officeRoom = true) (l : Link) (op : OfficeOp) :
    s.raiseOrBusy l op = s.modifyArbiter (Arbiter.raiseOffice op) := by
  simp [State.raiseOrBusy, h]

theorem State.raiseOrBusy_of_full {s : State} (h : s.arbiter.officeRoom = false) (l : Link) (op : OfficeOp) :
    s.raiseOrBusy l op = s.replyCode l .busy := by
  simp [State.raiseOrBusy, h]

/-- An operation raised while another is in service waits. -/
theorem Arbiter.settle_of_serving {a : Arbiter} (h : a.serving.isSome = true) : a.settle = a := by
  unfold Arbiter.settle
  cases hs : a.serving with
  | none => rw [hs] at h; cases h
  | some op => rfl

/-- The position served next is the first in the rotation at which an operation waits. -/
theorem Arbiter.rotate_of_first {a : Arbiter} {p : Position} (h : a.last.rotation.find? a.waits = some p) : a.rotate = a.serve p := by
  simp [Arbiter.rotate, h]

theorem Arbiter.rotate_of_idle {a : Arbiter} (h : a.last.rotation.find? a.waits = none) : a.rotate = { a with serving := none } := by
  simp [Arbiter.rotate, h]

/-- Every position stands in the rotation, whichever was served last. -/
theorem Position.mem_rotation (p q : Position) : q ∈ p.rotation := by
  rcases p with n | _ | _ <;> rcases q with m | _ | _ <;> (try cases n) <;> (try cases m) <;> decide

/-- A rebase that waits is served before any waiting operation. -/
theorem State.completeOperation_of_rebase {s : State} (h : s.setPending.isSome = true) :
    s.completeOperation = s.modifyArbiter (fun a => { a with serving := some .rebase }) := by
  simp [State.completeOperation, h]

theorem State.completeOperation_of_rotation {s : State} (h : s.setPending.isSome = false) :
    s.completeOperation = s.modifyArbiter (fun a => { a with serving := none }.rotate) := by
  simp [State.completeOperation, h]

/-! ## Frames of the part's own, answers and coded sets -/

theorem State.sendOwn_of_up {s : State} {n : Lane} (h : (s.lane n).state ≠ .down) (f : OwnFrame) : s.sendOwn n f = s.sentOrLost n f := by
  unfold State.sendOwn State.sentOrLost Port.sendOwn
  simp only [if_neg h, bump_eq_min]

theorem State.sendOwn_of_down {s : State} {n : Lane} (h : (s.lane n).state = .down) (f : OwnFrame) : s.sendOwn n f = s := by
  unfold State.sendOwn
  simp only [if_pos h]
  cases n <;> rfl

theorem littleEndian_eq (width value : Nat) : littleEndian width value = leBytes width value := by
  unfold littleEndian
  induction width generalizing value with
  | zero => rfl
  | succ w ih =>
    rw [List.range_succ_eq_map, List.map_cons, List.map_map, leBytes, ← ih]
    simp only [pow_zero, Nat.div_one]
    congr 1
    apply List.map_congr_left
    intro a _
    simp only [Function.comp, Nat.succ_eq_add_one, Nat.pow_succ', Nat.div_div_eq_div_mul]

theorem setCode_testBit (codes : List Nat) (n : Nat) : (setCode codes).testBit n = codes.contains n := by
  have h : ∀ acc : Nat, (codes.foldl (fun a n => a ||| 2 ^ n) acc).testBit n = (acc.testBit n || codes.contains n) := by
    induction codes with
    | nil => simp
    | cons c cs ih =>
      intro acc
      simp only [List.foldl_cons, ih, List.contains_cons, Nat.testBit_or, Nat.testBit_two_pow]
      by_cases hc : c = n
      · subst hc; simp
      · have : (n == c) = false := by simpa using fun e : n = c => hc e.symm
        simp [hc, this]
  simpa [setCode] using h 0

theorem answerLast_append (a : Answer) (rs : List Request) (r : Request) : answerLast a (rs ++ [r]) = rs ++ [{ r with answer := some a }] := by
  induction rs with
  | nil => rfl
  | cons q rs ih =>
    cases rs with
    | nil => rfl
    | cons q' rs' =>
      simp only [List.cons_append] at ih ⊢
      rw [answerLast, ih]
      simp

theorem answerOldest_append {kind tag : Nat} {a : Answer} {before after : List Request}
    (h : ∀ r ∈ before, r.kind = kind → r.answer.isSome = true) :
    answerOldest kind a (before ++ ⟨kind, tag, none⟩ :: after) = before ++ ⟨kind, tag, some a⟩ :: after := by
  induction before with
  | nil => simp [answerOldest]
  | cons r rs ih =>
    simp only [List.cons_append, answerOldest]
    rw [if_neg, ih (fun q hq => h q (List.mem_cons_of_mem _ hq))]
    rintro ⟨h1, h2⟩
    have := h r List.mem_cons_self h1
    simp [h2] at this

theorem itemInRegister_iff (it : Item) : itemInRegister it = true ↔ it.serial ≠ 0 ∧ (it.grade = 0 ∨ it.grade = 1) := by
  unfold itemInRegister gradeOf
  split <;> simp_all

/-! ## Counters -/

theorem lineIndex_inj {c d : Fin 16} {g h : Grade} {o p : Ownership} (hg : g ≠ .scrap) (hh : h ≠ .scrap)
    (e : lineIndex c g o = lineIndex d h p) : c = d ∧ g = h ∧ o = p := by
  have := congrArg Fin.val e
  cases g <;> cases h <;> cases o <;> cases p <;> simp_all [lineIndex, Fin.ext_iff] <;> omega

/-- A counter after one was set: that one has the value, every other stands. -/
theorem Ticket.counter_setCounter (t : Ticket) (c d : Fin 16) (g h : Grade) (o p : Ownership) (v : Nat) :
    (t.setCounter c g o v).counter d h p = if d = c ∧ h = g ∧ (g = .scrap ∨ p = o) then v else t.counter d h p := by
  split
  · rename_i e
    obtain ⟨rfl, rfl, e | rfl⟩ := e
    · subst e; simp [Ticket.counter, Ticket.setCounter]
    · cases h <;> simp [Ticket.counter, Ticket.setCounter]
  · rename_i e
    cases g <;> cases h <;> simp only [Ticket.counter, Ticket.setCounter, Table.get_set] <;> rw [if_neg] <;> intro hh
    all_goals try exact e ⟨hh.symm, rfl, .inl rfl⟩
    all_goals
      have i := lineIndex_inj (by simp) (by simp) hh.symm
      exact e ⟨i.1, i.2.1, .inr i.2.2⟩

end Sys2Proof.Machine
end

