-- ==== Sys2Proof/Laws/PerInstr.lean ====
section
/-! SUPPORT. The per-command family `FitsFrame`: a well-formed command that is a frame has a payload of at most 116 bytes and a KIND that its
link's master may send (R190, R216). -/

namespace Sys2Proof.Laws.FitsFrame

open Sys2Proof

/-- A well-formed command's frame fits a frame of its link. -/
def Statement (i : Instr) : Prop :=
  i.wf = true → ∀ img, encodeFrame i = some img → img.payload.length ≤ 116 ∧ (allowedKinds img.link).contains img.kind = true

theorem offer (n : Lane) (tag : Nat) (ability : ModeSet) (version : Nat) (ack : Bool) : Statement (.offer n tag ability version ack) := by
  intro _ img h; cases h; exact ⟨by simp, rfl⟩

theorem item (n : Lane) (it : Item) : Statement (.item n it) := by
  intro _ img h; cases h; exact ⟨by simp, rfl⟩

theorem bind (n : Lane) (tag ticket : Nat) : Statement (.bind n tag ticket) := by
  intro _ img h; cases h; exact ⟨by simp, rfl⟩

theorem unbind (n : Lane) (tag : Nat) : Statement (.unbind n tag) := by
  intro _ img h; cases h; exact ⟨by simp, rfl⟩

theorem keepalive (l : Link) (tag : Nat) : Statement (.keepalive l tag) := by
  intro w img h; cases h
  cases l with
  | lane n => exact ⟨by simp, rfl⟩
  | k => exact ⟨by simp, rfl⟩
  | f => simp [Instr.wf] at w

theorem openTicket (tag account : Nat) (cash : Option Nat) : Statement (.openTicket tag account cash) := by
  intro _ img h; cases cash <;> cases h <;> exact ⟨by simp, rfl⟩

theorem quote (tag ticket : Nat) : Statement (.quote tag ticket) := by
  intro _ img h; cases h; exact ⟨by simp, rfl⟩

theorem close (tag ticket : Nat) : Statement (.close tag ticket) := by
  intro _ img h; cases h; exact ⟨by simp, rfl⟩

theorem adjust (tag ticket cls grade ownership : Nat) (delta : Int) : Statement (.adjust tag ticket cls grade ownership delta) := by
  intro _ img h; cases h; exact ⟨by simp, rfl⟩

theorem confirmCount (tag ticket : Nat) : Statement (.confirmCount tag ticket) := by
  intro _ img h; cases h; exact ⟨by simp, rfl⟩

theorem void (tag ticket : Nat) : Statement (.void tag ticket) := by
  intro _ img h; cases h; exact ⟨by simp, rfl⟩

theorem voidWalk : Statement (.voidWalk) := by
  intro _ img h; cases h

theorem settleToAccount (tag ticket : Nat) : Statement (.settleToAccount tag ticket) := by
  intro _ img h; cases h; exact ⟨by simp, rfl⟩

theorem settleWalk : Statement (.settleWalk) := by
  intro _ img h; cases h

theorem collect (tag ticket : Nat) : Statement (.collect tag ticket) := by
  intro _ img h; cases h; exact ⟨by simp, rfl⟩

theorem ticketRead (tag ticket : Nat) : Statement (.ticketRead tag ticket) := by
  intro _ img h; cases h; exact ⟨by simp, rfl⟩

theorem pay (tag ticket : Nat) : Statement (.pay tag ticket) := by
  intro _ img h; cases h; exact ⟨by simp, rfl⟩

theorem dispensed (tag ticket amount : Nat) : Statement (.dispensed tag ticket amount) := by
  intro _ img h; cases h; exact ⟨by simp, rfl⟩

theorem payTimeout : Statement (.payTimeout) := by
  intro _ img h; cases h

theorem resolve (key : Bool) (tag ticket amount : Nat) : Statement (.resolve key tag ticket amount) := by
  intro _ img h; cases h; exact ⟨by simp, rfl⟩

theorem tillLoad (key : Bool) (tag amount : Nat) : Statement (.tillLoad key tag amount) := by
  intro _ img h; cases h; exact ⟨by simp, rfl⟩

theorem tillCount (key : Bool) (tag balance : Nat) : Statement (.tillCount key tag balance) := by
  intro _ img h; cases h; exact ⟨by simp, rfl⟩

theorem release (tag hold verdict amended : Nat) : Statement (.release tag hold verdict amended) := by
  intro _ img h; cases h; exact ⟨by simp, rfl⟩

theorem releaseOperation : Statement (.releaseOperation) := by
  intro _ img h; cases h

theorem holdRead (tag selector number : Nat) : Statement (.holdRead tag selector number) := by
  intro _ img h; cases h; exact ⟨by simp, rfl⟩

theorem bankWrite (tag cls : Nat) (entry : RawClassEntry) : Statement (.bankWrite tag cls entry) := by
  intro _ img h; cases h; exact ⟨by simp, rfl⟩

theorem feeWrite (tag fee : Nat) : Statement (.feeWrite tag fee) := by
  intro _ img h; cases h; exact ⟨by simp, rfl⟩

theorem bankRead (tag bank cls : Nat) : Statement (.bankRead tag bank cls) := by
  intro _ img h; cases h; exact ⟨by simp, rfl⟩

theorem changeoverArm (tag time : Nat) : Statement (.changeoverArm tag time) := by
  intro _ img h; cases h; exact ⟨by simp, rfl⟩

theorem changeoverDisarm (tag : Nat) : Statement (.changeoverDisarm tag) := by
  intro _ img h; cases h; exact ⟨by simp, rfl⟩

theorem watchWrite (key : Bool) (tag entry : Nat) (rule : RawRule) : Statement (.watchWrite key tag entry rule) := by
  intro _ img h; cases h; exact ⟨by simp, rfl⟩

theorem watchRead (tag entry : Nat) : Statement (.watchRead tag entry) := by
  intro _ img h; cases h; exact ⟨by simp, rfl⟩

theorem captureRead (key : Bool) (tag entry : Nat) : Statement (.captureRead key tag entry) := by
  intro _ img h; cases h; exact ⟨by simp, rfl⟩

theorem issue (tag : Nat) (serials : List Nat) : Statement (.issue tag serials) := by
  intro w img h; cases h
  simp only [Instr.wf, Bool.and_eq_true, decide_eq_true_eq] at w
  refine ⟨?_, rfl⟩
  simp [Function.comp_def]
  omega

theorem issueOperation : Statement (.issueOperation) := by
  intro _ img h; cases h

theorem registerQuery (tag serial : Nat) : Statement (.registerQuery tag serial) := by
  intro _ img h; cases h; exact ⟨by simp, rfl⟩

theorem registerQueryOperation : Statement (.registerQueryOperation) := by
  intro _ img h; cases h

theorem clearGuard (key : Bool) (tag : Nat) : Statement (.clearGuard key tag) := by
  intro _ img h; cases h; exact ⟨by simp, rfl⟩

theorem clearGuardOperation : Statement (.clearGuardOperation) := by
  intro _ img h; cases h

theorem setClock (tag minute second : Nat) : Statement (.setClock tag minute second) := by
  intro _ img h; cases h; exact ⟨by simp, rfl⟩

theorem rebase : Statement (.rebase) := by
  intro _ img h; cases h

theorem clockRead (tag : Nat) : Statement (.clockRead tag) := by
  intro _ img h; cases h; exact ⟨by simp, rfl⟩

theorem settingsWrite (tag identifier index value : Nat) : Statement (.settingsWrite tag identifier index value) := by
  intro _ img h; cases h; exact ⟨by simp, rfl⟩

theorem settingsRead (tag : Nat) : Statement (.settingsRead tag) := by
  intro _ img h; cases h; exact ⟨by simp, rfl⟩

theorem saveSettings (tag : Nat) : Statement (.saveSettings tag) := by
  intro _ img h; cases h; exact ⟨by simp, rfl⟩

theorem saveComplete (same : Bool) : Statement (.saveComplete same) := by
  intro _ img h; cases h

theorem linkStatus (tag : Nat) : Statement (.linkStatus tag) := by
  intro _ img h; cases h; exact ⟨by simp, rfl⟩

theorem restartLane (tag lane : Nat) : Statement (.restartLane tag lane) := by
  intro _ img h; cases h; exact ⟨by simp, rfl⟩

theorem attentionRead (tag : Nat) : Statement (.attentionRead tag) := by
  intro _ img h; cases h; exact ⟨by simp, rfl⟩

theorem resetUnit (tag : Nat) : Statement (.resetUnit tag) := by
  intro _ img h; cases h; exact ⟨by simp, rfl⟩

theorem reject (l : Link) (kind tag : Nat) : Statement (.reject l kind tag) := by
  intro _ img h; cases h

theorem frameOverflow (l : Link) : Statement (.frameOverflow l) := by
  intro _ img h; cases h

theorem frameDiscard (l : Link) (why : BadFrame) : Statement (.frameDiscard l why) := by
  intro _ img h; cases h

theorem gapTimerExpiry (l : Link) : Statement (.gapTimerExpiry l) := by
  intro _ img h; cases h

theorem frameSent (l : Link) : Statement (.frameSent l) := by
  intro _ img h; cases h

theorem takeInHand (n : Lane) : Statement (.takeInHand n) := by
  intro _ img h; cases h

theorem verdictOperation : Statement (.verdictOperation) := by
  intro _ img h; cases h

theorem laneSilenceExpiry (n : Lane) : Statement (.laneSilenceExpiry n) := by
  intro _ img h; cases h

theorem breakIntervalEnd (n : Lane) : Statement (.breakIntervalEnd n) := by
  intro _ img h; cases h

theorem muteRelease (n : Lane) : Statement (.muteRelease n) := by
  intro _ img h; cases h

theorem burstWindowRestart : Statement (.burstWindowRestart) := by
  intro _ img h; cases h

theorem linkSilenceExpiry (l : Link) : Statement (.linkSilenceExpiry l) := by
  intro _ img h; cases h

theorem gateInputChange (n : Lane) (broken : Bool) : Statement (.gateInputChange n broken) := by
  intro _ img h; cases h

theorem gateEdge (n : Lane) : Statement (.gateEdge n) := by
  intro _ img h; cases h

theorem minuteBoundary : Statement (.minuteBoundary) := by
  intro _ img h; cases h

theorem holdExpiryOperation : Statement (.holdExpiryOperation) := by
  intro _ img h; cases h

theorem sweep : Statement (.sweep) := by
  intro _ img h; cases h

theorem powerOnReset : Statement (.powerOnReset) := by
  intro _ img h; cases h

theorem endOfStartUp : Statement (.endOfStartUp) := by
  intro _ img h; cases h

theorem resetInput : Statement (.resetInput) := by
  intro _ img h; cases h

theorem resetInputRelease : Statement (.resetInputRelease) := by
  intro _ img h; cases h

theorem supplyLoss : Statement (.supplyLoss) := by
  intro _ img h; cases h

theorem batteryFall : Statement (.batteryFall) := by
  intro _ img h; cases h

theorem byteReceived (l : Link) (key : Bool) (b : Byte) : Statement (.byteReceived l key b) := by
  intro _ img h; cases h

theorem clockSecond : Statement (.clockSecond) := by
  intro _ img h; cases h

theorem batteryLevelChange (low : Bool) : Statement (.batteryLevelChange low) := by
  intro _ img h; cases h

end Sys2Proof.Laws.FitsFrame
end

