-- ==== Sys2Proof/Laws/Register.lean ====
section
/-! SUPPORT. The keg register's canonical form: every change of the register keeps the serials strictly rising, none 0, and the entry count
equal to the number of entries (R106). -/

namespace Sys2Proof.Machine

open Sys2Proof

/-! ## Entries in rising order -/

theorem find_eq_none_iff {r : Register} {serial : Nat} : r.find serial = none ↔ ∀ e ∈ r.entries, e.serial ≠ serial := by
  simp [Register.find, List.find?_eq_none]

theorem mem_insertSorted {k e : KegEntry} : ∀ {es : List KegEntry}, e ∈ insertSorted k es ↔ e = k ∨ e ∈ es
  | [] => by simp [insertSorted]
  | a :: es => by
    unfold insertSorted
    split
    · simp
    · rw [List.mem_cons, mem_insertSorted, List.mem_cons]
      constructor
      · rintro (h | h | h) <;> simp [h]
      · rintro (h | h | h) <;> simp [h]

@[simp] theorem length_insertSorted (k : KegEntry) : ∀ es : List KegEntry, (insertSorted k es).length = es.length + 1
  | [] => rfl
  | a :: es => by
    unfold insertSorted
    split
    · rfl
    · simp [length_insertSorted k es]

theorem insertSorted_rising {k : KegEntry} : ∀ {es : List KegEntry}, es.Pairwise (fun a b => a.serial < b.serial) →
    (∀ e ∈ es, e.serial ≠ k.serial) → (insertSorted k es).Pairwise (fun a b => a.serial < b.serial)
  | [], _, _ => by simp [insertSorted]
  | a :: es, hp, hn => by
    rw [List.pairwise_cons] at hp
    unfold insertSorted
    split
    · rename_i hlt
      rw [List.pairwise_cons]
      refine ⟨fun e he => ?_, List.pairwise_cons.mpr hp⟩
      rcases List.mem_cons.mp he with rfl | he'
      · exact hlt
      · exact Nat.lt_trans hlt (hp.1 e he')
    · rename_i hge
      rw [List.pairwise_cons]
      refine ⟨fun e he => ?_, insertSorted_rising hp.2 (fun e he => hn e (List.mem_cons_of_mem _ he))⟩
      rcases mem_insertSorted.mp he with rfl | he'
      · have := hn a List.mem_cons_self
        omega
      · exact hp.1 e he'

/-- Among entries of rising serials, one entry goes with its serial. -/
theorem length_filter_serial {serial : Nat} : ∀ {es : List KegEntry}, es.Pairwise (fun a b => a.serial < b.serial) →
    (∃ e ∈ es, e.serial = serial) → (es.filter (fun e => e.serial != serial)).length + 1 = es.length
  | [], _, h => by obtain ⟨e, he, _⟩ := h; cases he
  | a :: es, hp, h => by
    rw [List.pairwise_cons] at hp
    by_cases ha : a.serial = serial
    · have hk : es.filter (fun e => e.serial != serial) = es := by
        rw [List.filter_eq_self]
        intro e he
        have := hp.1 e he
        simp only [bne_iff_ne, ne_eq]
        omega
      simp [ha, hk]
    · obtain ⟨e, he, hs⟩ := h
      rcases List.mem_cons.mp he with rfl | he'
      · exact absurd hs ha
      · have := length_filter_serial hp.2 ⟨e, he', hs⟩
        simp [ha, this]

theorem oldestIssued_mem {minute serial age : Nat} : ∀ {es : List KegEntry}, oldestIssued minute es = some (serial, age) →
    ∃ e ∈ es, e.serial = serial
  | [], h => by cases h
  | a :: es, h => by
    unfold oldestIssued at h
    split at h
    · rename_i st sr ag _ hr
      split at h
      · simp only [Option.some.injEq, Prod.mk.injEq] at h
        exact ⟨a, List.mem_cons_self, h.1⟩
      · simp only [Option.some.injEq, Prod.mk.injEq] at h
        obtain ⟨e, he, hs⟩ := oldestIssued_mem hr
        exact ⟨e, List.mem_cons_of_mem _ he, hs.trans h.1⟩
    · simp only [Option.some.injEq, Prod.mk.injEq] at h
      exact ⟨a, List.mem_cons_self, h.1⟩
    · obtain ⟨e, he, hs⟩ := oldestIssued_mem h
      exact ⟨e, List.mem_cons_of_mem _ he, hs⟩

/-! ## Each change keeps the form -/

theorem Register.keep_ok {r : Register} (h : r.ok) (test : KegEntry → Bool) : (r.keep test).ok := by
  obtain ⟨h1, h2, h3, h4, h5⟩ := h
  have hl : (r.entries.filter test).length ≤ r.entries.length := List.length_filter_le _ _
  refine ⟨h1.filter _, fun e he => h2 e (List.mem_of_mem_filter he), ?_, ?_, h5⟩
  · simp only [Register.keep]; omega
  · simp only [Register.keep]; omega

theorem Register.update_ok {r : Register} (h : r.ok) (f : KegEntry → KegEntry) : (r.update f).ok := by
  obtain ⟨h1, h2, h3, h4, h5⟩ := h
  refine ⟨?_, ?_, ?_, h4, h5⟩
  · exact List.pairwise_map.mpr h1
  · intro e he
    obtain ⟨a, ha, rfl⟩ := List.mem_map.mp he
    exact h2 a ha
  · simp [Register.update, h3]

theorem Register.updateSerial_ok {r : Register} (h : r.ok) (serial : Nat) (f : KegEntry → KegEntry) : (r.updateSerial serial f).ok :=
  r.update_ok h _

theorem Register.removeSerial_ok {r : Register} (h : r.ok) (serial : Nat) : (r.removeSerial serial).ok := r.keep_ok h _

theorem Register.creditTicket_ok {r : Register} (h : r.ok) (minute ticket : Nat) : (r.creditTicket minute ticket).ok := r.update_ok h _

theorem Register.voidTicket_ok {r : Register} (h : r.ok) (ticket : Nat) : (r.voidTicket ticket).ok := r.keep_ok h _

theorem Register.dropPending_ok {r : Register} (h : r.ok) (serial ticket : Nat) : (r.dropPending serial ticket).ok := r.keep_ok h _

theorem Register.guard_ok {r : Register} (h : r.ok) (g : Option Nat) : ({ r with guardEnd := g } : Register).ok := h

theorem Register.sweep_ok {r : Register} (h : r.ok) (minute lockout retention : Nat) : (r.sweep minute lockout retention).ok :=
  (r.keep_ok h _ : (r.keep (fun e => !swept minute lockout retention e)).ok)

theorem Register.rebase_ok {r : Register} (h : r.ok) (delta : Nat) : (r.rebase delta).ok := (r.update_ok h _ : (r.update (KegEntry.rebase delta)).ok)

theorem Register.insert_ok {r r1 : Register} {minute : Nat} {k : KegEntry} (h : r.ok) (absent : r.find k.serial = none)
    (nonzero : k.serial ≠ 0) (hi : r.insert minute k = some r1) : r1.ok := by
  obtain ⟨h1, h2, h3, h4, h5⟩ := h
  have hn := find_eq_none_iff.mp absent
  unfold Register.insert at hi
  split at hi
  · rename_i hlt
    cases hi
    refine ⟨insertSorted_rising h1 hn, fun e he => ?_, ?_, ?_, h5⟩
    · rcases mem_insertSorted.mp he with rfl | he'
      · exact nonzero
      · exact h2 e he'
    · simp [h3]
    · simp only; omega
  · split at hi
    · rename_i serial age hold
      cases hi
      have hlen := length_filter_serial h1 (oldestIssued_mem hold)
      refine ⟨insertSorted_rising (h1.filter _) (fun e he => hn e (List.mem_of_mem_filter he)), fun e he => ?_, ?_, h4, ?_⟩
      · rcases mem_insertSorted.mp he with rfl | he'
        · exact nonzero
        · exact h2 e (List.mem_of_mem_filter he')
      · rw [length_insertSorted, hlen, h3]
      · simp only [bump]; split <;> omega
    · cases hi

theorem Register.issueOne_ok {r : Register} (h : r.ok) (minute lockout serial : Nat) : (r.issueOne minute lockout serial).1.ok := by
  unfold Register.issueOne
  split
  · exact h
  · split
    · exact h
    · split
      · exact r.removeSerial_ok h _
      · exact r.updateSerial_ok h _ _
    · split
      · exact r.removeSerial_ok h _
      · exact h

theorem Register.issueAll_ok {minute lockout : Nat} : ∀ {serials : List Nat} {r : Register}, r.ok → (r.issueAll minute lockout serials).1.ok
  | [], _, h => h
  | n :: ns, r, h => by
    unfold Register.issueAll
    exact Register.issueAll_ok (r.issueOne_ok h minute lockout n)

theorem Register.releaseAccept_ok {r r1 : Register} {minute : Nat} {h : Hold} (hr : r.ok) (hs : h.serial ≠ 0)
    (hi : releaseAcceptRegister r minute h = .ok r1) : r1.ok := by
  unfold releaseAcceptRegister at hi
  simp only at hi
  split at hi
  · rename_i hf
    split at hi
    · rename_i r2 hins
      cases hi
      exact r.insert_ok hr hf hs hins
    · cases hi
  · split at hi
    · split at hi
      · cases hi; exact hr
      · cases hi
    · cases hi; exact r.updateSerial_ok hr _ _
    · cases hi; exact r.updateSerial_ok hr _ _

theorem Register.release_ok {r r1 : Register} {minute : Nat} {h : Hold} {v : Verdict} {am : Option Grade} (hr : r.ok)
    (hi : releaseRegister r minute h v am = .ok r1) : r1.ok := by
  unfold releaseRegister at hi
  split at hi
  · rename_i hc
    exact r.releaseAccept_ok hr hc.2.1 hi
  · split at hi
    · cases hi; exact r.dropPending_ok hr _ _
    · cases hi; exact hr

end Sys2Proof.Machine
end

