-- ==== Sys2Proof/Tests/Slice0.lean ====
section
/-! SUPPORT. Tests: an ill-formed command for each check of WellFormed, words of frames written out from chapter 13, the spec's worked examples,
and for each statement a concrete state and operands that meet its hypotheses. -/

namespace Sys2Proof.Tests

open Sys2Proof Sys2Proof.Machine

-- One theorem after another: many kernel evaluations waiting side by side would each hold a thread.
set_option Elab.async false

/-! ## States the tests start from -/

/-- The links are open. -/
def up : State := { State.reset with phase := .running }

/-- Lane 0 in a lane state, in TALLY. -/
def lane0 (st : LaneState) : State := up.modifyLane .l0 (fun i => { i with state := st, resolved := some .tally })

/-- A ticket as an OPEN at minute 0 makes it. -/
def bare : Ticket := Ticket.fresh 0 true .a 0 240

/-- The priced record of the example of R153: net 30,013, cap 20,000, step 50. -/
def quoted : PricedRecord := ⟨30013, 0, 30013, 20000, 10013, 50, 20000⟩

/-- A ticket in PRICED. -/
def pricedTicket : Ticket := { bare with state := .priced, priced := some quoted }

/-- A ticket in PAYING with its reservation. -/
def payingTicket : Ticket := { pricedTicket with state := .paying, payout := some ⟨20000, none, none⟩ }

/-- A ticket in slot 1 with generation 1: its number is 257. -/
def withTicket (t : Ticket) (s : State) : State := { s with tickets := s.tickets.set 0 ⟨1, some t⟩ }

/-- A hold of ticket 257 that made no entry. -/
def plainHold : Hold :=
  { ticket := 257, lane := .l0, sequence := 7, cls := some 3, judged := 3, grade := .full, quantity := 1, owner := 0, ownership := .own,
    serial := 0, cause := .weakRead, also := [.weakRead], entryMade := false, held := 0, deadline := 120 }

/-- A serial hold of ticket 257. -/
def serialHold : Hold := { plainHold with serial := 70144 }

/-- A hold in slot 0 with generation 1: its number is 256. -/
def withHold (h : Hold) (s : State) : State := { s with holds := s.holds.set 0 ⟨1, some h⟩, holdOrder := [256] }

/-- An operation in service. -/
def serving (op : RegisterOp) (s : State) : State := { s with arbiter := { s.arbiter with serving := some op } }

/-- The outstanding list of a link holds 32 requests. -/
def full (l : Link) (s : State) : State := s.modifyPort l (fun p => { p with outstanding := List.replicate 32 ⟨0x05, 0, none⟩ })

/-- The office-side queue holds 16 operations. -/
def crowded (s : State) : State := { s with arbiter := { s.arbiter with office := List.replicate 16 .clearGuard, serving := some .rebase } }

/-- An item of one container. -/
def oneItem : Item := ⟨1, some 3, 0, 1, 0, 0, false⟩

/-- The entry of an item of the batch of ticket 257. -/
def anEntry : Entry := ⟨oneItem, some 257, some .tally, ⟨false, false, false, false, false⟩, false, false⟩

/-- The active batch of ticket 257. -/
def aBatch : Batch := ⟨257, some .tally, 0, 0, 0, false, none⟩

/-- The state a command answers, the state before it if it answered none. -/
def after (c : Instr) (s : State) : State := match exec c s with | .next t => t | .fault _ => s | .refused _ => s

/-- The last answer made in a link's outstanding list. -/
def lastAnswer (l : Link) (s : State) : Option Answer := (s.port l).outstanding.getLast?.bind Request.answer

/-! ## WellFormed: each check refuses an ill-formed command -/

theorem test_wf_tag : (Instr.clockRead 256).wf = false ∧ (Instr.clockRead 255).wf = true := by decide
theorem test_wf_ticket : (Instr.quote 0 65536).wf = false ∧ (Instr.quote 0 65535).wf = true := by decide
theorem test_wf_offer_version : (Instr.offer .l0 0 ⟨true, true, true⟩ 256 false).wf = false := by decide
theorem test_wf_item : (Instr.item .l0 { oneItem with sequence := 65536 }).wf = false ∧ (Instr.item .l0 { oneItem with cls := some 255 }).wf = false
    ∧ (Instr.item .l0 { oneItem with grade := 256 }).wf = false ∧ (Instr.item .l0 { oneItem with quantity := 256 }).wf = false
    ∧ (Instr.item .l0 { oneItem with owner := 256 }).wf = false ∧ (Instr.item .l0 { oneItem with serial := 4294967296 }).wf = false := by decide
theorem test_wf_keepalive : (Instr.keepalive .f 0).wf = false ∧ (Instr.keepalive .k 0).wf = true := by decide
theorem test_wf_open : (Instr.openTicket 0 16777216 none).wf = false ∧ (Instr.openTicket 0 0 (some 256)).wf = false := by decide
theorem test_wf_adjust : (Instr.adjust 0 0 256 0 0 0).wf = false ∧ (Instr.adjust 0 0 0 256 0 0).wf = false
    ∧ (Instr.adjust 0 0 0 0 256 0).wf = false ∧ (Instr.adjust 0 0 0 0 0 2147483648).wf = false
    ∧ (Instr.adjust 0 0 0 0 0 (-2147483649)).wf = false := by decide
theorem test_wf_amounts : (Instr.dispensed 0 0 4294967296).wf = false ∧ (Instr.resolve true 0 0 4294967296).wf = false
    ∧ (Instr.tillLoad true 0 4294967296).wf = false ∧ (Instr.tillCount true 0 4294967296).wf = false := by decide
theorem test_wf_release : (Instr.release 0 65536 0 0).wf = false ∧ (Instr.release 0 0 256 0).wf = false ∧ (Instr.release 0 0 0 256).wf = false := by
  decide
theorem test_wf_hold_read : (Instr.holdRead 0 256 0).wf = false ∧ (Instr.holdRead 0 0 65536).wf = false := by decide
theorem test_wf_bank : (Instr.bankWrite 0 256 ⟨0, 0, 0, 0, 0, 0⟩).wf = false ∧ (Instr.bankWrite 0 0 ⟨256, 0, 0, 0, 0, 0⟩).wf = false
    ∧ (Instr.bankWrite 0 0 ⟨0, 65536, 0, 0, 0, 0⟩).wf = false ∧ (Instr.bankWrite 0 0 ⟨0, 0, 256, 0, 0, 0⟩).wf = false
    ∧ (Instr.bankWrite 0 0 ⟨0, 0, 0, 256, 0, 0⟩).wf = false ∧ (Instr.bankWrite 0 0 ⟨0, 0, 0, 0, 256, 0⟩).wf = false
    ∧ (Instr.bankWrite 0 0 ⟨0, 0, 0, 0, 0, 256⟩).wf = false ∧ (Instr.feeWrite 0 65536).wf = false ∧ (Instr.bankRead 0 256 0).wf = false
    ∧ (Instr.bankRead 0 0 256).wf = false ∧ (Instr.changeoverArm 0 16777216).wf = false := by decide
theorem test_wf_watch : (Instr.watchWrite true 0 256 ⟨0, 0, 0, 0, 0, 0, 0, 0⟩).wf = false
    ∧ (Instr.watchWrite true 0 0 ⟨256, 0, 0, 0, 0, 0, 0, 0⟩).wf = false ∧ (Instr.watchWrite true 0 0 ⟨0, 256, 0, 0, 0, 0, 0, 0⟩).wf = false
    ∧ (Instr.watchWrite true 0 0 ⟨0, 0, 4294967296, 0, 0, 0, 0, 0⟩).wf = false ∧ (Instr.watchWrite true 0 0 ⟨0, 0, 0, 256, 0, 0, 0, 0⟩).wf = false
    ∧ (Instr.watchWrite true 0 0 ⟨0, 0, 0, 0, 256, 0, 0, 0⟩).wf = false ∧ (Instr.watchWrite true 0 0 ⟨0, 0, 0, 0, 0, 256, 0, 0⟩).wf = false
    ∧ (Instr.watchWrite true 0 0 ⟨0, 0, 0, 0, 0, 0, 256, 0⟩).wf = false ∧ (Instr.watchWrite true 0 0 ⟨0, 0, 0, 0, 0, 0, 0, 256⟩).wf = false
    ∧ (Instr.watchRead 0 256).wf = false ∧ (Instr.captureRead true 0 256).wf = false := by decide
theorem test_wf_issue : (Instr.issue 0 []).wf = false ∧ (Instr.issue 0 (List.replicate 13 1)).wf = false
    ∧ (Instr.issue 0 [4294967296]).wf = false ∧ (Instr.registerQuery 0 4294967296).wf = false := by decide
theorem test_wf_clock_and_settings : (Instr.setClock 0 16777216 0).wf = false ∧ (Instr.setClock 0 0 256).wf = false
    ∧ (Instr.settingsWrite 0 256 0 0).wf = false ∧ (Instr.settingsWrite 0 0 256 0).wf = false
    ∧ (Instr.settingsWrite 0 0 0 4294967296).wf = false ∧ (Instr.restartLane 0 256).wf = false := by decide
theorem test_wf_link_events : (Instr.reject .k 256 0).wf = false ∧ (Instr.frameDiscard .k (.length 118)).wf = false
    ∧ (Instr.frameDiscard .k (.length 119)).wf = true ∧ (Instr.linkSilenceExpiry (.lane .l0)).wf = false := by decide

/-! ## Frames written out from chapter 13 -/

/-- The check value the CRC-16 of R188 is known by: "123456789" gives 0x29B1. -/
theorem test_crc_check_value : crc16 [0x31, 0x32, 0x33, 0x34, 0x35, 0x36, 0x37, 0x38, 0x39] = 0x29B1#16 := by decide +kernel
theorem test_table_words_spell_nothing : decodeTableWord 0 0 = none ∧ decodeTableWord 32 5 = none := by decide
theorem test_decode_offer : decodeFrame (.lane .l1) false 0x01 9 [0x06, 0x01, 0xFF] = .command (.offer .l1 9 ⟨false, true, true⟩ 1 true) := by decide
theorem test_decode_item : decodeFrame (.lane .l0) false 0x02 0 [0x34, 0x12, 0xFF, 0x01, 0x40, 0x05, 0x78, 0x56, 0x34, 0x12, 0x01]
    = .command (.item .l0 ⟨0x1234, none, 1, 64, 5, 0x12345678, true⟩) := by decide
theorem test_decode_bind : decodeFrame (.lane .l2) false 0x03 1 [0x01, 0x02] = .command (.bind .l2 1 0x0201) := by decide
theorem test_decode_open_kiosk : decodeFrame .k false 0x10 7 [0x3F, 0x42, 0x0F] = .command (.openTicket 7 999999 none) := by decide
theorem test_decode_open_office : decodeFrame .f false 0x10 7 [0x3F, 0x42, 0x0F, 0x01] = .command (.openTicket 7 999999 (some 1)) := by decide
theorem test_decode_dispensed : decodeFrame .k false 0x13 2 [0x01, 0x01, 0xEE, 0x4D, 0x00, 0x00] = .command (.dispensed 2 257 19950) := by decide
/-- ADJUST of ticket 257, class 15, SCRAP, OWN, by −1. -/
theorem test_decode_adjust : decodeFrame .f false 0x18 3 [0x01, 0x01, 0x0F, 0x02, 0x00, 0xFF, 0xFF, 0xFF, 0xFF]
    = .command (.adjust 3 257 15 2 0 (-1)) := by decide
theorem test_decode_release : decodeFrame .f false 0x20 3 [0x00, 0x01, 0x02, 0xFF] = .command (.release 3 256 2 255) := by decide
theorem test_decode_resolve : decodeFrame .f true 0x28 3 [0x01, 0x01, 0x10, 0x27, 0x00, 0x00] = .command (.resolve true 3 257 10000) := by decide
theorem test_decode_bank_write : decodeFrame .f false 0x30 3 [0x02, 0x01, 0x50, 0xC3, 0x32, 0x64, 0x00, 0x40]
    = .command (.bankWrite 3 2 ⟨1, 50000, 50, 100, 0, 64⟩) := by decide
theorem test_decode_watch_write : decodeFrame .f true 0x38 3 [0x04, 0x01, 0x00, 0x00, 0x12, 0x01, 0x00, 0x08, 0x02, 0x01, 0x00, 0x01]
    = .command (.watchWrite true 3 4 ⟨1, 0, 70144, 8, 2, 1, 0, 1⟩) := by decide
theorem test_decode_issue : decodeFrame .f false 0x40 3 [0x01, 0x00, 0x00, 0x00, 0x00, 0x00, 0x00, 0x80] = .command (.issue 3 [1, 2147483648]) := by
  decide
theorem test_decode_set_clock : decodeFrame .f false 0x48 3 [0xFF, 0xFF, 0x0F, 0x3B] = .command (.setClock 3 1048575 59) := by decide
theorem test_decode_settings_write : decodeFrame .f false 0x50 3 [0x00, 0x03, 0x00, 0xC2, 0x01, 0x00] = .command (.settingsWrite 3 0 3 115200) := by
  decide
theorem test_decode_attention_read : decodeFrame .f false 0x5A 3 [] = .command (.attentionRead 3) := by decide
theorem test_decode_rejects : decodeFrame .f false 0x06 0 [] = .unknownKind ∧ decodeFrame .f false 0x05 0 [] = .notAllowed
    ∧ decodeFrame .k false 0x14 0 [0, 0] = .notAllowed ∧ decodeFrame .f false 0x14 0 [0] = .badLength := by decide
/-- A whole CLOCK_READ frame: SYNC, LEN 2, KIND 0x49, TAG 3, and the check of LEN and the body, high byte first. -/
theorem test_frame_layout : (frameBytes 0x49 3 []).take 4 = [0xC5, 0x02, 0x49, 0x03] ∧ (frameBytes 0x49 3 []).length = 6 := by decide +kernel
/-- The frame of a command reaches it byte by byte. -/
theorem test_bytes_run_the_frame :
    (match receiveAll .f false (frameBytes 0x5A 3 []) up with | .next t => decide (t = after (.attentionRead 3) up) | _ => false) = true := by
  decide +kernel
/-- The record lengths of R217, R218 and R220. -/
theorem test_record_lengths : (ticketRecord 257 bare).length = 227 ∧ (holdRecord 256 plainHold).length = 29
    ∧ (settingsRecord .valid false Settings.default).length = 90 := by decide +kernel
/-- A ticket record is sent in two segments of 114 and 113 bytes after the result and the segment byte (R214, R217). -/
theorem test_ticket_record_segments :
    (answerFrames 0x17 ⟨.ok, .ticket 257 bare⟩).map (fun f => (f.1, f.2.length, f.2.take 2)) = [(0x97, 116, [0, 0]), (0x97, 115, [0, 0x81])] := by
  decide +kernel

/-! ## The spec's worked examples -/

/-- The table of R149. -/
theorem test_R149_lines : lineValue 1 1 49 100 = 0 ∧ lineValue 1 1 50 100 = 1 ∧ lineValue 2 1 50 100 = 1 ∧ lineValue 3 1 50 50 = 1
    ∧ lineValue 3 150 55 50 = 124 ∧ lineValue 5 150 55 100 = 413 := by decide
/-- The example of R153. -/
theorem test_R153_cash : cashQuote true 50 20000 30013 = 20000 ∧ cashQuote true 50 20000 12337 = 12300 ∧ cashQuote true 50 20000 45 = 0
    ∧ cashQuote true 50 20020 30013 = 20000 ∧ cashQuote false 50 20000 30013 = 0 := by decide
/-- The example of R164. -/
theorem test_R164_reservation : reservationOf 12480 50 15000 = 12450 ∧ reservationOf 30 50 15000 = 0 := by decide
/-- The example of R29. -/
theorem test_R29_sequence : checkSequence (some 65530) 65531 = .normal ∧ checkSequence (some 65531) 65531 = .stale
    ∧ checkSequence (some 65531) 2 = .gap ∧ checkSequence (some 2) 65000 = .stale ∧ checkSequence none 40000 = .normal := by decide
/-- The example of R93: W4 holds SERIAL 70,144 with k = 8. -/
theorem test_R93_block : let r : WatchRule := ⟨true, .serial, 70144, 8, .note, false, false, false⟩
    let w (serial : Nat) : Watched := ⟨serial, 0, 0, 0, ⟨257, .l0, 1, serial, 0⟩⟩
    r.matchesItem (w 70300) = true ∧ r.matchesItem (w 70399) = true ∧ r.matchesItem (w 70400) = false ∧ r.matchesItem (w 0) = false := by decide
/-- The example of R179. -/
theorem test_R179_window : minuteAdd 1048400 240 = 64 ∧ atOrAfter 1048500 64 = false ∧ atOrAfter 64 64 = true
    ∧ ageAt 1048500 1047000 = 1500 ∧ ageAt 64 1047000 = 1640 := by decide
/-- The example of R138: at minute 1,048,000 a T of 300 is ahead and one of 1,047,000 is reached. -/
theorem test_R138_reached : atOrAfter 1048000 300 = false ∧ atOrAfter 1048000 1047000 = true ∧ minuteDiff 300 1048000 = 876 := by decide
/-- The example of R167: the kiosk reports 19,950, or 20,050, of a reservation of 20,000. -/
theorem test_R167_settling :
    ((Settler.dispensed 257).settling { payingTicket with payout := some ⟨20000, some 19950, none⟩ }).map Settling.record
      = some ⟨19950, 10063, false, none⟩
    ∧ ((Settler.dispensed 257).settling { payingTicket with payout := some ⟨20000, some 20050, none⟩ }).map Settling.record
      = some ⟨20000, 10013, true, none⟩ := by decide

/-! ## One step of each family -/

/-- OPEN makes ticket 257 in slot 1 (R3: the first generation used is 1), with the deadline of R4. -/
theorem test_open : lastAnswer .k (after (.openTicket 1 0 none) up) = some ⟨.ok, .opened 257 .a 240⟩ := by decide +kernel
/-- The generation goes from 255 to 0 at the wrap (R3): slot 1's number is then 1. -/
theorem test_open_generation_wraps :
    lastAnswer .k (after (.openTicket 1 0 none) { up with tickets := up.tickets.set 0 ⟨255, none⟩ }) = some ⟨.ok, .opened 1 .a 240⟩ := by
  decide +kernel
/-- A QUOTE of a ticket with nothing counted prices it at nothing (R12, R13). -/
theorem test_quote_prices : lastAnswer .k (after (.quote 2 257) (withTicket bare up)) = some ⟨.price, .price ⟨0, 0, 0, 0, 0, 10, 50000⟩⟩ := by
  decide +kernel
/-- A QUOTE with a hold outstanding waits for it (R12). -/
theorem test_quote_waits : lastAnswer .k (after (.quote 2 257) (withTicket { bare with holds := 1 } up))
    = some ⟨.wait, .reasons false true false⟩ := by decide +kernel
/-- An ADJUST below 0 is held at 0 and CLAMPED (R16). -/
theorem test_adjust_clamps : lastAnswer .f (after (.adjust 2 257 3 0 0 (-1)) (withTicket bare up)) = some ⟨.clamped, .counter 0⟩ := by decide +kernel
/-- A TILL_LOAD without the key is LOCKED, with it CLAMPED above 99,999,999 (R159). -/
theorem test_till_load : lastAnswer .f (after (.tillLoad false 2 5) up) = some ⟨.locked, .empty⟩
    ∧ lastAnswer .f (after (.tillLoad true 2 5) { up with till := ⟨99999999, 0⟩ }) = some ⟨.clamped, .till 99999999 0 99999999⟩ := by decide +kernel
/-- A PAY reserves 20,000 of the till (R164), and with less than a step available finds it empty. -/
theorem test_pay : lastAnswer .k (after (.pay 2 257) (withTicket pricedTicket { up with till := ⟨50000, 0⟩ })) = some ⟨.paygo, .paygo 20000 20000 10013⟩
    ∧ lastAnswer .k (after (.pay 2 257) (withTicket pricedTicket { up with till := ⟨49, 0⟩ })) = some ⟨.tillEmpty, .empty⟩ := by decide +kernel
/-- The pay timer leaves the ticket in DOUBT with the reservation kept (R168). -/
theorem test_pay_timeout : ((after .payTimeout { withTicket payingTicket up with payTimer := some 45000 }).ticketAt 0).map Ticket.state = some .doubt := by
  decide +kernel
/-- A BANK_WRITE out of range is stored in range, in bank B while A is active (R131). -/
theorem test_bank_write : lastAnswer .f (after (.bankWrite 2 3 ⟨1, 60000, 101, 100, 0, 0⟩) up)
    = some ⟨.clamped, .classEntry .b 3 ⟨true, 50000, 100, 100, false, 1⟩⟩ := by decide +kernel
/-- An ARM of a time already reached swaps the banks within the request (R136, R139). -/
theorem test_changeover_at_once : lastAnswer .f (after (.changeoverArm 2 0) up) = some ⟨.ok, .changeover none .b⟩
    ∧ lastAnswer .f (after (.changeoverArm 2 1) up) = some ⟨.ok, .changeover (some 1) .a⟩ := by decide +kernel
/-- A block exponent on another field than SERIAL is stored as 0 and CLAMPED (R101). -/
theorem test_watch_write : lastAnswer .f (after (.watchWrite false 2 1 ⟨1, 1, 9, 4, 0, 0, 1, 0⟩) up)
    = some ⟨.clamped, .watchRule 1 ⟨true, .owner, 9, 0, .note, false, false, false⟩⟩ := by decide +kernel
/-- An ISSUE of a serial the register does not hold (R119). -/
theorem test_issue : lastAnswer .f (after .issueOperation (after (.issue 2 [5]) up)) = some ⟨.ok, .issue [.notFound]⟩ := by decide +kernel
/-- The cold guard of a cold start answers REGISTER_QUERY: active until 4,320, with 4,320 minutes left (R121, R126). -/
theorem test_register_query : lastAnswer .f (after .registerQueryOperation (after (.registerQuery 2 5) up))
    = some ⟨.notFound, .query none 0 ⟨0, 0, 0, 0, 0, some 4320, 4320⟩⟩ := by decide +kernel
/-- A SET_CLOCK is answered at its rebase (R181, R182). -/
theorem test_set_clock : lastAnswer .f (after .rebase (after (.setClock 2 1048575 59) up)) = some ⟨.ok, .clockSet 1048575 59⟩
    ∧ (after .clockSecond (after .rebase (after (.setClock 2 1048575 59) up))).clock = ⟨0, 0, 0⟩ := by decide +kernel
/-- A link speed between two permitted values is stored as the lower one (R207). -/
theorem test_settings_write : lastAnswer .f (after (.settingsWrite 2 0 0 60000) up) = some ⟨.clamped, .setting 0 0 57600⟩ := by decide +kernel
/-- A lockout above its range is stored at the range's end and alone (R207); the answer repeats the index carried (log 39). -/
theorem test_settings_write_lockout : lastAnswer .f (after (.settingsWrite 2 10 9 20161) up) = some ⟨.clamped, .setting 10 9 20160⟩
    ∧ (after (.settingsWrite 2 10 9 20161) up).settings = { Settings.default with lockout := 20160 } := by decide +kernel
/-- After a cold start RETENTION_LOST stands above SETTINGS_DEFAULT and TILL_LOW (R196, R202). -/
theorem test_attention_read : lastAnswer .f (after (.attentionRead 2) up)
    = some ⟨.ok, .attention (some .retentionLost) [.retentionLost, .settingsDefault, .tillLow]⟩ := by decide +kernel
/-- Three OFFERs the same bring a lane to ACKING, and its ACK to COUNTING in the highest common mode (R54 to R56). -/
theorem test_negotiation : let offer (ack : Bool) := Instr.offer .l0 1 ⟨false, true, true⟩ 1 ack
    let acking := after (offer false) (after (offer false) (after (offer false) (lane0 .listen)))
    (acking.lane .l0).state = .acking ∧ ((after (offer true) acking).lane .l0).state = .counting
      ∧ ((after (offer true) acking).lane .l0).resolved = some .cls := by decide +kernel
/-- An item joins its lane's queue, and the same sequence again is refused STALE (R28, R29). -/
theorem test_item : ((after (.item .l0 oneItem) (lane0 .counting)).lane .l0).queue.length = 1
    ∧ ((after (.item .l0 oneItem) (after (.item .l0 oneItem) (lane0 .counting))).port (.lane .l0)).unsolicited
      = [.verdict ⟨1, .refuse, some .stale, [.stale], 0xFFFF, false⟩] := by decide +kernel
/-- An item that finds the landing slot taken takes it, and the entry that stood there is refused OVERRUN (R32). -/
theorem test_item_overrun : let s := (lane0 .counting).modifyLane .l0 (fun i =>
      { i with queue := List.replicate 16 anEntry, landing := some { anEntry with item := { oneItem with sequence := 7 } }, slow := true })
    (((after (.item .l0 oneItem) s).lane .l0).landing.map (fun e => e.item.sequence)) = some 1
      ∧ ((after (.item .l0 oneItem) s).port (.lane .l0)).unsolicited = [.verdict ⟨7, .refuse, some .overrun, [.overrun], 0xFFFF, false⟩] := by
  decide +kernel
/-- A BIND of an OPEN ticket is BOUND, and the next BIND of another is BUSY (R38). -/
theorem test_bind : lastAnswer (.lane .l0) (after (.bind .l0 1 257) (withTicket bare (lane0 .counting))) = some ⟨.bound, .bound 257⟩
    ∧ lastAnswer (.lane .l0) (after (.bind .l0 1 258) (after (.bind .l0 1 257) (withTicket bare (lane0 .counting)))) = some ⟨.busy, .empty⟩ := by
  decide +kernel
/-- An entry without a ticket is refused NO_TICKET (R70). -/
theorem test_take_in_hand : ((after (.takeInHand .l0) (after (.item .l0 oneItem) (lane0 .counting))).port (.lane .l0)).unsolicited
    = [.verdict ⟨1, .refuse, some .noTicket, [.noTicket], 0xFFFF, false⟩] := by decide +kernel
/-- A gate edge outside a batch is stray (R46). -/
theorem test_gate_edge : let clear := up.modifyLane .l0 (fun i => { i with recognised := some false, candidate := some ⟨true, 10⟩ })
    ((after (.gateEdge .l0) clear).lane .l0).stray = 1 ∧ (after (.gateEdge .l0) clear).edges.strayItems = true := by decide +kernel
/-- A lane whose silence timer expires goes DOWN and raises LANE_FAULT (R51, R62). -/
theorem test_lane_silence : let heard := (lane0 .counting).modifyLane .l0 (fun i => { i with silenceTimer := some 5000 })
    ((after (.laneSilenceExpiry .l0) heard).lane .l0).state = .down ∧ (after (.laneSilenceExpiry .l0) heard).edges.laneFault = true := by
  decide +kernel
/-- RELEASE with ACCEPT counts the item in the class as judged (R83, R84). -/
theorem test_release : lastAnswer .f (after (.release 2 256 0 0xFF) (withHold plainHold (withTicket { bare with holds := 1 } up)))
    = some ⟨.ok, .released 257 0⟩ := by decide +kernel
/-- The first of a hold whose number no longer names one (R81). -/
theorem test_hold_read : lastAnswer .f (after (.holdRead 2 0 0) (withHold plainHold up)) = some ⟨.noSuchHold, .empty⟩
    ∧ lastAnswer .f (after (.holdRead 2 0 256) (withHold plainHold up)) = some ⟨.ok, .hold 256 plainHold⟩ := by decide +kernel
/-- The end of start-up opens the links with every break timer at 2 s (R210). -/
theorem test_end_of_start_up : (after .endOfStartUp State.reset).phase = .running
    ∧ ((after .endOfStartUp State.reset).lane .l2).breakTimer = some 2000 := by decide +kernel
/-- A lane takes the part's offer at the end of its break interval (R51, R53). -/
theorem test_break_interval_end : ((after (.breakIntervalEnd .l1) (after .endOfStartUp State.reset)).port (.lane .l1)).unsolicited
    = [.offer ⟨⟨true, true, true⟩, false, .listen, none, none⟩] := by decide +kernel
/-- A loss of supply keeps the till and drops the lanes (R203). -/
theorem test_supply_loss : (after .supplyLoss { lane0 .counting with till := ⟨7, 0⟩ }).till = ⟨7, 0⟩
    ∧ ((after .supplyLoss (lane0 .counting)).lane .l0).state = .down := by decide +kernel
/-- A cold start writes the mark (R212), and one that came to its end is followed by a warm one, unless the cell falls while supply is off (R204). -/
theorem test_cold_again : let next (s : State) : Till := (after .powerOnReset { after .supplyLoss s with till := ⟨7, 0⟩ }).till
    (after .powerOnReset { up with retentionMark := false, batteryFall := true }).retained = true ∧ next (after .endOfStartUp State.reset) = ⟨7, 0⟩
      ∧ (after .powerOnReset (after .batteryFall (after .supplyLoss { up with till := ⟨7, 0⟩ }))).till = ⟨0, 0⟩ := by decide +kernel
/-- A cold start cut short leaves the mark unwritten, unless its clearing was done (R204, R212). -/
theorem test_cold_cut (h : Config.clearingDone 0 = false) : (after .supplyLoss State.reset).retained = false := by
  simp [after, exec, execSupplyLoss, State.cutShort, State.cutSave, State.cutStart, State.reset, State.retained, State.dropVolatile, h]
/-- A save cut short before the erase leaves the image as it was (R209). -/
theorem test_save_cut (h : Config.saveWritten 0 = false) (h' : Config.saveErased 0 = false) : let old := Image.of Settings.default
    (after .supplyLoss { up with image := old.erased, saving := some ⟨Settings.default, old⟩ }).image = old := by
  simp [after, exec, execSupplyLoss, State.cutShort, State.cutSave, State.cutStart, State.dropVolatile, up, State.reset, h, h']
/-- A CLOSE of one payload byte is refused MALFORMED in its own answer (R191). -/
theorem test_bad_length : (match receiveAll .f false (frameBytes 0x14 3 [0x01]) up with
    | .next t => (t.port .f).outstanding
    | _ => []) = [⟨0x14, 3, some ⟨.malformed, .empty⟩⟩] := by decide +kernel
/-- A frame with a bad LEN is a LENGTH discard, and 0xC5 there starts a new frame (R189). -/
theorem test_discard : ((after (.byteReceived .f false 0x01) (after (.byteReceived .f false 0xC5) up)).port .f).reason = .length
    ∧ ((after (.byteReceived .f false 0xC5) (after (.byteReceived .f false 0xC5) up)).port .f).assembly = .length := by decide +kernel

/-! ## Witnesses: states and operands that meet the hypotheses of each statement, clause by clause -/

/-- What holds of every record of a table that holds few. -/
theorem each {s : State} (P : Fin 24 → Ticket → Prop) [∀ j u, Decidable (P j u)]
    (h : ∀ j, (s.ticketAt j).all (fun u => decide (P j u)) = true) : ∀ j u, s.ticketAt j = some u → P j u := by
  intro j u hu
  have := h j
  rw [hu] at this
  simpa using this

/-- The ticket table without a FREE slot. -/
def fullTable : State := { up with tickets := Table.fill 24 ⟨1, some bare⟩ }

theorem takes_up (l : Link) (h : l = .k ∨ l = .f) : up.canTake l := by rcases h with rfl | rfl <;> exact ⟨by decide, by decide⟩
theorem takes_lane0 : (lane0 .listen).canTake (.lane .l0) ∧ (lane0 .offering).canTake (.lane .l0) ∧ (lane0 .acking).canTake (.lane .l0)
    ∧ (lane0 .counting).canTake (.lane .l0) ∧ (lane0 .sensed).canTake (.lane .l0) ∧ (lane0 .muted).canTake (.lane .l0)
    ∧ (lane0 .refused).canTake (.lane .l0) := by
  refine ⟨?_, ?_, ?_, ?_, ?_, ?_, ?_⟩ <;> exact ⟨by decide, by decide⟩

theorem witness_StepRunsTheFrontCommand : ({ up with pending := [.sweep] } : State).pending = .sweep :: [] ∧ up.pending = [] := by decide
theorem witness_EncodedFrameDecodes : (Instr.adjust 255 65535 255 255 255 (-2147483648)).wf = true
    ∧ (encodeFrame (.adjust 255 65535 255 255 255 (-2147483648))).isSome = true ∧ (Instr.issue 255 (List.replicate 12 4294967295)).wf = true
    ∧ (encodeFrame (.issue 255 (List.replicate 12 4294967295))).isSome = true
    ∧ (Instr.item .l2 ⟨65535, some 254, 255, 255, 255, 4294967295, true⟩).wf = true
    ∧ (encodeFrame (.item .l2 ⟨65535, some 254, 255, 255, 255, 4294967295, true⟩)).isSome = true := by decide
theorem witness_ReceivedFrameRunsItsCommand : (Instr.tillCount true 255 4294967295).wf = true
    ∧ (encodeFrame (.tillCount true 255 4294967295)).map FrameImage.link = some .f ∧ up.phase ≠ .off ∧ (up.port .f).assembly = .hunt
    ∧ (up.port .f).buffer = [] ∧ (up.port .f).gap = none := by decide

/-- A port of F in an assembly state. -/
def assembling (a : Assembly) (buffer : List Byte) : State :=
  up.modifyPort .f (fun p => { p with assembly := a, buffer := buffer, gap := some 20 })

theorem witness_BytesAreAssembledOrDiscarded :
    (up.phase ≠ .off ∧ (up.port .f).assembly = .hunt)
    ∧ (((assembling .length [0xC5]).port .f).assembly = .length ∧ (2#8).toNat = 2 ∧ (118#8).toNat = 118 ∧ (1#8).toNat < 2 ∧ 118 < (119#8).toNat
        ∧ (1#8) ≠ 0xC5 ∧ (119#8) ≠ 0xC5)
    ∧ (((assembling .body [0xC5, 2]).port .f).assembly = .body ∧ 2 ≤ ((assembling .body [0xC5, 2]).port .f).buffer.length)
    ∧ ((assembling .check [0xC5, 2, 0x5A, 3]).port .f).buffer.length = ((assembling .check [0xC5, 2, 0x5A, 3]).port .f).len + 2
    ∧ ((assembling .hunt []).port .f).gap ≠ none
    ∧ (let p := (assembling .check [0xC5, 2, 0x5A, 3, 0]).port .f;
        p.buffer.length = p.len + 3 ∧ p.buffer.drop (p.len + 2) ++ [0] ≠ checkBytes ((p.buffer.drop 1).take (p.len + 1))) := by decide +kernel

theorem witness_FrameOnADeafOrFullPortIsNotTaken :
    (State.reset.deaf .f ∧ up.deaf (.lane .l0)) ∧ (¬(full .f up).deaf .f ∧ 32 ≤ ((full .f up).port .f).outstanding.length)
    ∧ (¬(full (.lane .l0) (lane0 .listen)).deaf (.lane .l0) ∧ 32 ≤ ((full (.lane .l0) (lane0 .listen)).port (.lane .l0)).outstanding.length)
    ∧ 0x05 ∉ allowedKinds .f := by
  refine ⟨⟨Or.inl (by decide), Or.inr ⟨.l0, rfl, by decide⟩⟩, ⟨?_, by decide +kernel⟩, ⟨?_, by decide +kernel⟩, by decide⟩
  · rintro (h | ⟨n, h, -⟩)
    · exact h (by decide)
    · cases h
  · rintro (h | ⟨n, h, h2⟩)
    · exact h (by decide)
    · cases h; exact absurd h2 (by decide)

theorem witness_RejectAndKeepaliveAreAnswered : (up.canTake .k ∧ (0x14 ∉ allowedKinds .k ∧ knownKind 0x14 = true)
    ∧ (0xFF ∉ allowedKinds .k ∧ knownKind 0xFF = false) ∧ Link.k ≠ .f)
    ∧ (let frame := frameBytes 0x14 3 [0x01];
      let s := up.modifyPort .f (fun p => { p with assembly := .check, buffer := frame.dropLast });
      s.canTake .f ∧ 0x14 ∈ allowedKinds .f ∧ [(0x01 : Byte)].length ∉ payloadLengths .f 0x14 ∧ frame = frame.dropLast ++ [frame.getLastD 0]
        ∧ (s.port .f).assembly = .check ∧ (s.port .f).buffer = frame.dropLast)
    ∧ ∀ st ∈ [LaneState.listen, .counting], let frame := frameBytes 0x02 0 [];
      let s := (lane0 st).modifyPort (.lane .l0) (fun p => { p with assembly := .check, buffer := frame.dropLast });
      s.canTake (.lane .l0) ∧ 0x02 ∈ allowedKinds (.lane .l0) ∧ ([] : List Byte).length ∉ payloadLengths (.lane .l0) 0x02
        ∧ frame = frame.dropLast ++ [frame.getLastD 0] ∧ (s.port (.lane .l0)).assembly = .check
        ∧ (s.port (.lane .l0)).buffer = frame.dropLast ∧ (s.lane .l0).state = st := by
  refine ⟨⟨takes_up _ (.inl rfl), by decide, by decide, by decide⟩, ⟨⟨by decide, by decide⟩, by decide, by decide, by decide +kernel, by decide, by decide +kernel⟩, ?_⟩
  intro st hst
  simp only [List.mem_cons, List.not_mem_nil, or_false] at hst
  rcases hst with rfl | rfl <;>
    exact ⟨⟨by decide, by decide⟩, by decide, by decide, by decide +kernel, by decide, by decide +kernel, by decide⟩

theorem witness_AnswersStandAndGoOutInOrder :
    ((lane0 .counting).lane .l0).state ≠ .down ∧ ((lane0 .counting).lane .l0).state ≠ .listen ∧ Link.k ≠ .lane .l0
    ∧ (let p : Port := { Port.start 57600 with outstanding := [⟨0x49, 1, some ⟨.ok, .empty⟩⟩], order := [.answer] };
        (∀ r ∈ p.outstanding, r.answer.isSome = true) ∧ p.order.count .answer = p.outstanding.length)
    ∧ (let p : Port := { Port.start 57600 with outstanding := [⟨0x49, 1, some ⟨.ok, .empty⟩⟩, ⟨0x15, 1, none⟩], order := [.answer] };
        (∃ r ∈ p.outstanding, r.answer = none)
          ∧ p.order.count .answer = (p.outstanding.takeWhile (fun r => r.answer.isSome)).length)
    ∧ (let p : Port := { Port.start 57600 with outstanding := [⟨0x15, 1, none⟩, ⟨0x41, 2, none⟩] };
        p.outstanding = [⟨0x15, 1, none⟩] ++ ⟨0x41, 2, none⟩ :: [] ∧ (∀ r ∈ [(⟨0x15, 1, none⟩ : Request)], r.kind = 0x41 → r.answer.isSome = true)
          ∧ (∃ r ∈ [(⟨0x15, 1, none⟩ : Request)], r.answer = none) ∧ p.order.count .answer = p.made)
    ∧ (let p : Port := { Port.start 57600 with outstanding := [⟨0x41, 2, none⟩] };
        p.outstanding = [] ++ ⟨0x41, 2, none⟩ :: [] ∧ p.order.count .answer = ([] : List Request).length)
    ∧ (up.port .f).order = []
    ∧ (let p := ((lane0 .listen).modifyPort (.lane .l0) (Port.sendOwn (.flow true))).port (.lane .l0);
        p.order = .own :: [] ∧ p.unsolicited = .flow true :: []) := by decide +kernel

/-- F is sending the answer of its first request. -/
def sending (kind : Nat) (a : Answer) : State :=
  up.modifyPort .f (fun p => { p with outstanding := [⟨kind, 1, some a⟩], order := [.answer] })

theorem witness_AnswersStandAndGoOutInOrder_segments :
    (∀ kind a, ((sending kind a).port .f).order = .answer :: [] ∧ ((sending kind a).port .f).outstanding = ⟨kind, 1, some a⟩ :: []
      ∧ ((sending kind a).port .f).segment = 0)
    ∧ (⟨.unknownKind, .rejected 6⟩ : Answer).body = .rejected 6
    ∧ ((∀ k, (⟨.busy, .empty⟩ : Answer).body ≠ .rejected k) ∧ 0x49 ∉ [0x16, 0x17, 0x21, 0x51, 0x58])
    ∧ ((⟨.noSuchTicket, .empty⟩ : Answer).body = .empty ∧ 0x17 ∈ [0x16, 0x17, 0x21, 0x51, 0x58])
    ∧ ((∀ k, (⟨.ok, .ticket 257 bare⟩ : Answer).body ≠ .rejected k) ∧ (⟨.ok, .ticket 257 bare⟩ : Answer).body ≠ .empty
        ∧ 1 < ((Body.ticket 257 bare).bytes.length + 113) / 114) :=
  ⟨fun _ _ => ⟨rfl, rfl, rfl⟩, rfl, ⟨fun _ h => by (cases h), by decide⟩, by decide, fun _ h => by (cases h), by decide, by decide +kernel⟩

theorem witness_FrameSentLeavesItsList : (up.port .f).order = []
    ∧ (((lane0 .listen).modifyPort (.lane .l0) (Port.sendOwn (.flow true))).port (.lane .l0)).order = .own :: []
    ∧ (((sending 0x17 ⟨.ok, .ticket 257 bare⟩).port .f).order = .answer :: []
        ∧ ((sending 0x17 ⟨.ok, .ticket 257 bare⟩).port .f).segment + 1 < (answerFrames 0x17 ⟨.ok, .ticket 257 bare⟩).length)
    ∧ (answerFrames 0x5B ⟨.ok, .empty⟩).length ≤ ((sending 0x5B ⟨.ok, .empty⟩).port .f).segment + 1
    ∧ (answerFrames 0x49 ⟨.busy, .empty⟩).length ≤ ((sending 0x49 ⟨.busy, .empty⟩).port .f).segment + 1 := by decide +kernel

theorem witness_OpenMakesATicketOrIsRefused :
    (up.canTake .k ∧ (true = decide ((0 : Nat) = 0)) ∧ up.ticketAt 0 = none ∧ ∀ j : Fin 24, j < 0 → up.ticketAt j ≠ none)
    ∧ (up.canTake .f ∧ (some 1 = some true.toNat ∧ some 0 = some false.toNat) ∧ 999999 ≤ 999999)
    ∧ (999999 < 1000000 ∧ 1 < 2) ∧ (fullTable.canTake .k ∧ fullTable.canTake .f ∧ ∀ i, fullTable.ticketAt i ≠ none) :=
  ⟨⟨takes_up _ (.inl rfl), by decide, by decide +kernel, by decide⟩, ⟨takes_up _ (.inr rfl), by decide, by decide⟩, by decide,
    ⟨by decide +kernel, by decide +kernel⟩, ⟨by decide +kernel, by decide +kernel⟩, by decide +kernel⟩

theorem witness_UnknownTicketAndWrongStateAreRefused :
    (∀ i t, up.ticketAt i = some t → up.ticketNumber i ≠ 257) ∧ up.canTake .f ∧ up.canTake .k
    ∧ ((withTicket pricedTicket up).canTake .f ∧ (withTicket pricedTicket up).holdsTicket 257 0 pricedTicket
        ∧ pricedTicket.state ∉ [.opened, .closing] ∧ pricedTicket.state ∉ [.settled, .voided] ∧ pricedTicket.state ≠ .doubt)
    ∧ ((withTicket payingTicket up).canTake .k ∧ (withTicket payingTicket up).holdsTicket 257 0 payingTicket
        ∧ payingTicket.state ∉ [.opened, .closing, .priced] ∧ payingTicket.state ≠ .priced)
    ∧ ((withTicket bare up).canTake .k ∧ (withTicket bare up).holdsTicket 257 0 bare ∧ bare.state ∉ [.paying, .doubt])
    ∧ ((15 : Nat) ≤ 15 ∧ (2 : Nat) ≤ 2 ∧ (1 : Nat) ≤ 1 ∧ (-65535 : Int) ≤ -65535 ∧ (65535 : Int) ≤ 65535 ∧ (99999999 : Nat) ≤ 99999999) :=
  ⟨each _ (by decide +kernel), takes_up _ (.inr rfl), takes_up _ (.inl rfl),
    ⟨⟨by decide, by decide⟩, (by decide +kernel : State.lookupTicket _ _ = _), by decide, by decide, by decide⟩,
    ⟨⟨by decide, by decide⟩, (by decide +kernel : State.lookupTicket _ _ = _), by decide, by decide⟩,
    ⟨⟨by decide, by decide⟩, (by decide +kernel : State.lookupTicket _ _ = _), by decide⟩, by decide⟩

theorem witness_CloseAndQuoteWait :
    (let t : Ticket := { bare with lanes := ⟨true, false, false⟩ };
      (withTicket t up).holdsTicket 257 0 t ∧ t.state = .opened ∧ t.lanes.card ≠ 0 ∧ (withTicket t up).canTake .f ∧ (withTicket t up).canTake .k)
    ∧ (let t : Ticket := { bare with holds := 1 };
      (withTicket t up).holdsTicket 257 0 t ∧ t.state = .opened ∧ t.holds ≠ 0)
    ∧ (let t : Ticket := { bare with state := .closing, flags := ⟨true, false, false, false, false⟩ };
      (withTicket t up).holdsTicket 257 0 t ∧ t.state = .closing ∧ t.flags.recount = true)
    ∧ ((withTicket pricedTicket up).holdsTicket 257 0 pricedTicket ∧ pricedTicket.state = .priced ∧ pricedTicket.priced = some quoted) :=
  ⟨⟨(by decide +kernel : State.lookupTicket _ _ = _), by decide, by decide, ⟨by decide, by decide⟩, ⟨by decide, by decide⟩⟩,
    ⟨(by decide +kernel : State.lookupTicket _ _ = _), by decide, by decide⟩,
    ⟨(by decide +kernel : State.lookupTicket _ _ = _), by decide, by decide⟩,
    ⟨(by decide +kernel : State.lookupTicket _ _ = _), by decide, by decide⟩⟩

theorem witness_PricingEventPrices :
    ((withTicket bare up).holdsTicket 257 0 bare ∧ bare.lanes.card = 0 ∧ bare.holds = 0 ∧ bare.state = .opened ∧ bare.flags.recount = false
      ∧ (withTicket bare up).canTake .f ∧ (withTicket bare up).canTake .k)
    ∧ (let t : Ticket := { bare with state := .closing, flags := ⟨true, false, false, false, false⟩ };
      (withTicket t up).holdsTicket 257 0 t ∧ t.lanes.card = 0 ∧ t.holds = 0 ∧ t.state = .closing) :=
  ⟨⟨(by decide +kernel : State.lookupTicket _ _ = _), by decide, by decide, by decide, by decide, ⟨by decide, by decide⟩, ⟨by decide, by decide⟩⟩,
    ⟨(by decide +kernel : State.lookupTicket _ _ = _), by decide, by decide, by decide⟩⟩

theorem witness_PricedAmountsFollowTheBank : 0 < 50 ∧ bare.cashAllowed = true ∧ ({ bare with cashAllowed := false } : Ticket).cashAllowed = false
    ∧ lineSum Bank.cold bare ≤ 99999999 ∧ Bank.cold.fee ≤ (priceTicket Bank.cold 50 0 bare).gross
    ∧ (priceTicket { Bank.cold with fee := 1 } 50 0 bare).gross < 1
    ∧ 99999999 < lineSum { classes := Table.fill 16 ⟨true, 50000, 100, 100, false, 64⟩, fee := 0 } (bare.setCounter 0 .full .own 65535) := by
  decide +kernel

theorem witness_CountersAreAdjustedAndConfirmed :
    (up.canTake .f ∧ (withTicket bare up).canTake .f ∧ (withTicket bare up).holdsTicket 257 0 bare ∧ bare.state ∈ [.opened, .closing]
      ∧ 15 = (15 : Fin 16).val ∧ 2 = Grade.scrap.code ∧ 1 = Ownership.foreign.code
      ∧ ((65535 : Nat) : Int) = max 0 (min 65535 ((bare.counter 15 .scrap .foreign : Int) + 65535))
      ∧ ((0 : Nat) : Int) = max 0 (min 65535 ((bare.counter 15 .scrap .foreign : Int) + -65535)))
    ∧ (15 < 16 ∧ 2 < 3 ∧ 1 < 2 ∧ (-65536 : Int) < -65535 ∧ (65535 : Int) < 65536)
    ∧ (let t : Ticket := { bare with state := .closing, holds := 1 };
      (withTicket t up).canTake .f ∧ (withTicket t up).holdsTicket 257 0 t ∧ t.state = .closing ∧ t.holds ≠ 0)
    ∧ (let same (c c' : Fin 16) (g g' : Grade) (o o' : Ownership) := c' = c ∧ g' = g ∧ (g = .scrap ∨ o' = o);
      (Grade.worn ≠ .scrap ∧ 4 * (15 : Fin 16).val + 2 * Grade.worn.code + Ownership.foreign.code = 63)
        ∧ same 15 15 .scrap .scrap .own .foreign ∧ same 0 0 .full .full .own .own ∧ ¬same 15 15 .worn .worn .own .foreign
        ∧ ¬same 15 14 .scrap .scrap .own .own ∧ ¬same 0 0 .full .scrap .own .own) :=
  ⟨⟨takes_up _ (.inr rfl), ⟨by decide, by decide⟩, (by decide +kernel : State.lookupTicket _ _ = _), by decide, by decide, by decide, by decide,
    by decide +kernel, by decide +kernel⟩, by decide,
    ⟨⟨by decide, by decide⟩, (by decide +kernel : State.lookupTicket _ _ = _), by decide, by decide⟩, by decide⟩

theorem witness_CollectFreesTheSlot : let t : Ticket := { bare with state := .voided };
    (withTicket t up).canTake .f ∧ (withTicket t up).holdsTicket 257 0 t ∧ t.state ∈ [.settled, .voided] :=
  ⟨⟨by decide, by decide⟩, (by decide +kernel : State.lookupTicket _ _ = _), by decide⟩

/-- A ticket in DOUBT. -/
def doubtTicket : Ticket := { payingTicket with state := .doubt }

/-- A ticket priced without cash. -/
def creditTicket : Ticket := { pricedTicket with priced := some { quoted with cash := 0, credit := 30013 } }

/-- A serial hold that made its entry. -/
def enteredHold : Hold := { serialHold with entryMade := true }

theorem witness_RegisterRequestsWaitOrAreRefused :
    (let s := withHold enteredHold (withTicket doubtTicket up);
      s.canTake .f ∧ s.holdsTicket 257 0 doubtTicket ∧ doubtTicket.state = .doubt ∧ s.arbiter.office.length < 16 ∧ s.holdsHold 256 0 enteredHold
        ∧ enteredHold.serial ≠ 0 ∧ enteredHold.entryMade = true ∧ enteredHold.grade ≠ .scrap)
    ∧ ((crowded up).canTake .f ∧ 16 ≤ (crowded up).arbiter.office.length)
    ∧ (let serials := List.replicate 12 4294967295;
      serials ≠ [] ∧ serials.length ≤ 12 ∧ 0 ∉ serials ∧ 12 < (List.replicate 13 1).length ∧ 0 ∈ [0])
    ∧ ((withTicket creditTicket up).canTake .k ∧ (withTicket creditTicket up).holdsTicket 257 0 creditTicket ∧ creditTicket.state = .priced
        ∧ creditTicket.priced = some { quoted with cash := 0, credit := 30013 }
        ∧ ∀ j u, (withTicket creditTicket up).ticketAt j = some u → u.state ≠ .paying) :=
  ⟨⟨⟨by decide, by decide⟩, (by decide +kernel : State.lookupTicket _ _ = _), by decide, by decide, (by decide +kernel : State.lookupHold _ _ = _),
      by decide, by decide, by decide⟩, ⟨⟨by decide, by decide⟩, by decide⟩, by decide,
    ⟨by decide, by decide⟩, (by decide +kernel : State.lookupTicket _ _ = _), by decide, by decide, each _ (by decide +kernel)⟩

theorem witness_RegisterServesInRotation :
    ({ up with setPending := some ⟨0, 0⟩ } : State).setPending.isSome = true ∧ (∀ q, up.arbiter.waits q = false)
    ∧ (let a : Arbiter := { Arbiter.start with lanes := ⟨false, true, false⟩, office := [.clearGuard], sweeps := [.sweep], last := .lane .l0 };
      a.last.rotation = [] ++ Position.lane .l1 :: [.lane .l2, .office, .sweep, .lane .l0] ∧ a.lanes.mem .l1 = true)
    ∧ (let a : Arbiter := { Arbiter.start with office := [.clearGuard], sweeps := [.sweep], last := .lane .l2 };
      a.last.rotation = [] ++ Position.office :: [.sweep, .lane .l0, .lane .l1, .lane .l2] ∧ a.office = .clearGuard :: [])
    ∧ (let a : Arbiter := { Arbiter.start with sweeps := [.sweep], last := .lane .l2 };
      a.last.rotation = [.office] ++ Position.sweep :: [.lane .l0, .lane .l1, .lane .l2] ∧ (∀ q ∈ [Position.office], a.waits q = false)
        ∧ a.sweeps = .sweep :: [])
    ∧ (crowded up).arbiter.serving ≠ none
    ∧ (up.arbiter.serving = none ∧ up.arbiter.lanes = LaneSet.empty ∧ up.arbiter.office = [] ∧ up.arbiter.sweeps = []) := by
  refine ⟨by decide, ?_, by decide, by decide, by decide, by decide, by decide⟩
  rintro (n | _ | _)
  · cases n <;> decide
  · decide
  · decide

theorem witness_VoidWalkVoids :
    (let s := serving (.office (.voidWalk 257)) up;
      s.arbiter.serving = some (.office (.voidWalk 257)) ∧ ∀ j u, s.ticketAt j = some u → s.ticketNumber j ≠ 257)
    ∧ (let s := serving (.office (.voidWalk 257)) (withTicket pricedTicket up);
      s.holdsTicket 257 0 pricedTicket ∧ pricedTicket.state ∈ [.opened, .closing, .priced])
    ∧ (let s := serving (.office (.voidWalk 257)) (withTicket bare up);
      s.holdsTicket 257 0 bare ∧ bare.state ∈ [.opened, .closing, .priced])
    ∧ (let s := serving (.office (.voidWalk 257)) (withTicket payingTicket up);
      s.holdsTicket 257 0 payingTicket ∧ payingTicket.state ∉ [.opened, .closing, .priced]) :=
  ⟨⟨by decide, each _ (by decide +kernel)⟩, ⟨(by decide +kernel : State.lookupTicket _ _ = _), by decide⟩,
    ⟨(by decide +kernel : State.lookupTicket _ _ = _), by decide⟩, ⟨(by decide +kernel : State.lookupTicket _ _ = _), by decide⟩⟩

/-- A settle walk in service. -/
def walking (w : Settler) (s : State) : State := serving (.office (.settle w)) s

theorem witness_SettleWalkSettlesOrIsRefused :
    (let s := walking (.toAccount 257) (withTicket pricedTicket up);
      s.holdsTicket 257 0 pricedTicket ∧ pricedTicket.priced = some quoted ∧ pricedTicket.state = .priced
        ∧ s.arbiter.serving = some (.office (.settle (.toAccount 257))))
    ∧ (walking (.pay 257) (withTicket creditTicket up)).holdsTicket 257 0 creditTicket
    ∧ (let t : Ticket := { payingTicket with payout := some ⟨20000, some 20050, none⟩ };
      (walking (.dispensed 257) (withTicket t up)).holdsTicket 257 0 t ∧ t.state = .paying ∧ t.payout = some ⟨20000, some 20050, none⟩)
    ∧ ((walking (.resolve 257 20001) (withTicket doubtTicket up)).holdsTicket 257 0 doubtTicket ∧ doubtTicket.state = .doubt
        ∧ doubtTicket.payout = some ⟨20000, none, none⟩)
    ∧ (∀ j u, (walking (.toAccount 257) up).ticketAt j = some u → (walking (.toAccount 257) up).ticketNumber j ≠ 257)
    ∧ ((walking (.dispensed 257) (withTicket bare up)).holdsTicket 257 0 bare ∧ bare.state ∉ [.priced] ∧ bare.state ∉ [.paying]
        ∧ bare.state ∉ [.doubt]) :=
  ⟨⟨(by decide +kernel : State.lookupTicket _ _ = _), by decide, by decide, by decide⟩, (by decide +kernel : State.lookupTicket _ _ = _),
    ⟨(by decide +kernel : State.lookupTicket _ _ = _), by decide, by decide⟩,
    ⟨(by decide +kernel : State.lookupTicket _ _ = _), by decide, by decide⟩, each _ (by decide +kernel),
    ⟨(by decide +kernel : State.lookupTicket _ _ = _), by decide, by decide, by decide⟩⟩

/-- A register of one entry. -/
def kept (k : KegState) : Register := ⟨[⟨70144, 0, 3, k⟩], 1, 0, none⟩

theorem witness_IssueOperationIssues :
    (serving (.office (.issue [70144])) up).arbiter.serving = some (.office (.issue [70144]))
    ∧ (∀ k ∈ (kept (.credited 0)).entries, k.serial ≠ 5)
    ∧ ((⟨70144, 0, 3, .pending 257⟩ : KegEntry) ∈ (kept (.pending 257)).entries
        ∧ ∀ k ∈ (kept (.pending 257)).entries, k.serial = 70144 → k = ⟨70144, 0, 3, .pending 257⟩)
    ∧ (4320 ≤ (4320 + (1048576 - 0 % 1048576)) % 1048576 ∧ (4319 + (1048576 - 0 % 1048576)) % 1048576 < 4320)
    ∧ ((⟨70144, 0, 3, .issued 0⟩ : KegEntry) ∈ (kept (.issued 0)).entries ∧ (⟨70144, 0, 3, .credited 0⟩ : KegEntry) ∈ (kept (.credited 0)).entries) := by
  decide +kernel

theorem witness_QueryGuardAndSweepAreServed :
    (let s := serving (.office (.query 70144)) { up with register := kept (.credited 0) };
      s.arbiter.serving = some (.office (.query 70144)) ∧ s.register.find 70144 = some ⟨70144, 0, 3, .credited 0⟩)
    ∧ (serving (.office (.query 5)) up).register.find 5 = none
    ∧ (serving (.office .clearGuard) up).arbiter.serving = some (.office .clearGuard)
    ∧ (serving (.sweep .sweep) up).arbiter.serving = some (.sweep .sweep) := by decide +kernel

/-- A register of `n` entries in a state. -/
def registerOf (n : Nat) (k : KegState) : Register := ⟨(List.range n).map (fun i => ⟨i + 1, 0, 3, k⟩), n, 0, none⟩

theorem registerOf_ok {n : Nat} (h : n ≤ capacity) (k : KegState) : (registerOf n k).ok := by
  refine ⟨?_, ?_, by simp [registerOf], h, Nat.zero_le _⟩
  · show List.Pairwise _ (List.map _ _)
    rw [List.pairwise_map]
    exact List.pairwise_lt_range.imp (fun h => by simpa using h)
  · intro e he
    obtain ⟨i, -, rfl⟩ := List.mem_map.mp he
    exact Nat.succ_ne_zero _

theorem registerOf_find {n serial : Nat} (h : n < serial) (k : KegState) : (registerOf n k).find serial = none := by
  unfold Register.find
  rw [List.find?_eq_none]
  intro e he
  obtain ⟨i, hi, rfl⟩ := List.mem_map.mp he
  have := List.mem_range.mp hi
  simp
  omega

theorem registerOf_insert {n : Nat} (h : capacity ≤ n + 1) (minute : Nat) (k : KegEntry) :
    ∃ r, (registerOf (n + 1) (.issued 0)).insert minute k = some r := by
  unfold Register.insert
  rw [if_neg (show ¬ (registerOf (n + 1) (.issued 0)).entryCount < capacity from Nat.not_lt.mpr h)]
  have he : (registerOf (n + 1) (.issued 0)).entries = ⟨1, 0, 3, .issued 0⟩ :: ((List.range n).map (fun i => ⟨i + 2, 0, 3, .issued 0⟩)) := by
    show List.map _ (List.range (n + 1)) = _
    rw [List.range_succ_eq_map]
    simp [Function.comp_def]
  rw [he]
  unfold oldestIssued
  simp only []
  cases oldestIssued minute ((List.range n).map (fun i => (⟨i + 2, 0, 3, .issued 0⟩ : KegEntry))) with
  | none => exact ⟨_, rfl⟩
  | some p =>
    obtain ⟨a, b⟩ := p
    simp only []
    split <;> first | exact ⟨_, rfl⟩ | (rename_i h; split at h <;> cases h)

theorem witness_InsertReplacesTheOldestIssued :
    ((registerOf 4095 (.credited 0)).ok ∧ (registerOf 4095 (.credited 0)).find 70144 = none ∧ (registerOf 4095 (.credited 0)).entryCount < 4096)
    ∧ ((registerOf 4096 (.issued 0)).ok ∧ (registerOf 4096 (.issued 0)).find 70144 = none ∧ (registerOf 4096 (.issued 0)).entryCount = 4096
        ∧ ∃ r, (registerOf 4096 (.issued 0)).insert 0 ⟨70144, 0, 3, .pending 257⟩ = some r) :=
  ⟨⟨registerOf_ok (Nat.le_succ _) _, registerOf_find (by omega) _, Nat.lt_succ_self _⟩, registerOf_ok (Nat.le_refl _) _,
    registerOf_find (by omega) _, rfl, registerOf_insert (n := 4095) (Nat.le_refl _) _ _⟩

theorem witness_PayReservesCash :
    (let s := withTicket pricedTicket { up with till := ⟨50, 0⟩ };
      s.canTake .k ∧ s.holdsTicket 257 0 pricedTicket ∧ pricedTicket.state = .priced ∧ pricedTicket.priced = some quoted ∧ 0 < quoted.cash
        ∧ 0 < min quoted.cash ((s.till.balance - s.till.reserved) / quoted.step * quoted.step)
        ∧ ∀ j u, s.ticketAt j = some u → u.state ≠ .paying)
    ∧ (let s := withTicket pricedTicket { up with till := ⟨49, 0⟩ };
      min quoted.cash ((s.till.balance - s.till.reserved) / quoted.step * quoted.step) = 0)
    ∧ (let s : State := { withTicket pricedTicket up with tickets := (withTicket pricedTicket up).tickets.set 1 ⟨1, some payingTicket⟩ };
      s.canTake .k ∧ s.holdsTicket 257 0 pricedTicket ∧ s.ticketAt 1 = some payingTicket ∧ payingTicket.state = .paying) :=
  ⟨⟨⟨by decide, by decide⟩, (by decide +kernel : State.lookupTicket _ _ = _), by decide, by decide, by decide, by decide,
    each _ (by decide +kernel)⟩, by decide, ⟨by decide, by decide⟩, (by decide +kernel : State.lookupTicket _ _ = _), by decide +kernel, by decide⟩

theorem witness_PayoutIsReportedOrTimesOut :
    (99999999 < 100000000)
    ∧ ((withTicket payingTicket up).canTake .k ∧ (withTicket payingTicket up).holdsTicket 257 0 payingTicket
        ∧ payingTicket.payout = some ⟨20000, none, none⟩ ∧ payingTicket.state = .paying ∧ (withTicket payingTicket up).arbiter.office.length < 16)
    ∧ ((withTicket payingTicket (crowded up)).holdsTicket 257 0 payingTicket ∧ 16 ≤ (withTicket payingTicket (crowded up)).arbiter.office.length)
    ∧ ((withTicket doubtTicket up).holdsTicket 257 0 doubtTicket ∧ doubtTicket.state = .doubt)
    ∧ (let s : State := { withTicket payingTicket up with payTimer := some 45000 };
      s.payTimer ≠ none ∧ s.ticketAt 0 = some payingTicket ∧ ∀ j u, s.ticketAt j = some u → u.state = .paying → j = 0)
    ∧ up.payTimer = none ∧ up.canTake .f ∧ 99999999 ≤ 99999999 :=
  ⟨by decide, ⟨⟨by decide, by decide⟩, (by decide +kernel : State.lookupTicket _ _ = _), by decide, by decide, by decide⟩,
    ⟨(by decide +kernel : State.lookupTicket _ _ = _), by decide⟩, ⟨(by decide +kernel : State.lookupTicket _ _ = _), by decide⟩,
    ⟨by decide, by decide +kernel, each (fun j u => u.state = .paying → j = 0) (by decide +kernel)⟩, by decide, takes_up _ (.inr rfl), by decide⟩

theorem witness_TillIsLoadedAndCounted : up.canTake .f ∧ 99999999 < 100000000 ∧ 99999999 ≤ 99999999 ∧ up.till.balance + 99999999 ≤ 99999999
    ∧ 99999999 < ({ up with till := ⟨1, 0⟩ } : State).till.balance + 99999999 ∧ min 99999999 4 < ({ up with till := ⟨5, 5⟩ } : State).till.reserved
    ∧ ({ up with till := ⟨5, 5⟩ } : State).till.reserved ≤ min 99999999 5 := ⟨takes_up _ (.inr rfl), by decide, by decide, by decide, by decide, by decide, by decide⟩

theorem witness_ReleaseAtOnceResolvesTheHold :
    (let s := withHold plainHold (withTicket { bare with holds := 1 } up);
      s.canTake .f ∧ s.holdsHold 256 0 plainHold ∧ s.holdsTicket plainHold.ticket 0 { bare with holds := 1 } ∧ plainHold.entryMade = false
        ∧ plainHold.serial = 0 ∧ Grade.full.code = 0 ∧ plainHold.grade = .full)
    ∧ (let s := withHold serialHold (withTicket { bare with holds := 1 } up);
      s.holdsHold 256 0 serialHold ∧ serialHold.entryMade = false ∧ Grade.scrap.code = 2)
    ∧ (1 ∉ [0, 2] ∧ 3 ∉ [0, 1, 2, 255] ∧ 254 ∉ [0, 1, 2, 255]) ∧ up.lookupHold 256 = none :=
  ⟨⟨⟨by decide, by decide⟩, (by decide +kernel : State.lookupHold _ _ = _), (by decide +kernel : State.lookupTicket _ _ = _), by decide, by decide,
    by decide, by decide⟩, ⟨(by decide +kernel : State.lookupHold _ _ = _), by decide, by decide⟩, by decide, by decide +kernel⟩

/-- A RELEASE of hold 256 of ticket 257 in service. -/
def releasing (v : Verdict) (am : Option Grade) (h : Hold) (r : Register) : State :=
  serving (.office (.release 256 v am)) (withHold h (withTicket { bare with holds := 1 } { up with register := r }))

theorem witness_ReleaseOperationSettlesTheEntry :
    (let s := releasing .accept none serialHold ⟨[], 0, 0, none⟩;
      s.arbiter.serving = some (.office (.release 256 .accept none)) ∧ s.holdsHold 256 0 serialHold
        ∧ s.holdsTicket serialHold.ticket 0 { bare with holds := 1 } ∧ serialHold.serial ≠ 0 ∧ serialHold.grade ≠ .scrap
        ∧ s.register.find serialHold.serial = none
        ∧ s.register.insert s.clock.minute ⟨70144, 0, 3, .pending 257⟩ = some ⟨[⟨70144, 0, 3, .pending 257⟩], 1, 0, none⟩)
    ∧ (Register.insert ⟨[], capacity, 0, none⟩ 0 ⟨70144, 0, 3, .pending 257⟩ = none ∧ Register.find ⟨[], capacity, 0, none⟩ 70144 = none)
    ∧ (kept (.pending 257)).find 70144 = some ⟨70144, 0, 3, .pending 257⟩
    ∧ ((kept (.pending 258)).find 70144 = some ⟨70144, 0, 3, .pending 258⟩ ∧ 258 ≠ serialHold.ticket)
    ∧ (kept (.credited 0)).find 70144 = some ⟨70144, 0, 3, .credited 0⟩
    ∧ ((releasing .refuse none enteredHold (kept (.pending 257))).holdsHold 256 0 enteredHold ∧ enteredHold.entryMade = true)
    ∧ (serving (.office (.release 256 .accept none)) up).lookupHold 256 = none :=
  ⟨⟨by decide, (by decide +kernel : State.lookupHold _ _ = _), (by decide +kernel : State.lookupTicket _ _ = _), by decide, by decide,
    by decide +kernel, by decide +kernel⟩, by decide +kernel, by decide +kernel, by decide +kernel, by decide +kernel,
    ⟨(by decide +kernel : State.lookupHold _ _ = _), by decide⟩, by decide +kernel⟩

theorem witness_HoldsExpireAndAreRead :
    (let s := serving (.sweep (.expiry 256)) (withHold enteredHold (withTicket { bare with holds := 1 } up));
      s.arbiter.serving = some (.sweep (.expiry 256)) ∧ s.holdsHold 256 0 enteredHold
        ∧ s.holdsTicket enteredHold.ticket 0 { bare with holds := 1 } ∧ s.canTake .f)
    ∧ (serving (.sweep (.expiry 256)) up).lookupHold 256 = none ∧ up.lookupTicket 257 = none ∧ 1 < 2 :=
  ⟨⟨by decide, (by decide +kernel : State.lookupHold _ _ = _), (by decide +kernel : State.lookupTicket _ _ = _), ⟨by decide, by decide⟩⟩,
    by decide +kernel, by decide +kernel, by decide⟩

theorem witness_BanksAreWrittenAndChangedOver :
    up.canTake .f ∧ (15 < 16 ∧ 1 < 2) ∧ (15 = (15 : Fin 16).val ∧ 1 ≤ 1)
    ∧ 0 < ({ up with tariff := { up.tariff with refB := 1 } } : State).tariff.refs .b ∧ up.tariff.refs .b = 0
    ∧ (50000 ≤ 50000 ∧ 100 ≤ 100 ∧ 1 ≤ 1 ∧ 64 ≤ 64 ∧ 10000 ≤ 10000 ∧ 10000 < 10001) ∧ ¬(1 ≤ 0) ∧ 1 = BankId.b.code
    ∧ (up.clock.minute + (1048576 - 0 % 1048576)) % 1048576 < 524288 ∧ ¬((up.clock.minute + (1048576 - 524288 % 1048576)) % 1048576 < 524288)
    ∧ (up.clock.minute + (1048576 - 524289 % 1048576)) % 1048576 < 524288 ∧ 1048575 < 1048576 ∧ 1048576 ≤ 1048576 := by
  refine ⟨takes_up _ (.inr rfl), ?_⟩
  decide

theorem witness_WatchEntriesAreWrittenAndRead :
    up.canTake .f ∧ (7 < 8 ∧ ruleOfRaw ⟨2, 0, 0, 0, 0, 0, 0, 0⟩ = none)
    ∧ (7 = (7 : Fin 8).val ∧ ruleOfRaw ⟨1, 1, 9, 20, 2, 1, 1, 0⟩ = some ⟨true, .owner, 9, 20, .void, true, true, false⟩)
    ∧ (let s : State := { up with watch := up.watch.set 1 ⟨⟨true, .serial, 5, 0, .hold, false, false, true⟩, false, 0, none, false⟩ };
      (s.watch.get 1).rule.supervisor = true ∧ (s.watch.get 0).rule.supervisor = false)
    ∧ (up.watch.get 7).rule.supervisor = false := by
  refine ⟨takes_up _ (.inr rfl), ?_⟩
  decide +kernel

/-- A watch table with an enabled unchained entry and a chained pair. -/
def watching : Table WatchEntry 8 :=
  ((up.watch.set 4 ⟨⟨true, .serial, 70144, 8, .note, false, false, false⟩, false, 0, none, false⟩).set 6
    ⟨⟨true, .owner, 9, 0, .note, true, true, false⟩, false, 65535, none, false⟩).set 7
    ⟨⟨true, .cls, 3, 0, .void, false, false, false⟩, false, 0, none, true⟩

theorem witness_ConsultationFiresWhatMatches :
    (let w : Watched := ⟨70399, 9, 0, 3, ⟨257, .l0, 1, 70399, 0⟩⟩;
      fires watching w 4 = true ∧ fires watching w 6 = true ∧ fires watching w 7 = true ∧ fires watching w 0 = false
        ∧ (firedOn watching w).void = true ∧ (firedOn watching w).note = true ∧ (firedOn watching w).hold = false) := by decide +kernel

theorem witness_MinutesAreComparedByTheWindowRule : 1048575 < 1048576 ∧ atOrAfter 524287 0 = true ∧ atOrAfter 524288 0 = false
    ∧ atOrAfter 0 524288 = false ∧ atOrAfter 0 1048575 = true := by decide

theorem witness_SetClockRebasesTheStamps :
    up.canTake .f ∧ (1048576 ≤ 1048576 ∧ 59 < 60) ∧ (1048575 < 1048576 ∧ 59 ≤ 59) ∧ ({ up with setPending := some ⟨0, 0⟩ } : State).setPending ≠ none
    ∧ (up.setPending = none ∧ up.arbiter.serving = none) ∧ (serving (.sweep .sweep) up).arbiter.serving ≠ none
    ∧ (let s := serving .rebase { up with setPending := some ⟨1048575, 59⟩ };
      s.arbiter.serving = some .rebase ∧ s.setPending = some ⟨1048575, 59⟩) := by
  refine ⟨takes_up _ (.inr rfl), ?_⟩
  decide

theorem witness_ClockCountsAndHandsBoundaries : up.clock.second < 59
    ∧ 59 ≤ ({ up with clock := ⟨1048575, 59, 262144⟩ } : State).clock.second ∧ up.canTake .f := ⟨by decide, by decide, takes_up _ (.inr rfl)⟩

theorem witness_BoundaryTestsAreMade :
    (let s := withTicket bare { up with clock := ⟨240, 0, 0⟩ };
      s.ticketAt 0 = some bare ∧ bare.state ∈ [.opened, .closing] ∧ bare.flags.forcedClose = false
        ∧ (s.clock.minute + (1048576 - bare.deadline % 1048576)) % 1048576 < 524288)
    ∧ (let s := withTicket bare { up with clock := ⟨239, 0, 0⟩ };
      ¬((s.clock.minute + (1048576 - bare.deadline % 1048576)) % 1048576 < 524288))
    ∧ (let s := withHold plainHold (withTicket { bare with holds := 1 } { up with clock := ⟨120, 0, 0⟩ });
      (s.holds.get 0).hold = some plainHold ∧ s.holdsTicket plainHold.ticket 0 { bare with holds := 1 } ∧ plainHold.entryMade = false
        ∧ (s.clock.minute + (1048576 - plainHold.deadline % 1048576)) % 1048576 < 524288)
    ∧ (let s := withHold enteredHold { up with clock := ⟨120, 0, 0⟩ };
      SweepOp.expiry 256 ∈ s.dueExpiries ∧ enteredHold.entryMade = true)
    ∧ up.dueExpiries = [] ∧ (up.ticketAt 23 = none ∧ (up.holds.get 63).hold = none) :=
  ⟨by decide +kernel, by decide, ⟨by decide +kernel, (by decide +kernel : State.lookupTicket _ _ = _), by decide, by decide⟩, by decide +kernel,
    by decide +kernel, by decide +kernel⟩

theorem defaults_ok : Settings.default.ok := by
  refine ⟨?_, ?_, by decide, by decide, by decide, by decide, by decide, by decide, by decide, by decide, by decide, by decide, by decide, by decide,
    by decide, by decide⟩
  · rintro (n | _ | _)
    · cases n <;> decide
    · decide
    · decide
  · intro n; cases n <;> decide

theorem witness_SettingsAreStoredInRange :
    up.canTake .f ∧ 15 < 16 ∧ (4 < 5 ∧ 2 < 3 ∧ 7 < 8) ∧ [Link.lane .l0, .lane .l1, .lane .l2, .k, .f][4]? = some .f
    ∧ [Link.lane .l0, .lane .l1, .lane .l2, .k, .f][0]? = some (.lane .l0) ∧ (Lane.l0.num = 0 ∧ Lane.l2.num = 2 ∧ 7 ≤ 7) := by
  refine ⟨takes_up _ (.inr rfl), ?_⟩
  decide

theorem witness_SaveWritesTheImage : let s : State := { up with saving := some ⟨Settings.default, Image.factory⟩ }
    up.canTake .f ∧ up.saving = none ∧ s.saving ≠ none ∧ s.saving = some ⟨Settings.default, Image.factory⟩ ∧ s.phase = .running ∧ s.canTake .f :=
  ⟨takes_up _ (.inr rfl), by decide, by decide, by decide, by decide, ⟨by decide, by decide⟩⟩

theorem witness_StatusAndAttentionAreAnswered : up.canTake .f ∧ Attention.doubt ∈ (withTicket doubtTicket up).pendingCauses
    ∧ Attention.registerHigh ∈ ({ up with register := ⟨[], 3840, 0, none⟩ } : State).pendingCauses
    ∧ Attention.registerHigh ∉ ({ up with register := ⟨[], 3839, 0, none⟩ } : State).pendingCauses
    ∧ Attention.tillLow ∈ ({ up with till := ⟨9999, 0⟩ } : State).pendingCauses
    ∧ Attention.tillLow ∉ ({ up with till := ⟨10000, 0⟩ } : State).pendingCauses ∧ up.attn = true := by
  refine ⟨takes_up _ (.inr rfl), ?_⟩
  decide +kernel

theorem witness_LaneAndLinkTimersExpire :
    (((lane0 .counting).modifyLane .l0 (fun i => { i with silenceTimer := some 5000 })).lane .l0).silenceTimer ≠ none
    ∧ ((lane0 .counting).lane .l0).silenceTimer = none ∧ up.canTake .f ∧ 2 = Lane.l2.num ∧ 2 < 3
    ∧ (let s := up.modifyLane .l0 (fun i => { i with breakTimer := some 2000 });
      (s.lane .l0).breakTimer ≠ none ∧ (s.lane .l0).state = .down)
    ∧ (let s := (lane0 .muted).modifyLane .l0 (fun i => { i with muteTimer := some 1000, former := some .counting });
      (s.lane .l0).muteTimer ≠ none ∧ (s.lane .l0).former = some .counting)
    ∧ up.phase = .running ∧ ((up.modifyPort .k (fun p => { p with silence := some 5000, up := true })).port .k).silence ≠ none := by
  refine ⟨by decide, by decide, takes_up _ (.inr rfl), ?_⟩
  decide

/-- Lane 0 in a state with a last lane offer taken a number of times. -/
def offered (st : LaneState) (count : Nat) : State :=
  (lane0 st).modifyLane .l0 (fun i => { i with lastOffer := some ⟨⟨true, false, true⟩, 1⟩, offerCount := count, resolved := none })

theorem witness_OfferNegotiates :
    ((lane0 .listen).canTake (.lane .l0) ∧ ((lane0 .listen).lane .l0).state = .listen)
    ∧ (ModeSet.serial ⟨false, false, false⟩ = false ∧ (2 == 1) = false ∧ (1 == 1 && ModeSet.serial ⟨true, false, true⟩) = true)
    ∧ ((offered .offering 1).canTake (.lane .l0) ∧ ((offered .offering 1).lane .l0).state = .offering
        ∧ ((offered .offering 1).lane .l0).lastOffer = some ⟨⟨true, false, true⟩, 1⟩ ∧ ((offered .offering 1).lane .l0).offerCount < 2)
    ∧ 2 ≤ ((offered .offering 2).lane .l0).offerCount
    ∧ ((offered .acking 3).canTake (.lane .l0) ∧ ((offered .acking 3).lane .l0).state = .acking)
    ∧ ((lane0 .muted).lane .l0).state = .muted
    ∧ (let s := (lane0 .sensed).modifyLane .l0 (fun i => { i with batch := some aBatch });
      (s.lane .l0).state = .sensed ∧ (s.lane .l0).batch ≠ none)
    ∧ (((lane0 .counting).lane .l0).state = .counting ∧ ((lane0 .counting).lane .l0).batch = none ∧ ((lane0 .counting).lane .l0).refusal = none)
    ∧ (let i := (offered .refused 1).lane .l0;
      i.state = .refused ∧ i.resolved = none ∧ i.origin = none ∧ i.former = none ∧ i.senseCheck = false
        ∧ i.lastOffer ≠ some ⟨⟨true, true, true⟩, 1⟩) :=
  ⟨⟨takes_lane0.1, by decide⟩, by decide, ⟨⟨by decide, by decide⟩, by decide⟩, by decide, ⟨⟨by decide, by decide⟩, by decide⟩, by decide, by decide,
    by decide, by decide⟩

theorem witness_BindJoinsAndUnbindCloses :
    ((lane0 .listen).canTake (.lane .l0) ∧ ((lane0 .listen).lane .l0).state ∉ [.counting, .sensed, .muted])
    ∧ (let s := (lane0 .counting).modifyLane .l0 (fun i => { i with batch := some aBatch });
      s.canTake (.lane .l0) ∧ (s.lane .l0).state ∈ [.counting, .sensed, .muted] ∧ (s.lane .l0).batch = some aBatch ∧ aBatch.reason = none
        ∧ aBatch.ticket = 257 ∧ aBatch.ticket ≠ 258)
    ∧ (let b : Batch := { aBatch with reason := some .unbind };
      ((((lane0 .counting).modifyLane .l0 (fun i => { i with batch := some b })).lane .l0).batch = some b ∧ b.reason ≠ none))
    ∧ (((lane0 .muted).lane .l0).batch = none ∧ ((lane0 .muted).lane .l0).state ∈ [.counting, .sensed, .muted]
        ∧ ∀ j u, (lane0 .muted).ticketAt j = some u → (lane0 .muted).ticketNumber j ≠ 257)
    ∧ ((withTicket bare (lane0 .sensed)).canTake (.lane .l0) ∧ (withTicket bare (lane0 .sensed)).holdsTicket 257 0 bare ∧ bare.state = .opened
        ∧ bare.lanes.card < 2)
    ∧ (let t : Ticket := { bare with lanes := ⟨false, true, true⟩ };
      (withTicket t (lane0 .sensed)).holdsTicket 257 0 t ∧ t.state = .opened ∧ 2 ≤ t.lanes.card)
    ∧ ((withTicket pricedTicket (lane0 .sensed)).holdsTicket 257 0 pricedTicket ∧ pricedTicket.state ≠ .opened) :=
  ⟨⟨takes_lane0.1, by decide⟩, ⟨⟨by decide, by decide⟩, by decide⟩, by decide, ⟨by decide, by decide, each _ (by decide +kernel)⟩,
    ⟨⟨by decide, by decide⟩, (by decide +kernel : State.lookupTicket _ _ = _), by decide, by decide⟩,
    ⟨(by decide +kernel : State.lookupTicket _ _ = _), by decide, by decide⟩, ⟨(by decide +kernel : State.lookupTicket _ _ = _), by decide⟩⟩

/-- Lane 0 in COUNTING with the batch of ticket 257, which lists it, closed or not. -/
def batched (why : Option CloseReason) (f : Intake → Intake) : State :=
  withTicket { bare with lanes := ⟨true, false, false⟩ }
    ((lane0 .counting).modifyLane .l0 (fun i => f { i with batch := some { aBatch with reason := why } }))

/-- An entry of another batch. -/
def otherEntry : Entry := { anEntry with ticket := some 1 }

theorem batched_ticket (why : Option CloseReason) (f : Intake → Intake) :
    (batched why f).holdsTicket aBatch.ticket 0 { bare with lanes := ⟨true, false, false⟩ } := rfl

theorem witness_BatchIsReleasedAtItsEnd :
    (((batched (some .deadline) id).lane .l0).batch = some { aBatch with reason := some .deadline })
    ∧ (let s := batched none (fun i => { i with queue := [anEntry], landing := some anEntry });
      (s.lane .l0).batch = some aBatch ∧ aBatch.reason = none ∧ (s.lane .l0).landing = some anEntry ∧ anEntry.ticket = some aBatch.ticket)
    ∧ (let s := batched none (fun i => { i with queue := [anEntry, anEntry, otherEntry], landing := some otherEntry });
      (s.lane .l0).batch = some aBatch ∧ (∀ e ∈ (s.lane .l0).landing, e.ticket ≠ some aBatch.ticket)
        ∧ (s.lane .l0).queue = [anEntry] ++ anEntry :: [otherEntry] ∧ ∀ x ∈ [otherEntry], x.ticket ≠ some aBatch.ticket)
    ∧ (let s := batched none (fun i => { i with queue := [otherEntry] });
      (s.lane .l0).batch = some aBatch ∧ (∀ e ∈ (s.lane .l0).queue, e.ticket ≠ some aBatch.ticket) ∧ (s.lane .l0).landing = none
        ∧ LaneSet.mem ⟨true, false, false⟩ .l0 = true ∧ CloseReason.unbind ≠ .down ∧ (s.lane .l0).state ≠ .down)
    ∧ ((batched (some .unbind) (fun i => { i with state := .down })).lane .l0).state = .down
    ∧ (let s := (lane0 .counting).modifyLane .l0 (fun i => { i with batch := some { aBatch with reason := some .voided } });
      (s.lane .l0).batch = some { aBatch with reason := some .voided } ∧ s.lookupTicket aBatch.ticket = none)
    ∧ (let s := withTicket bare ((lane0 .counting).modifyLane .l0 (fun i => { i with batch := some { aBatch with reason := some .voided } }));
      (s.lane .l0).batch = some { aBatch with reason := some .voided } ∧ bare.lanes.mem .l0 = false
        ∧ s.lookupTicket aBatch.ticket = some (0, bare))
    ∧ (let i := (batched none (fun i => { i with queue := List.replicate 16 anEntry, landing := some anEntry, slow := true })).lane .l0;
      i.landing ≠ none ∧ i.slow = true ∧ ¬(i.queue.tail ++ i.landing.toList).length + 4 ≤ up.settings.highMark)
    ∧ (let i := (batched none (fun i => { i with queue := List.replicate 16 anEntry, landing := some anEntry })).lane .l0;
      i.state ≠ .down ∧ i.landing ≠ none ∧ i.slow = false ∧ up.settings.highMark ≤ (i.queue.tail ++ i.landing.toList).length)
    ∧ (let i := (batched none (fun i => { i with queue := List.replicate 9 anEntry, slow := true })).lane .l0;
      i.state ≠ .down ∧ i.slow = true ∧ (i.queue.tail ++ i.landing.toList).length + 4 = up.settings.highMark) := by decide +kernel

theorem witness_SequenceAndFieldsAreChecked : 65535 < 65536 ∧ checkSequence (some 0) 0 = .stale ∧ checkSequence (some 65535) 0 = .normal
    ∧ checkSequence (some 0) 32769 = .gap ∧ checkSequence (some 0) 32770 = .stale
    ∧ (malformedDetail (some .tally) ⟨1, none, 2, 64, 0, 0, false⟩).any = false
    ∧ (malformedDetail (some .cls) ⟨1, none, 2, 64, 0, 0, false⟩).any = true
    ∧ (malformedDetail (some .serial) ⟨1, some 15, 0, 1, 0, 5, false⟩).any = false
    ∧ (malformedDetail (some .serial) ⟨1, some 16, 0, 1, 0, 5, false⟩).any = true
    ∧ (malformedDetail (some .tally) ⟨1, some 15, 3, 65, 0, 0, false⟩).any = true := by decide

theorem witness_ItemIsTakenAtTheLane :
    ((lane0 .counting).canTake (.lane .l0) ∧ ((lane0 .counting).lane .l0).state ∈ [.counting, .muted]
      ∧ checkSequence ((lane0 .counting).lane .l0).lastSequence oneItem.sequence = .normal)
    ∧ (let s := (lane0 .sensed).modifyLane .l0 (fun i => { i with lastSequence := some 65534, queue := List.replicate 11 anEntry, burst := 40 });
      s.canTake (.lane .l0) ∧ (s.lane .l0).state = .sensed ∧ (s.lane .l0).senseCheck = false
        ∧ checkSequence (s.lane .l0).lastSequence oneItem.sequence = .gap ∧ s.settings.highMark ≤ (s.lane .l0).queue.length + 1
        ∧ s.settings.burst < min 255 ((s.lane .l0).burst + 1))
    ∧ (let s := (lane0 .muted).modifyLane .l0 (fun i => { i with lastSequence := some 1 });
      s.canTake (.lane .l0) ∧ (s.lane .l0).state ∈ [.counting, .muted] ∧ checkSequence (s.lane .l0).lastSequence oneItem.sequence = .stale)
    ∧ ((lane0 .listen).canTake (.lane .l0) ∧ ((lane0 .listen).lane .l0).state = .listen
        ∧ (oneItem.cls ≠ none ∧ ((lane0 .listen).settings.modes.get .l0).cls = true)
        ∧ ({ oneItem with cls := none } : Item).cls = none ∧ ((lane0 .listen).settings.modes.get .l0).tally = true)
    ∧ (let s := { lane0 .listen with settings := { Settings.default with modes := ⟨⟨true, false, false⟩, ⟨true, true, true⟩, ⟨true, true, true⟩⟩ } };
      s.canTake (.lane .l0) ∧ (s.lane .l0).state = .listen ∧ (s.settings.modes.get .l0).cls = false ∧ (s.settings.modes.get .l0).tally = false)
    ∧ (let s := (lane0 .sensed).modifyLane .l0 (fun i => { i with senseCheck := true });
      s.canTake (.lane .l0) ∧ (s.lane .l0).state = .sensed ∧ (s.lane .l0).senseCheck = true ∧ (s.lane .l0).resolved = some .tally
        ∧ (oneItem.cls ≠ none ∧ (s.settings.modes.get .l0).cls = true) ∧ (s.settings.modes.get .l0).tally = true)
    ∧ ((lane0 .refused).canTake (.lane .l0) ∧ ((lane0 .refused).lane .l0).state ∈ [.offering, .acking, .refused]) :=
  ⟨⟨takes_lane0.2.2.2.1, by decide⟩, ⟨⟨by decide, by decide⟩, by decide⟩, ⟨⟨by decide, by decide⟩, by decide⟩, ⟨takes_lane0.1, by decide⟩,
    ⟨⟨by decide, by decide⟩, by decide⟩, ⟨⟨by decide, by decide⟩, by decide⟩, ⟨takes_lane0.2.2.2.2.2.2, by decide⟩⟩

theorem witness_GateEdgesAreFilteredAndCounted :
    (up.lane .l0).gateLevel = false ∧ ((up.lane .l0).gateLevel ≠ true ∧ up.phase ≠ .off ∧ (up.lane .l0).recognised ≠ some true)
    ∧ ((up.modifyLane .l0 (fun i => { i with recognised := some true })).lane .l0).recognised = some true
    ∧ ((up.lane .l0).candidate = some ⟨false, 10⟩ ∧ (up.lane .l0).recognised ≠ some false)
    ∧ (let s := up.modifyLane .l0 (fun i => { i with recognised := some false, candidate := some ⟨true, 10⟩, batch := some aBatch });
      (s.lane .l0).candidate = some ⟨true, 10⟩ ∧ (s.lane .l0).recognised = some false ∧ s.phase = .running ∧ (s.lane .l0).batch = some aBatch
        ∧ aBatch.reason = none)
    ∧ (let s := up.modifyLane .l0 (fun i => { i with recognised := some false, candidate := some ⟨true, 10⟩ });
      (s.lane .l0).recognised = some false ∧ (s.lane .l0).batch = none) := by decide

/-- Lane 0 counts with an entry at the head of its queue. -/
def queueing (e : Entry) : State := (lane0 .counting).modifyLane .l0 (fun i => { i with queue := [e] })

theorem witness_VerdictLogicTakesTheHead :
    (up.phase = .running ∧ (up.lane .l0).queue = [])
    ∧ (((queueing anEntry).modifyLane .l0 (fun i => { i with inHand := true })).lane .l0).inHand = true
    ∧ (((queueing anEntry).modifyPort (.lane .l0) (fun p => { p with unsolicited := List.replicate 15 (.flow true) })).port (.lane .l0)).unsolicited.length
        = 15
    ∧ (let e : Entry := { anEntry with item := { oneItem with serial := 5 } };
      ((queueing e).lane .l0).queue = e :: [] ∧ ((queueing e).lane .l0).inHand = false ∧ e.malformed.any = false ∧ e.ticket ≠ none
        ∧ e.item.serial ≠ 0 ∧ e.item.grade = 0 ∧ ((queueing e).port (.lane .l0)).unsolicited.length < 15)
    ∧ (((queueing anEntry).lane .l0).queue = anEntry :: [] ∧ anEntry.item.serial = 0)
    ∧ (serving (.verdict .l0) (queueing anEntry)).arbiter.serving = some (.verdict .l0) := by decide

/-- Bank A with class 3 open. -/
def openClass : State :=
  { up with tariff := { up.tariff with bankA := { up.tariff.bankA with classes := up.tariff.bankA.classes.set 3 ⟨true, 10, 100, 100, false, 64⟩ } } }

theorem witness_EntryIsRefusedOrCounted :
    (¬∃ number i t, anEntry.ticket = some number ∧ up.holdsTicket number i t ∧ t.state ∈ [.opened, .closing])
    ∧ ({ anEntry with malformed := ⟨true, false, false, false, false⟩ } : Entry).malformed.any = true
    ∧ (let s := withTicket bare openClass;
      s.holdsTicket 257 0 bare ∧ bare.state ∈ [.opened, .closing] ∧ anEntry.malformed.any = false ∧ anEntry.item.cls = some (3 : Fin 16).val
        ∧ ((s.tariff.bank bare.bank).classes.get 3).isOpen = true ∧ (firedOn s.watch ⟨0, 0, 0, 3, ⟨257, .l0, 1, 0, 0⟩⟩).any = false
        ∧ ((s.tariff.bank bare.bank).classes.get 3).serialRequired = false ∧ anEntry.item.quantity ≤ 64)
    ∧ (let s := withTicket bare { openClass with register := ⟨[], 0, 0, none⟩ };
      s.register.find 5 = none ∧ s.register.guardEnd = none
        ∧ s.register.insert s.clock.minute ⟨5, 0, 3, .pending 257⟩ = some ⟨[⟨5, 0, 3, .pending 257⟩], 1, 0, none⟩) := by
  refine ⟨?_, by decide, ⟨(by decide +kernel : State.lookupTicket _ _ = _), by decide +kernel⟩, by decide +kernel⟩
  rintro ⟨number, i, t, hn, ht, -⟩
  have h257 : 257 = number := by simpa [anEntry] using hn
  subst h257
  have : up.lookupTicket 257 = none := by decide +kernel
  have h2 : up.lookupTicket 257 = some (i, t) := ht
  rw [this] at h2
  cases h2

theorem witness_CausesAreFoundInPriority :
    foundCauses ⟨false, 0, 100, 0, true, 64⟩ .foreign (some .tally) ⟨1, some 3, 0, 65, 9, 5, true⟩ ⟨true, true, true, false⟩ 257
        (some ⟨5, 9, 3, .credited 0⟩) true
      = [.classClosed, .watchVoid, .foreignRefused, .duplicate, .watchHold, .registerCold, .noSerial, .weakRead, .tallyLimit]
    ∧ Cause.doubleRead ∈ foundCauses ⟨true, 0, 100, 0, true, 64⟩ .own (some .serial) ⟨1, some 3, 0, 1, 0, 5, false⟩ ⟨false, false, false, false⟩ 257
        (some ⟨5, 9, 3, .pending 257⟩) false := by decide

/-- What the register and the watch table find of an item of ticket 257 on lane 0. -/
def causesOf (s : State) (it : Item) : List Cause :=
  foundCauses ((s.tariff.bank bare.bank).classes.get 3) .own (some .tally) it
    (firedOn s.watch ⟨it.serial, it.owner, bare.account, 3, ⟨257, .l0, it.sequence, it.serial, s.clock.minute⟩⟩) 257
    (if it.serial ≠ 0 ∧ it.grade ≠ 2 then s.register.find it.serial else none) s.register.guardEnd.isSome

theorem witness_CausesAreFoundInPriority_verdicts :
    ((withTicket bare up).holdsTicket 257 0 bare ∧ (withTicket bare openClass).holdsTicket 257 0 bare ∧ bare.state ∈ [.opened, .closing]
      ∧ anEntry.ticket = some 257 ∧ anEntry.malformed.any = false ∧ anEntry.item.cls = some (3 : Fin 16).val)
    ∧ (causesOf (withTicket bare up) { oneItem with weak := true } = .classClosed :: [.weakRead] ∧ Cause.classClosed.code ≤ 6)
    ∧ (causesOf (withTicket bare openClass) { oneItem with weak := true } = .weakRead :: [] ∧ 6 < Cause.weakRead.code)
    ∧ (let s := withTicket bare { openClass with register := ⟨[], 4096, 0, none⟩ };
      causesOf s { oneItem with serial := 5 } = [] ∧ s.register.insert s.clock.minute ⟨5, 0, 3, .pending 257⟩ = none) :=
  ⟨⟨(by decide +kernel : State.lookupTicket _ _ = _), (by decide +kernel : State.lookupTicket _ _ = _), by decide, by decide, by decide, by decide⟩,
    by decide +kernel, by decide +kernel, by decide +kernel⟩

theorem witness_HoldClaimsARecord :
    (Cause.weakRead ≠ .watchHold ∧ (withTicket bare up).ticketAt 0 = some bare ∧ ((withTicket bare up).holds.get 0).hold = none
      ∧ ∀ k : Fin 64, k < 0 → ((withTicket bare up).holds.get k).hold ≠ none)
    ∧ (let s : State := { withTicket bare up with holds := (Table.fill 64 ⟨1, some plainHold⟩).set 63 ⟨255, none⟩ };
      (s.holds.get 63).hold = none ∧ ∀ k : Fin 64, k < 63 → (s.holds.get k).hold ≠ none)
    ∧ (let c : Case := ⟨.l0, { anEntry with item := { oneItem with serial := 5 } }, 0, 257, 3, .full, .own, none, false⟩;
      let keg : KegEntry := ⟨5, 0, 3, .pending 257⟩;
      c.entry.item.serial ≠ 0 ∧ c.entry.item.grade = 0 ∧ c.found = none ∧ c.keg = keg
        ∧ (⟨[], 0, 0, none⟩ : Register).insert 0 keg = some ⟨[keg], 1, 0, none⟩ ∧ (⟨[], 4096, 0, none⟩ : Register).insert 0 keg = none)
    ∧ ∀ k, (({ withTicket bare up with holds := Table.fill 64 ⟨1, some plainHold⟩ } : State).holds.get k).hold ≠ none := by decide +kernel

theorem witness_PowerOnStartsColdOrWarm :
    up.saving = none ∧ (∀ latch, up.phase ≠ .starting (.cold latch)) ∧ (State.reset.saving = none ∧ State.reset.phase = .starting (.cold false))
    ∧ ({ up with retentionMark := false } : State).retentionMark = false ∧ ({ up with batteryFall := true } : State).batteryFall = true
    ∧ 262144 ≤ ({ up with clock := ⟨0, 0, 262144⟩ } : State).clock.unpowered
    ∧ (up.retentionMark = true ∧ up.batteryFall = false ∧ ({ up with clock := ⟨0, 0, 262143⟩ } : State).clock.unpowered < 262144) := by decide

theorem witness_ResetAndSupplyKeepTheDomain :
    up.saving = none ∧ up.phase = .running ∧ (up.phase ≠ .off ∧ ∀ latch, up.phase ≠ .starting (.cold latch))
    ∧ (State.reset.saving = none ∧ State.reset.phase = .starting (.cold false))
    ∧ ({ up with phase := .starting .warm } : State).phase = .starting .warm ∧ ({ up with phase := .starting .unit } : State).phase = .starting .unit
    ∧ ({ up with phase := .held true } : State).phase = .held true ∧ ({ up with phase := .held false } : State).phase = .held false
    ∧ ({ up with phase := .off } : State).phase = .off := by decide

/-- A state in use: ticket 257 OPEN with lane 0 and a hold, ticket 258 PAYING, a PENDING entry, a verdict operation in service, and a QUOTE waiting. -/
def inUse : State :=
  withHold plainHold { withTicket { bare with lanes := ⟨true, false, false⟩, holds := 1 } (lane0 .counting) with
    tickets := ((Table.fill 24 ⟨0, none⟩).set 0 ⟨1, some { bare with lanes := ⟨true, false, false⟩, holds := 1 }⟩).set 1 ⟨1, some payingTicket⟩
    lanes := (lane0 .counting).lanes.modify .l0 (fun i => { i with batch := some aBatch, queue := [anEntry], inHand := true })
    register := kept (.pending 257)
    tariff := { Tariff.cold with refA := 1 }
    till := ⟨50000, 20000⟩
    arbiter := { Arbiter.start with serving := some (.verdict .l0), sweeps := [.sweep] }
    payTimer := some 45000
    pending := [.quote 2 257] }

theorem steps_inUse : ∃ t, step inUse = .next t := ⟨_, rfl⟩

/-- The only records in use are those of tickets 257 and 258. -/
theorem records_inUse (P : Fin 24 → Ticket → Prop) (h0 : P 0 { bare with lanes := ⟨true, false, false⟩, holds := 1 }) (h1 : P 1 payingTicket) :
    ∀ i : Fin 24, ∀ t ∈ inUse.ticketAt i, P i t := by
  intro i t ht
  have key : ∀ i : Fin 24, i = 0 ∨ i = 1 ∨ inUse.ticketAt i = none := by decide
  rcases key i with rfl | rfl | h
  · cases ht; exact h0
  · cases ht; exact h1
  · rw [h] at ht; cases ht

theorem witness_EveryStepKeepsTheRegister : inUse.register.ok ∧ ∃ t, step inUse = .next t := by
  refine ⟨⟨?_, ?_, by decide, by decide, by decide⟩, steps_inUse⟩ <;> decide
theorem witness_EveryStepKeepsTheTill : inUse.tillOk ∧ ∃ t, step inUse = .next t := by
  refine ⟨⟨by decide, by decide, by decide, ?_⟩, steps_inUse⟩
  intro i j t ht u hu
  revert i t
  refine records_inUse _ (fun h => absurd h (by decide)) (fun _ => ?_)
  revert j u
  exact records_inUse _ (fun h => absurd h (by decide)) (fun _ => rfl)
theorem witness_EveryStepKeepsTheBankReferences : inUse.refsOk ∧ ∃ t, step inUse = .next t :=
  ⟨fun bank => by cases bank <;> decide, steps_inUse⟩
theorem witness_EveryStepKeepsTheLaneSets : inUse.lanesOk ∧ ∃ t, step inUse = .next t := by
  refine ⟨⟨records_inUse _ (by decide) (by decide), ?_, fun _ => records_inUse _ ?_ ?_⟩, steps_inUse⟩
  · intro i j t ht u hu
    revert i t
    refine records_inUse _ ?_ (fun n h => by cases n <;> exact absurd h (by decide))
    revert j u
    exact records_inUse _ (fun n _ _ => rfl) (fun n _ h => by cases n <;> exact absurd h (by decide))
  · intro n h; cases n
    · decide
    · exact absurd h (by decide)
    · exact absurd h (by decide)
  · intro n h; cases n <;> exact absurd h (by decide)
theorem witness_EveryStepKeepsHoldsAndPendingEntries : (inUse.holdsOk ∧ inUse.pendingOk) ∧ ∃ t, step inUse = .next t := by
  have key : ∀ j : Fin 64, j = 0 ∨ (inUse.holds.get j).hold = none := by decide
  refine ⟨⟨⟨?_, records_inUse _ (by decide) (by decide), by decide, ?_⟩, ?_⟩, steps_inUse⟩
  · intro j h hh
    rcases key j with rfl | hj
    · cases hh; exact ⟨0, by decide, _, rfl, by decide⟩
    · rw [hj] at hh; cases hh
  · intro n
    show n ∈ [256] ↔ _
    constructor
    · intro h; rw [List.mem_singleton] at h; subst h; exact ⟨0, by decide, by decide⟩
    · rintro ⟨j, h, rfl⟩
      rcases key j with rfl | hj
      · decide
      · rw [hj] at h; cases h
  · intro e he n hn
    have : e = ⟨70144, 0, 3, .pending 257⟩ := List.mem_singleton.mp he
    subst this
    cases hn
    exact ⟨0, by decide, _, rfl, by decide⟩
theorem witness_EveryStepKeepsTheMoney : inUse.moneyOk ∧ ∃ t, step inUse = .next t := by
  refine ⟨records_inUse _ ⟨⟨rfl, rfl, rfl⟩, fun p hp => by cases hp⟩ ⟨⟨rfl, rfl, rfl⟩, ?_⟩, steps_inUse⟩
  intro p hp
  cases hp
  exact ⟨⟨by decide, by decide, by decide, by decide, by decide⟩, fun h => absurd h (by decide), fun o ho => by cases ho; rfl, fun r hr => by cases hr⟩
theorem witness_EveryStepKeepsTheArbiter : inUse.arbiterOk ∧ ∃ t, step inUse = .next t := by
  refine ⟨⟨fun h => absurd h (by decide), fun h => absurd h (by decide), by decide, fun n => ?_⟩, steps_inUse⟩
  unfold State.verdictRaised
  cases n <;> decide
theorem witness_EveryStepKeepsTheLimitsSettingsAndClock :
    inUse.boundsOk ∧ (inUse.settingsOk ∧ inUse.clockOk) ∧ ∃ t, step inUse = .next t := by
  refine ⟨⟨fun l => ?_, fun n => ?_, by decide⟩, ⟨⟨defaults_ok, fun h => absurd h (by decide), fun c hc => by cases hc⟩, by decide, by decide,
    by decide, fun c hc => by cases hc⟩, steps_inUse⟩
  · have h : ∀ l, inUse.port l = Port.start 57600 := by
      rintro (n | _ | _)
      · cases n <;> rfl
      · rfl
      · rfl
    rw [h]
    exact ⟨by decide, by decide, by decide, by decide, by decide, rfl, rfl⟩
  · cases n <;> exact ⟨by decide, fun h => absurd h (by decide)⟩

end Sys2Proof.Tests
end

/-! PROOFS. What a step can do to the books: the tickets, the bank references, the holds, the register's entries and the batches of the lanes.
Every command moves the books by a run of the few moves of `Move`; a law that each move keeps is kept by every step. -/

namespace Sys2Proof.Machine

open Sys2Proof

/-! ## The books -/

/-- The part of the state that the laws of chapters 1, 2, 4 and 7 read. A lane's batch counts by the ticket it names (R6). -/
structure Books where
  tickets : Table TicketSlot 24
  refA : Nat
  refB : Nat
  holds : Table HoldSlot 64
  holdOrder : List Nat
  entries : List KegEntry
  batches : PerLane (Option Nat)
  stands : Bool

/-- The books of a state. -/
def State.books (s : State) : Books where
  tickets := s.tickets
  refA := s.tariff.refA
  refB := s.tariff.refB
  holds := s.holds
  holdOrder := s.holdOrder
  entries := s.register.entries
  batches := s.lanes.map (fun i => i.batch.map Batch.ticket)
  stands := s.phase.intakesStand

theorem State.books_batches (s : State) (n : Lane) : s.books.batches.get n = (s.lane n).batch.map Batch.ticket := by
  simp [State.books, State.lane]

/-- A change of an intake that leaves the ticket of its batch as it is leaves the books as they are. -/
@[simp] theorem State.modifyLane_books {s : State} {n : Lane} {f : Intake → Intake}
    (h : (f (s.lane n)).batch.map Batch.ticket = (s.lane n).batch.map Batch.ticket) : (s.modifyLane n f).books = s.books := by
  have hmap : (s.modifyLane n f).lanes.map (fun i => i.batch.map Batch.ticket) = s.lanes.map (fun i => i.batch.map Batch.ticket) := by
    cases n <;> simpa [PerLane.modify, PerLane.map, State.lane, PerLane.get] using h
  simp only [State.books, hmap]
  rfl

@[simp] theorem State.modifyPort_books (s : State) (l : Link) (f : Port → Port) : (s.modifyPort l f).books = s.books := rfl
@[simp] theorem State.modifyArbiter_books (s : State) (f : Arbiter → Arbiter) : (s.modifyArbiter f).books = s.books := rfl
@[simp] theorem State.modifyEdges_books (s : State) (f : Edges → Edges) : (s.modifyEdges f).books = s.books := rfl
@[simp] theorem State.withKey_books (s : State) (key : Bool) : (s.withKey key).books = s.books := rfl
@[simp] theorem State.raiseCheckError_books (s : State) : s.raiseCheckError.books = s.books := rfl
@[simp] theorem State.raiseLaneFault_books (s : State) : s.raiseLaneFault.books = s.books := rfl
@[simp] theorem State.raiseWatchHit_books (s : State) : s.raiseWatchHit.books = s.books := rfl
@[simp] theorem State.raiseStrayItems_books (s : State) : s.raiseStrayItems.books = s.books := rfl
@[simp] theorem State.reply_books (s : State) (l : Link) (a : Answer) : (s.reply l a).books = s.books := rfl
@[simp] theorem State.replyCode_books (s : State) (l : Link) (r : Result) : (s.replyCode l r).books = s.books := rfl
@[simp] theorem State.replyOldest_books (s : State) (l : Link) (kind : Nat) (a : Answer) : (s.replyOldest l kind a).books = s.books := rfl
@[simp] theorem State.sendOwn_books (s : State) (n : Lane) (f : OwnFrame) : (s.sendOwn n f).books = s.books := rfl
@[simp] theorem State.refuseAtOnce_books (s : State) (n : Lane) (q : Nat) (why : Cause) : (s.refuseAtOnce n q why).books = s.books := rfl
@[simp] theorem State.sendVerdict_books (s : State) (n : Lane) (e : Entry) (v : VerdictFrame) : (s.sendVerdict n e v).books = s.books := rfl
@[simp] theorem State.overflow_books (s : State) (l : Link) : (s.overflow l).books = s.books := rfl
@[simp] theorem State.swap_books (s : State) : s.swap.books = s.books := rfl

@[simp] theorem State.heardDesk_books (s : State) (l : Link) : (s.heardDesk l).books = s.books := by cases l <;> rfl

@[simp] theorem State.heardLane_books (s : State) (l : Link) : (s.heardLane l).books = s.books := by
  cases l with
  | lane n =>
    apply State.modifyLane_books
    split <;> rfl
  | k => rfl
  | f => rfl

@[simp] theorem State.completeOperation_books (s : State) : s.completeOperation.books = s.books := by
  unfold State.completeOperation; split <;> rfl

@[simp] theorem State.raiseOrBusy_books (s : State) (l : Link) (op : OfficeOp) : (s.raiseOrBusy l op).books = s.books := by
  unfold State.raiseOrBusy; split <;> rfl

@[simp] theorem State.reachedTest_books (s : State) : s.reachedTest.books = s.books := by
  unfold State.reachedTest
  split
  · rfl
  · split <;> rfl

@[simp] theorem State.raiseSweep_books (s : State) : s.raiseSweep.books = s.books := by
  unfold State.raiseSweep; split <;> rfl

@[simp] theorem State.raiseExpiriesAndSweep_books (s : State) : s.raiseExpiriesAndSweep.books = s.books := by
  unfold State.raiseExpiriesAndSweep
  split
  · simp
  · split
    · exact s.raiseSweep_books
    · exact (s.modifyArbiter _).raiseSweep_books

@[simp] theorem State.discard_books (s : State) (l : Link) (why : DiscardReason) : (s.discard l why).books = s.books := by
  unfold State.discard; split <;> rfl

@[simp] theorem State.flowAfterInsertion_books (s : State) (n : Lane) : (s.flowAfterInsertion n).books = s.books := by
  unfold State.flowAfterInsertion; dsimp only; split <;> simp

@[simp] theorem State.flowAfterRemoval_books (s : State) (n : Lane) : (s.flowAfterRemoval n).books = s.books := by
  unfold State.flowAfterRemoval; dsimp only; split <;> simp

@[simp] theorem State.enterRefused_books (s : State) (n : Lane) (why : RefusalReason) : (s.enterRefused n why).books = s.books := by
  simp [State.enterRefused]

@[simp] theorem State.cutSave_books (s : State) : s.cutSave.books = s.books := by
  unfold State.cutSave; split <;> rfl

@[simp] theorem State.cutStart_books (s : State) : s.cutStart.books = s.books := by
  unfold State.cutStart
  split
  · split <;> rfl
  · rfl

@[simp] theorem State.loadSettings_books (s : State) : s.loadSettings.books = s.books := by
  unfold State.loadSettings; dsimp only; split <;> rfl

/-! ## The moves -/

/-- What of a ticket its laws read: all but the account, the stamps, the counts and the flags. -/
def Ticket.standing (t : Ticket) :
    TicketState × Bool × BankId × LaneSet × Nat × Option PricedRecord × Option PayoutRecord × Option SettlementRecord :=
  (t.state, t.cashAllowed, t.bank, t.lanes, t.holds, t.priced, t.payout, t.settlement)

/-- The changes of one record that involve no other part of the books. -/
inductive TicketStep (t : Ticket) : Ticket → Prop where
  /-- Counts, flags, stamps. -/
  | edit {u : Ticket} (h : u.standing = t.standing) : TicketStep t u
  /-- A lane leaves (R7). -/
  | unlist (n : Lane) (flags : TicketFlags) : TicketStep t { t with lanes := t.lanes.drop n, flags := flags }
  /-- OPEN to CLOSING (R11, R12, R14). -/
  | close (h : t.state = .opened) : TicketStep t { t with state := .closing }
  /-- PRICED to PAYING with a reservation within the cash quote, in whole steps (R164). -/
  | pay {p : PricedRecord} {r : Nat} (hs : t.state = .priced) (hp : t.priced = some p) (hr : r ≤ p.cash)
      (hm : p.cash % p.step = 0 → r % p.step = 0) : TicketStep t (t.toPaying r)
  /-- A report or a claim is recorded (R166, R169). -/
  | payout {f : PayoutRecord → PayoutRecord} (h : ∀ o, (f o).reservation = o.reservation) :
      TicketStep t { t with payout := t.payout.map f }
  /-- PAYING to DOUBT (R168). -/
  | doubt (h : t.state = .paying) : TicketStep t { t with state := .doubt }

/-- Whether the register holds a PENDING entry of a ticket number. -/
def Register.pends (r : Register) (number : Nat) : Prop := ∃ e ∈ r.entries, e.state = .pending number

/-- A number that a new PENDING entry may carry: that of an entry before, of a ticket in OPEN or CLOSING, or of a hold's ticket. -/
def State.mayPend (s : State) (number : Nat) : Prop :=
  s.register.pends number
    ∨ (∃ i t, s.ticketAt i = some t ∧ t.counting = true ∧ s.ticketNumber i = number)
    ∨ ∃ j h, (s.holds.get j).hold = some h ∧ h.ticket = number

/-- A reference less on a bank. -/
def State.dropRef (s : State) (bank : BankId) : State := { s with tariff := s.tariff.dropRef bank }

/-- The void of a ticket without the closing of its batches, which touches none of what this changes (R19). -/
def State.voidRecord (s : State) (ticket : Nat) (i : Fin 24) (t : Ticket) : State :=
  let s1 : State := { s.putTicket i t.toVoid with register := s.register.voidTicket ticket }
  if t.counting then (s1.dropHolds ticket).dropRef t.bank else s1.dropHolds ticket

/-- The moves of the books. -/
inductive Move (s : State) : State → Prop where
  /-- The books stand. -/
  | frame {t : State} (h : t.books = s.books) : Move s t
  /-- One record changes. -/
  | ticket {i : Fin 24} {t u : Ticket} (h : s.ticketAt i = some t) (hu : TicketStep t u) : Move s (s.putTicket i u)
  /-- A ticket is made in a FREE slot (R3 to R5). -/
  | opened {i : Fin 24} (account : Nat) (cash : Bool) (h : s.ticketAt i = none) : Move s (s.makeTicket i account cash)
  /-- The pricing event (R13, R145). -/
  | priced {i : Fin 24} {t : Ticket} (b : Bank) (step cap : Nat) (h : s.ticketAt i = some t) (hc : t.clearToPrice = true) :
      Move s ((s.putTicket i (t.priceWith b step cap)).dropRef t.bank)
  /-- A settle walk (R116). -/
  | settled {i : Fin 24} {number : Nat} {t : Ticket} {w : Settler} {g : Settling} (h : s.holdsTicket number i t)
      (hg : w.settling t = some g) : Move s (s.settleTicket number i g)
  /-- A void walk (R19). -/
  | voided {i : Fin 24} {number : Nat} {t : Ticket} (h : s.holdsTicket number i t) (hs : t.counting = true ∨ t.state = .priced) :
      Move s (s.voidRecord number i t)
  /-- A slot becomes FREE (R21). -/
  | collected {i : Fin 24} {t : Ticket} (h : s.ticketAt i = some t) (hs : t.state = .settled ∨ t.state = .voided) : Move s (s.freeTicket i)
  /-- A lane joins a ticket (R38). -/
  | bound {i : Fin 24} {n : Lane} {number : Nat} {t : Ticket} (minute : Nat) (hr : s.running = true) (hb : (s.lane n).batch = none)
      (h : s.holdsTicket number i t) (hs : t.state = .opened) (hc : t.lanes.card < 2) :
      Move s ((s.putTicket i { t with lanes := t.lanes.add n }).modifyLane n (fun i => { i with batch := some (i.newBatch number minute) }))
  /-- A batch record that its ticket no longer lists is dropped (R43). -/
  | unbound {n : Lane} (h : ∀ b ∈ (s.lane n).batch, ∀ i t, s.ticketAt i = some t → s.ticketNumber i = b.ticket → t.lanes.mem n = false) :
      Move s (s.modifyLane n (fun i => { i with batch := none }))
  /-- A hold is made for a ticket in OPEN or CLOSING (R78, R81). -/
  | held {j : Fin 64} {c : Case} {t : Ticket} (cause : Cause) (also : List Cause) (entryMade : Bool) (hj : (s.holds.get j).hold = none)
      (h : s.holdsTicket c.number c.slot t) (hc : t.counting = true) : Move s (s.makeHold j c cause also entryMade)
  /-- A hold is freed and its ticket has one fewer outstanding (R84 to R86). -/
  | resolved {j : Fin 64} {h : Hold} {k : Fin 24} {t : Ticket} (expired : Nat) (hj : (s.holds.get j).hold = some h)
      (hk : s.holdsTicket h.ticket k t) : Move s ((s.freeHold j).putTicket k { t with holds := t.holds - 1, expired := expired })
  /-- A hold that names no ticket is freed. -/
  | orphaned {j : Fin 64} {h : Hold} (hj : (s.holds.get j).hold = some h) (hk : s.lookupTicket h.ticket = none) : Move s (s.freeHold j)
  /-- The register changes. -/
  | register (r : Register) (h : ∀ number, r.pends number → s.mayPend number) : Move s { s with register := r }
  /-- The stamps move (R182). -/
  | rebased (c : ClockSet) : Move s (s.rebaseTo c)
  /-- What is not retained is lost (R203). -/
  | dropped (p : Phase) (hp : p.intakesStand = false) : Move s { s.dropVolatile with phase := p }
  /-- A warm start or a unit reset (R211, R213). -/
  | warm (kind : StartKind) : Move s { s.startVolatile.warmFixups with phase := .starting kind }
  /-- A cold start (R212). -/
  | cold (kind : StartKind) : Move s { s.startVolatile.coldClear with phase := .starting kind }

/-- A state is reached by a run of moves. -/
def Reaches : State → State → Prop := Relation.ReflTransGen Move

theorem Reaches.refl (s : State) : Reaches s s := Relation.ReflTransGen.refl

theorem Reaches.trans {s t u : State} (h : Reaches s t) (h' : Reaches t u) : Reaches s u := Relation.ReflTransGen.trans h h'

theorem Reaches.of_move {s t : State} (h : Move s t) : Reaches s t := Relation.ReflTransGen.single h

theorem Reaches.of_books {s t : State} (h : t.books = s.books) : Reaches s t := Reaches.of_move (.frame h)

/-- A run of moves and then a change outside the books. -/
theorem Reaches.frame {s t u : State} (h : Reaches s t) (e : u.books = t.books) : Reaches s u := h.trans (.of_books e)

/-- A law that every move keeps is kept by a run of moves. -/
theorem Reaches.keeps {law : State → Prop} (hlaw : ∀ s t, Move s t → law s → law t) {s t : State} (h : Reaches s t) (hs : law s) :
    law t := by
  induction h with
  | refl => exact hs
  | tail _ hm ih => exact hlaw _ _ hm ih

/-! ## Tickets -/

theorem Table.set_get_self {α : Type} {n : Nat} (t : Table α n) (i : Fin n) : t.set i (t.get i) = t := by
  cases t
  simp [Table.set, Table.get]

theorem State.modifyTicket_of_free {s : State} {i : Fin 24} (h : s.ticketAt i = none) (f : Ticket → Ticket) : s.modifyTicket i f = s := by
  have h' : (s.tickets.get i).ticket = none := h
  have e : (⟨(s.tickets.get i).generation, (s.tickets.get i).ticket.map f⟩ : TicketSlot) = s.tickets.get i := by
    rw [h']
    cases hsl : s.tickets.get i
    simp_all
  unfold State.modifyTicket Table.modify
  dsimp only
  rw [e, Table.set_get_self]

/-- A change of one record is a move when it is one of the changes of a record. -/
theorem State.modifyTicket_reaches (s : State) (i : Fin 24) {f : Ticket → Ticket}
    (h : ∀ t, s.ticketAt i = some t → TicketStep t (f t)) : Reaches s (s.modifyTicket i f) := by
  cases ht : s.ticketAt i with
  | none => rw [State.modifyTicket_of_free ht]; exact .refl s
  | some t => rw [State.modifyTicket_eq_put ht]; exact .of_move (.ticket ht (h t ht))

theorem Ticket.toClosing_step (t : Ticket) : TicketStep t t.toClosing := by
  unfold Ticket.toClosing
  split
  · rename_i h; exact .close h
  · exact .edit rfl

theorem Ticket.toDoubt_step (t : Ticket) : TicketStep t t.toDoubt := by
  unfold Ticket.toDoubt
  split
  · rename_i h; exact .doubt h
  · exact .edit rfl

theorem Ticket.setCounter_standing (t : Ticket) (c : Fin 16) (g : Grade) (o : Ownership) (v : Nat) :
    (t.setCounter c g o v).standing = t.standing := by
  cases g <;> rfl

theorem Ticket.addCount_step (t : Ticket) (c : Fin 16) (g : Grade) (o : Ownership) (q : Nat) : TicketStep t (t.addCount c g o q) :=
  .edit (t.setCounter_standing c g o (min 65535 (t.counter c g o + q)))

theorem Ticket.adjust_step (t : Ticket) (c : Fin 16) (g : Grade) (o : Ownership) (delta : Int) : TicketStep t (t.adjust c g o delta) :=
  .edit (t.setCounter_standing c g o (adjusted (t.counter c g o) delta))

theorem State.priceTest_reaches (s : State) (i : Fin 24) : Reaches s (s.priceTest i) := by
  unfold State.priceTest
  split
  · exact .refl s
  · rename_i t ht
    split
    · rename_i hc
      rw [State.modifyTicket_eq_put ht]
      exact .of_move (.priced _ _ _ ht hc)
    · exact .refl s

theorem State.closeTicket_reaches (s : State) (i : Fin 24) : Reaches s (s.closeTicket i) :=
  (s.modifyTicket_reaches i (fun t _ => t.toClosing_step)).trans (State.priceTest_reaches _ i)

/-! ## Batches -/

theorem State.ticketRelease_reaches (s : State) (n : Lane) (number : Nat) (failed : Bool) : Reaches s (s.ticketRelease n number failed) := by
  unfold State.ticketRelease
  split
  · exact .refl s
  · rename_i i t _
    split
    · exact (s.modifyTicket_reaches i (fun t _ => .unlist n _)).trans (State.priceTest_reaches _ i)
    · exact .refl s

@[simp] theorem State.dropRef_ticketAt (s : State) (bank : BankId) (i : Fin 24) : (s.dropRef bank).ticketAt i = s.ticketAt i := rfl
@[simp] theorem State.dropRef_ticketNumber (s : State) (bank : BankId) (i : Fin 24) : (s.dropRef bank).ticketNumber i = s.ticketNumber i := rfl

@[simp] theorem State.priceTest_ticketNumber (s : State) (i j : Fin 24) : (s.priceTest i).ticketNumber j = s.ticketNumber j := by
  unfold State.priceTest
  split
  · rfl
  · split
    · exact s.modifyTicket_ticketNumber i j _
    · rfl

@[simp] theorem LaneSet.mem_drop_same (l : LaneSet) (n : Lane) : (l.drop n).mem n = false := by cases n <;> rfl

/-- The pricing test changes no lane set. -/
theorem State.priceTest_lists (s : State) (i j : Fin 24) : ((s.priceTest i).ticketAt j).map Ticket.lanes = (s.ticketAt j).map Ticket.lanes := by
  unfold State.priceTest
  split
  · rfl
  · split
    · rename_i t ht _
      show ((s.modifyTicket i _).ticketAt j).map Ticket.lanes = _
      rw [State.modifyTicket_ticketAt]
      split
      · simp [Option.map_map, Function.comp_def, Ticket.priceWith]
      · rfl
    · rfl

/-- After a release the ticket that was named does not list the lane. -/
theorem State.ticketRelease_unlists (s : State) (n : Lane) (number : Nat) (failed : Bool) (i : Fin 24) (t : Ticket)
    (ht : (s.ticketRelease n number failed).ticketAt i = some t) (hn : (s.ticketRelease n number failed).ticketNumber i = number) :
    t.lanes.mem n = false := by
  unfold State.ticketRelease at ht hn
  split at ht
  · rename_i hl
    rw [hl] at hn
    exact absurd hn (State.lookupTicket_eq_none.mp hl i t ht)
  · rename_i k u hl
    obtain ⟨hu, hk⟩ := State.lookupTicket_eq_some.mp hl
    rw [hl] at hn
    split at ht
    · rename_i hm
      simp only [hm, if_true, State.priceTest_ticketNumber, State.modifyTicket_ticketNumber] at hn
      obtain rfl : i = k := State.ticketNumber_inj (hn.trans hk.symm)
      have hlanes := State.priceTest_lists (s.modifyTicket i (fun t =>
        { t with lanes := t.lanes.drop n, flags := { t.flags with recount := t.flags.recount || failed } })) i i
      rw [ht] at hlanes
      simp only [State.modifyTicket_ticketAt_same, hu, Option.map_some, Option.some.injEq] at hlanes
      rw [hlanes, LaneSet.mem_drop_same]
    · rename_i hm
      simp only [hm, if_false, Bool.false_eq_true] at hn
      obtain rfl : i = k := State.ticketNumber_inj (hn.trans hk.symm)
      rw [ht] at hu
      cases hu
      simpa using hm

theorem State.releaseBatch_reaches (s : State) (n : Lane) (lost : Bool) : Reaches s (s.releaseBatch n lost) := by
  unfold State.releaseBatch
  split
  · exact .refl s
  · rename_i b hb
    dsimp only
    generalize hf : reconcileFails s.settings.tolerance b = failed
    have drop (u : State) (hu : u.books = (s.ticketRelease n b.ticket failed).books) (hl : u.lanes = s.lanes) :
        Reaches s (u.modifyLane n (fun i => { i with batch := none })) := by
      refine ((s.ticketRelease_reaches n b.ticket failed).frame hu).trans (.of_move (.unbound ?_))
      intro b' hb' i t ht hn
      have hsame : u.lane n = s.lane n := by unfold State.lane; rw [hl]
      have htick : u.tickets = (s.ticketRelease n b.ticket failed).tickets := congrArg Books.tickets hu
      rw [hsame, hb] at hb'
      cases hb'
      unfold State.ticketAt at ht
      unfold State.ticketNumber at hn
      rw [htick] at ht hn
      exact s.ticketRelease_unlists n b.ticket failed i t ht hn
    split
    · exact drop _ rfl (by simp)
    · exact drop _ rfl (by simp)
    · split
      · exact drop _ rfl (by simp)
      · exact drop _ rfl (by simp)

@[simp] theorem Intake.markBatchEnd_batch (i : Intake) (ticket : Nat) : (i.markBatchEnd ticket).batch = i.batch := by
  unfold Intake.markBatchEnd; split <;> rfl

theorem Intake.activeBatch_eq_some {i : Intake} {b : Batch} (h : i.activeBatch = some b) : i.batch = some b ∧ b.reason = none := by
  unfold Intake.activeBatch at h
  obtain ⟨hb, ha⟩ := Option.filter_eq_some_iff.mp h
  exact ⟨hb, by simpa [Batch.active] using ha⟩

theorem State.closeBatch_reaches (s : State) (n : Lane) (why : CloseReason) : Reaches s (s.closeBatch n why) := by
  unfold State.closeBatch
  split
  · exact .refl s
  · rename_i b hb
    obtain ⟨hb, _⟩ := Intake.activeBatch_eq_some hb
    have closed : Reaches s (s.modifyLane n (fun i => { i with batch := some { b with reason := some why } })) :=
      .of_books (State.modifyLane_books (by simp [hb]))
    dsimp only
    split
    · exact closed.frame (State.modifyLane_books (by simp))
    · exact closed.trans (State.releaseBatch_reaches _ n false)

theorem State.closeBatches_reaches (ns : List Lane) (why : CloseReason) (s : State) : Reaches s (s.closeBatches ns why) := by
  unfold State.closeBatches
  induction ns generalizing s with
  | nil => exact .refl s
  | cons n ns ih => exact (s.closeBatch_reaches n why).trans (ih _)

@[simp] theorem Intake.goDown_batch (i : Intake) : i.goDown.batch = i.batch := rfl
@[simp] theorem Intake.removeHead_batch (i : Intake) : i.removeHead.batch = i.batch := rfl

theorem State.enterDown_reaches (s : State) (n : Lane) : Reaches s (s.enterDown n) := by
  unfold State.enterDown
  exact (s.closeBatch_reaches n .down).frame ((State.raiseLaneFault_books _).trans (State.modifyLane_books (by simp)))

theorem State.removeHead_reaches (s : State) (n : Lane) (e : Entry) : Reaches s (s.removeHead n e) := by
  unfold State.removeHead
  have moved : Reaches s (s.modifyLane n Intake.removeHead) := .of_books (State.modifyLane_books rfl)
  have paced : Reaches s ((if (s.lane n).landing.isSome = true then (s.modifyLane n Intake.removeHead).flowAfterInsertion n
      else s.modifyLane n Intake.removeHead).flowAfterRemoval n) := by
    split
    · exact moved.frame (by simp)
    · exact moved.frame (by simp)
  dsimp only
  split
  · exact paced.trans (State.releaseBatch_reaches _ n _)
  · exact paced

/-! ### A reference dropped before or after the closing of batches -/

theorem Tariff.dropRef_comm (t : Tariff) (k c : BankId) : (t.dropRef k).dropRef c = (t.dropRef c).dropRef k := by
  cases k <;> cases c <;> rfl

@[simp] theorem Tariff.dropRef_bank (t : Tariff) (k c : BankId) : (t.dropRef k).bank c = t.bank c := by
  cases k <;> cases c <;> rfl

theorem State.dropRef_priceTest (s : State) (bank : BankId) (i : Fin 24) : (s.dropRef bank).priceTest i = (s.priceTest i).dropRef bank := by
  cases ht : s.ticketAt i with
  | none => simp [State.priceTest, ht]
  | some t =>
    by_cases hc : t.clearToPrice = true
    · rw [State.priceTest_of_clear (show (s.dropRef bank).ticketAt i = some t from ht) hc, State.priceTest_of_clear ht hc]
      simp only [State.dropRef, Tariff.dropRef_bank, Tariff.dropRef_comm s.tariff bank t.bank]
      rfl
    · simp [State.priceTest, ht, hc]

theorem State.dropRef_ticketRelease (s : State) (bank : BankId) (n : Lane) (number : Nat) (failed : Bool) :
    (s.dropRef bank).ticketRelease n number failed = (s.ticketRelease n number failed).dropRef bank := by
  have hl : (s.dropRef bank).lookupTicket number = s.lookupTicket number := rfl
  unfold State.ticketRelease
  rw [hl]
  split
  · rfl
  · split
    · exact State.dropRef_priceTest (s.modifyTicket _ _) bank _
    · rfl

theorem State.dropRef_releaseBatch (s : State) (bank : BankId) (n : Lane) (lost : Bool) :
    (s.dropRef bank).releaseBatch n lost = (s.releaseBatch n lost).dropRef bank := by
  have hl : (s.dropRef bank).lane n = s.lane n := rfl
  have hs : (s.dropRef bank).settings = s.settings := rfl
  unfold State.releaseBatch
  rw [hl, hs]
  split
  · rfl
  · simp only [State.dropRef_ticketRelease]
    split
    · rfl
    · rfl
    · split <;> rfl

theorem State.dropRef_closeBatch (s : State) (bank : BankId) (n : Lane) (why : CloseReason) :
    (s.dropRef bank).closeBatch n why = (s.closeBatch n why).dropRef bank := by
  have hl : (s.dropRef bank).lane n = s.lane n := rfl
  unfold State.closeBatch
  rw [hl]
  split
  · rfl
  · dsimp only
    split
    · rfl
    · exact State.dropRef_releaseBatch (s.modifyLane n _) bank n false

theorem State.dropRef_closeBatches (ns : List Lane) (why : CloseReason) (bank : BankId) (s : State) :
    (s.dropRef bank).closeBatches ns why = (s.closeBatches ns why).dropRef bank := by
  unfold State.closeBatches
  induction ns generalizing s with
  | nil => rfl
  | cons n ns ih => rw [List.foldl_cons, List.foldl_cons, State.dropRef_closeBatch, ih]

/-- The void of a ticket is the change of the books and then the closing of its batches. -/
theorem State.voidTicket_eq {s : State} {i : Fin 24} {t : Ticket} (h : s.ticketAt i = some t) (ticket : Nat) :
    s.voidTicket ticket i t = (s.voidRecord ticket i t).closeBatches t.lanes.members .voided := by
  unfold State.voidTicket State.voidRecord
  rw [State.modifyTicket_eq_put h]
  dsimp only
  split
  · rw [State.dropRef_closeBatches]
    rfl
  · rfl

end Sys2Proof.Machine

namespace Sys2Proof.Machine

open Sys2Proof

/-! ## Requests -/

theorem State.running_of_listening {s : State} {l : Link} (h : s.listening l = true) : s.running = true := by
  cases l with
  | lane n =>
    simp only [State.listening, Bool.and_eq_true] at h
    exact h.1
  | k => exact h
  | f => exact h

theorem State.running_of_phase {s t : State} (h : t.phase = s.phase) (hs : s.running = true) : t.running = true := by
  unfold State.running at *; rwa [h]

/-- A request moves the books as its handling does, and is handled only while the links are open. -/
theorem State.takeRequest_reaches (s : State) (l : Link) (kind tag : Nat) {handle : State → State}
    (h : ∀ u : State, u.running = true → Reaches u (handle u)) : Reaches s (s.takeRequest l kind tag handle) := by
  unfold State.takeRequest
  split
  · rename_i hl
    split
    · have listed : Reaches s ((s.heardDesk l).modifyPort l (Port.enqueue kind tag)) := .of_books (by simp)
      have hr : ((s.heardDesk l).modifyPort l (Port.enqueue kind tag)).running = true :=
        State.running_of_phase (by simp) (State.running_of_listening hl)
      exact (listed.trans (h _ hr)).frame (by simp)
    · exact .of_books rfl
  · exact .refl s

/-! ## Lanes -/

theorem State.handleOffer_books (s : State) (n : Lane) (o : LaneOffer) (ack : Bool) : (s.handleOffer n o ack).books = s.books := by
  have hrefuse (u : State) : (u.refuseOffer n o).books = u.books := by simp [State.refuseOffer]
  have hlisten (u : State) : (u.listenOffer n o).books = u.books := by
    unfold State.listenOffer; split
    · exact hrefuse u
    · simp [Intake.offeringWith]
  have hanswer (u : State) : (u.answerOffer n).books = u.books := by simp [State.answerOffer]
  have hoffering : (s.offeringOffer n o).books = s.books := by
    unfold State.offeringOffer; split
    · exact hrefuse s
    · split <;> simp [Intake.offeringWith]
  have hacking : (s.ackingOffer n o ack).books = s.books := by
    unfold State.ackingOffer; dsimp only; split
    · exact hrefuse s
    · split
      · split <;> simp [Intake.enterCounting]
      · simp [Intake.offeringWith]
  unfold State.handleOffer
  split
  · rfl
  · rw [hanswer, hlisten]
  · rw [hanswer, hoffering]
  · rw [hanswer, hacking]
  · rfl
  · split
    · rfl
    · rw [hanswer, hlisten, State.modifyLane_books rfl]
  · split
    · rfl
    · rw [hanswer, hlisten, State.modifyLane_books rfl]
  · split
    · rw [hanswer]
    · rw [hanswer, hlisten]; simp

theorem State.overrun_reaches (s : State) (n : Lane) (old new : Entry) : Reaches s (s.overrun n old new) := by
  unfold State.overrun
  dsimp only
  have placed : Reaches s ((if old.lostLink = true then s else s.refuseAtOnce n old.item.sequence .overrun).modifyLane n
      (fun i => { i with landing := some new })) := by
    split <;> exact .of_books (by simp)
  split
  · split
    · exact placed
    · split
      · exact placed.frame (by simp)
      · exact placed.trans (State.releaseBatch_reaches _ n _)
  · exact placed

theorem State.placeEntry_reaches (s : State) (n : Lane) (e : Entry) : Reaches s (s.placeEntry n e) := by
  unfold State.placeEntry
  split
  · exact .of_books (by simp)
  · split
    · exact .of_books (by simp)
    · exact s.overrun_reaches n _ e

@[simp] theorem State.itemBurst_books (s : State) (n : Lane) : (s.itemBurst n).books = s.books := by
  unfold State.itemBurst
  dsimp only
  split
  · simp
  · split <;> simp

theorem Intake.countItem_batch (i : Intake) (q : Nat) (gap : Bool) :
    (i.countItem q gap).batch.map Batch.ticket = i.batch.map Batch.ticket := by
  unfold Intake.countItem
  cases i.batch with
  | none => rfl
  | some b => simp only [Option.map_some]; split <;> rfl

theorem State.handleItem_reaches (s : State) (n : Lane) (it : Item) : Reaches s (s.handleItem n it) := by
  have counted (gap : Bool) : Reaches s ((s.itemBurst n).modifyLane n (fun i => i.countItem it.sequence gap)) :=
    .of_books (by rw [State.modifyLane_books (Intake.countItem_batch _ _ _), State.itemBurst_books])
  unfold State.handleItem
  dsimp only
  split
  · exact .of_books (by simp)
  · split
    · exact (counted _).frame rfl
    · exact (counted _).trans (State.placeEntry_reaches _ n _)

theorem State.itemByState_reaches (s : State) (n : Lane) (it : Item) : Reaches s (s.itemByState n it) := by
  have hrefuse : Reaches s (s.refuseAtOnce n it.sequence .notCounting) := .of_books rfl
  unfold State.itemByState
  split
  · exact .refl s
  · unfold State.senseItem
    split
    · exact (Reaches.of_books (State.modifyLane_books (by simp [Intake.enterSensed]))).trans (State.handleItem_reaches _ n it)
    · exact .of_books (by simp)
  · exact hrefuse
  · exact hrefuse
  · exact hrefuse
  · exact s.handleItem_reaches n it
  · exact s.handleItem_reaches n it
  · split
    · unfold State.checkSensed
      split
      · exact (Reaches.of_books (State.modifyLane_books rfl)).trans (State.handleItem_reaches _ n it)
      · exact (s.closeBatch_reaches n .refused).frame (by simp)
    · exact s.handleItem_reaches n it

theorem State.takeItem_reaches (s : State) (n : Lane) (it : Item) : Reaches s (s.takeItem n it) := by
  unfold State.takeItem
  split
  · split
    · exact (s.itemByState_reaches n it).frame (by simp)
    · exact .of_books rfl
  · exact .refl s

theorem State.handleBind_reaches (s : State) (n : Lane) (number : Nat) (hr : s.running = true) : Reaches s (s.handleBind n number) := by
  unfold State.handleBind
  split
  · split
    · split
      · exact .of_books rfl
      · split <;> exact .of_books rfl
    · rename_i hb
      unfold State.bindTicket
      split
      · exact .of_books rfl
      · rename_i i t ht
        split
        · exact .of_books rfl
        · rename_i hs
          split
          · exact .of_books rfl
          · rename_i hc
            rw [State.modifyTicket_eq_put (State.lookupTicket_eq_some.mp ht).1]
            exact (Reaches.of_move (.bound s.clock.minute hr hb ht (by simpa using hs) (by omega))).frame rfl
  · exact .of_books rfl

theorem State.handleUnbind_reaches (s : State) (n : Lane) : Reaches s (s.handleUnbind n) := by
  unfold State.handleUnbind
  split
  · split
    · exact .of_books rfl
    · split
      · exact (Reaches.of_books (State.replyCode_books s (.lane n) .ok)).trans (State.closeBatch_reaches _ n .unbind)
      · exact .of_books rfl
  · exact .of_books rfl

theorem State.recogniseGate_books (s : State) (n : Lane) : (s.recogniseGate n).books = s.books := by
  have hedge (u : State) : (u.countEdge n).books = u.books := by
    unfold State.countEdge
    split
    · rename_i b hb
      exact State.modifyLane_books (by simp [(Intake.activeBatch_eq_some hb).1])
    · simp
  unfold State.recogniseGate
  split
  · rfl
  · dsimp only
    split
    · rw [hedge]; simp
    · simp

/-! ## The register -/

theorem Register.pends_keep {r : Register} {test : KegEntry → Bool} {number : Nat} (h : (r.keep test).pends number) : r.pends number := by
  obtain ⟨e, he, hs⟩ := h
  exact ⟨e, (List.mem_filter.mp he).1, hs⟩

theorem Register.pends_update {r : Register} {f : KegEntry → KegEntry} {number : Nat}
    (hf : ∀ e, (f e).state = .pending number → e.state = .pending number) (h : (r.update f).pends number) : r.pends number := by
  obtain ⟨e, he, hs⟩ := h
  obtain ⟨a, ha, rfl⟩ := List.mem_map.mp he
  exact ⟨a, ha, hf a hs⟩

/-- An insert adds the PENDING entry and no other. -/
theorem Register.pends_insert {r r1 : Register} {minute number : Nat} {k : KegEntry} (hi : r.insert minute k = some r1)
    (h : r1.pends number) : r.pends number ∨ k.state = .pending number := by
  obtain ⟨e, he, hs⟩ := h
  unfold Register.insert at hi
  split at hi
  · cases hi
    rcases mem_insertSorted.mp he with rfl | he
    · exact .inr hs
    · exact .inl ⟨e, he, hs⟩
  · split at hi
    · cases hi
      rcases mem_insertSorted.mp he with rfl | he
      · exact .inr hs
      · exact .inl ⟨e, (List.mem_filter.mp he).1, hs⟩
    · cases hi

theorem Register.pends_issueOne {r : Register} {minute lockout serial number : Nat}
    (h : (r.issueOne minute lockout serial).1.pends number) : r.pends number := by
  unfold Register.issueOne at h
  split at h
  · exact h
  · split at h
    · exact h
    · split at h
      · exact Register.pends_keep h
      · refine Register.pends_update (fun e => ?_) h
        dsimp only
        split
        · intro hs; cases hs
        · exact id
    · split at h
      · exact Register.pends_keep h
      · exact h

theorem Register.pends_issueAll {minute lockout number : Nat} : ∀ {serials : List Nat} {r : Register},
    (r.issueAll minute lockout serials).1.pends number → r.pends number
  | [], _, h => h
  | n :: ns, r, h => by
    unfold Register.issueAll at h
    exact Register.pends_issueOne (Register.pends_issueAll h)

/-- A RELEASE adds at most PENDING entries of its hold's ticket. -/
theorem Register.pends_release {r r1 : Register} {minute number : Nat} {hold : Hold} {v : Verdict} {am : Option Grade}
    (hr : releaseRegister r minute hold v am = .ok r1) (h : r1.pends number) : r.pends number ∨ number = hold.ticket := by
  have entered {r2 : Register} {k : KegEntry} (hk : k.state = .pending hold.ticket)
      (h2 : r2 = r.updateSerial hold.serial (fun _ => k)) (hp : r2.pends number) : r.pends number ∨ number = hold.ticket := by
    by_cases hn : number = hold.ticket
    · exact .inr hn
    · subst h2
      refine .inl (Register.pends_update (fun e => ?_) hp)
      split
      · rw [hk]; intro hs; cases hs; exact absurd rfl hn
      · exact id
  unfold releaseRegister at hr
  split at hr
  · unfold releaseAcceptRegister at hr
    dsimp only at hr
    split at hr
    · split at hr
      · rename_i hi
        cases hr
        rcases Register.pends_insert hi h with hp | hp
        · exact .inl hp
        · cases hp; exact .inr rfl
      · cases hr
    · split at hr
      · split at hr
        · cases hr; exact .inl h
        · cases hr
      · cases hr; exact entered rfl rfl h
      · cases hr; exact entered rfl rfl h
  · split at hr
    · cases hr; exact .inl (Register.pends_keep h)
    · cases hr; exact .inl h

/-- A change of the register that adds no PENDING entry. -/
theorem State.setRegister_reaches (s : State) {r : Register} (h : ∀ number, r.pends number → s.register.pends number) :
    Reaches s { s with register := r } :=
  .of_move (.register r (fun number hp => .inl (h number hp)))

theorem Register.pends_sweep {r : Register} {minute lockout retention number : Nat} (h : (r.sweep minute lockout retention).pends number) :
    r.pends number :=
  Register.pends_keep h

/-! ## Verdicts -/

theorem State.judgeHold_reaches (s : State) (c : Case) (cause : Cause) (also : List Cause) {t : Ticket}
    (h : s.holdsTicket c.number c.slot t) (hc : t.counting = true) : Reaches s (s.judgeHold c cause also).1 := by
  unfold State.judgeHold
  split
  · exact .refl s
  · rename_i j hj
    have hfree := (State.freeHoldSlot_eq_some.mp hj).1
    dsimp only
    split
    · split
      · rename_i r hr
        have inserted : Reaches s { s with register := r } := by
          refine .of_move (.register r (fun number hp => ?_))
          rcases Register.pends_insert hr hp with hp | hp
          · exact .inl hp
          · cases hp
            obtain ⟨h1, h2⟩ := State.lookupTicket_eq_some.mp h
            exact .inr (.inl ⟨_, _, h1, hc, h2⟩)
        exact inserted.trans (.of_move (.held cause also true hfree h hc))
      · exact .of_move (.held cause _ false hfree h hc)
    · exact .of_move (.held cause also false hfree h hc)

theorem State.countCase_reaches (s : State) (c : Case) : Reaches s (s.countCase c) :=
  s.modifyTicket_reaches c.slot (fun t _ => t.addCount_step _ _ _ _)

theorem State.judgeCauses_reaches (s : State) (c : Case) (also : List Cause) {t : Ticket}
    (h : s.holdsTicket c.number c.slot t) (hc : t.counting = true) : Reaches s (s.judgeCauses c also).1 := by
  unfold State.judgeCauses
  split
  · unfold State.judgeAccept
    split
    · split
      · rename_i r hr
        have inserted : Reaches s { s with register := r } := by
          refine .of_move (.register r (fun number hp => ?_))
          rcases Register.pends_insert hr hp with hp | hp
          · exact .inl hp
          · cases hp
            obtain ⟨h1, h2⟩ := State.lookupTicket_eq_some.mp h
            exact .inr (.inl ⟨_, _, h1, hc, h2⟩)
        exact inserted.trans (State.countCase_reaches _ c)
      · exact s.judgeHold_reaches c _ _ h hc
    · exact s.countCase_reaches c
  · split
    · exact s.judgeHold_reaches c _ _ h hc
    · exact .refl s

theorem State.applyWatch_reaches (s : State) (i : Fin 24) (w : Watched) (f : Fired) : Reaches s (s.applyWatch i w f) := by
  have watched : Reaches s { s with watch := consulted s.watch w } := .of_books rfl
  have noted := watched.trans (State.modifyTicket_reaches _ i
    (f := fun t => { t with flags := { t.flags with note := t.flags.note || f.note } }) (fun t _ => .edit rfl))
  unfold State.applyWatch
  dsimp only
  split
  · exact noted.frame rfl
  · exact noted

/-- The firing effects leave the ticket in its slot, in the state it was in. -/
theorem State.applyWatch_holdsTicket {s : State} {number : Nat} {i : Fin 24} {t : Ticket} (h : s.holdsTicket number i t) (w : Watched)
    (f : Fired) : (s.applyWatch i w f).holdsTicket number i { t with flags := { t.flags with note := t.flags.note || f.note } } := by
  obtain ⟨h1, h2⟩ := State.lookupTicket_eq_some.mp h
  have hput : (({ s with watch := consulted s.watch w } : State).modifyTicket i
      (fun t => { t with flags := { t.flags with note := t.flags.note || f.note } })).holdsTicket number i
        { t with flags := { t.flags with note := t.flags.note || f.note } } := by
    refine State.lookupTicket_eq_some.mpr ⟨?_, ?_⟩
    · rw [State.modifyTicket_ticketAt_same]; exact congrArg _ h1
    · rw [State.modifyTicket_ticketNumber]; exact h2
  unfold State.applyWatch
  dsimp only
  split
  · exact hput
  · exact hput

theorem State.judgeEntry_reaches (s : State) (n : Lane) (e : Entry) : Reaches s (s.judgeEntry n e).1 := by
  unfold State.judgeEntry
  dsimp only
  split
  · exact .refl s
  · rename_i i t hlive
    split
    · exact .refl s
    · have hlive : s.holdsTicket (s.ticketNumber i) i t ∧ t.counting = true := by
        unfold State.liveTicket at hlive
        split at hlive
        · cases hlive
        · split at hlive
          · cases hlive
          · rename_i hl
            split at hlive
            · rename_i hc
              cases hlive
              obtain ⟨h1, h2⟩ := State.lookupTicket_eq_some.mp hl
              exact ⟨State.lookupTicket_eq_some.mpr ⟨h1, rfl⟩, hc⟩
            · cases hlive
      obtain ⟨ht, hc⟩ := hlive
      unfold State.judgeLive
      dsimp only
      refine (s.applyWatch_reaches i _ _).trans (State.judgeCauses_reaches _ _ _ (State.applyWatch_holdsTicket ht _ _) hc)

theorem State.completeHead_reaches (s : State) (n : Lane) (e : Entry) : Reaches s (s.completeHead n e) := by
  unfold State.completeHead
  exact ((s.judgeEntry_reaches n e).frame (State.sendVerdict_books _ n e _)).trans (State.removeHead_reaches _ n e)

theorem State.takeInHand_reaches (s : State) (n : Lane) : Reaches s (s.takeInHand n) := by
  unfold State.takeInHand
  split
  · exact .refl s
  · split
    · exact .refl s
    · split
      · exact .refl s
      · split
        · exact .of_books (by simp)
        · exact s.completeHead_reaches n _

/-! ## Holds -/

/-- The resolving of a hold before the pricing test. -/
theorem State.resolveHold_reaches (s : State) (j : Fin 64) (h : Hold) (expired : Bool) (hj : (s.holds.get j).hold = some h) :
    Reaches s (s.resolveHold j h expired) := by
  unfold State.resolveHold
  dsimp only
  split
  · rename_i hk
    exact .of_move (.orphaned hj (State.findTicket_eq_none.mp hk))
  · rename_i k hk
    obtain ⟨hsome, hn⟩ := State.findTicket_eq_some.mp hk
    obtain ⟨t, ht⟩ := Option.isSome_iff_exists.mp hsome
    rw [State.modifyTicket_eq_put ht]
    exact (Reaches.of_move (.resolved _ hj (State.lookupTicket_eq_some.mpr ⟨ht, hn⟩))).trans (State.priceTest_reaches _ k)

theorem State.expireAtTest_reaches (s : State) (j : Fin 64) : Reaches s (s.expireAtTest j) := by
  unfold State.expireAtTest
  split
  · exact .refl s
  · rename_i hj
    split
    · exact s.resolveHold_reaches j _ true hj
    · exact .refl s

/-- A fold of steps that move the books moves the books. -/
theorem Reaches.foldl {α : Type} {f : State → α → State} (h : ∀ s a, Reaches s (f s a)) :
    ∀ (as : List α) (s : State), Reaches s (as.foldl f s)
  | [], s => .refl s
  | a :: as, s => (h s a).trans (Reaches.foldl h as (f s a))

theorem State.carryRelease_reaches (s : State) (j : Fin 64) (h : Hold) (v : Verdict) (am : Option Grade)
    (hj : (s.holds.get j).hold = some h) : Reaches s (s.carryRelease j h v am).1 := by
  unfold State.carryRelease
  split
  · exact .refl s
  · rename_i r hr
    have entered : Reaches s { s with register := r } := by
      refine .of_move (.register r (fun number hp => ?_))
      rcases Register.pends_release hr hp with hp | rfl
      · exact .inl hp
      · exact .inr (.inr ⟨j, h, hj, rfl⟩)
    dsimp only
    split
    · rename_i k _
      exact (entered.trans (State.modifyTicket_reaches _ k (fun t _ => t.addCount_step _ _ _ _))).trans
        (State.resolveHold_reaches _ j h false hj)
    · exact entered.trans (State.resolveHold_reaches _ j h false hj)

theorem State.handleRelease_reaches (s : State) (number verdict amended : Nat) : Reaches s (s.handleRelease number verdict amended) := by
  unfold State.handleRelease
  split
  · split
    · exact .of_books rfl
    · rename_i j h hj
      split
      · exact .of_books (by simp)
      · exact (s.carryRelease_reaches j h _ _ (State.lookupHold_eq_some.mp hj).1).frame rfl
  · exact .of_books rfl

/-! ## Tickets and the till -/

theorem State.handleOpen_reaches (s : State) (l : Link) (account : Nat) (cash : Bool) : Reaches s (s.handleOpen l account cash) := by
  unfold State.handleOpen
  split
  · exact .of_books rfl
  · split
    · exact .of_books rfl
    · rename_i i hi
      exact (Reaches.of_move (.opened account cash (State.freeTicketSlot_eq_some.mp hi).1)).frame rfl

theorem State.answerQuote_books (s : State) (i : Fin 24) : (s.answerQuote i).books = s.books := by
  unfold State.answerQuote; split <;> rfl

theorem State.handleQuote_reaches (s : State) (number : Nat) : Reaches s (s.handleQuote number) := by
  unfold State.handleQuote
  split
  · exact .of_books rfl
  · split
    · exact (s.closeTicket_reaches _).frame (State.answerQuote_books _ _)
    · exact .of_books (State.answerQuote_books _ _)

theorem State.handleClose_reaches (s : State) (number : Nat) : Reaches s (s.handleClose number) := by
  unfold State.handleClose
  split
  · exact .of_books rfl
  · split
    · exact (s.closeTicket_reaches _).frame rfl
    · split <;> exact .of_books rfl

theorem State.handleAdjust_reaches (s : State) (number cls grade ownership : Nat) (delta : Int) :
    Reaches s (s.handleAdjust number cls grade ownership delta) := by
  unfold State.handleAdjust
  split
  · split
    · unfold State.adjustTicket
      split
      · exact .of_books rfl
      · split
        · exact (s.modifyTicket_reaches _ (fun t _ => t.adjust_step _ _ _ _)).frame rfl
        · exact .of_books rfl
    · exact .of_books rfl
  · exact .of_books rfl

theorem State.handleConfirmCount_reaches (s : State) (number : Nat) : Reaches s (s.handleConfirmCount number) := by
  unfold State.handleConfirmCount
  split
  · exact .of_books rfl
  · rename_i i _ _
    split
    · exact ((s.modifyTicket_reaches i (f := Ticket.clearRecount) (fun t _ => .edit rfl)).trans (State.priceTest_reaches _ _)).frame rfl
    · exact .of_books rfl

theorem State.carryVoid_reaches (s : State) (number : Nat) : Reaches s (s.carryVoid number).1 := by
  unfold State.carryVoid
  split
  · exact .refl s
  · rename_i i t ht
    split
    · rename_i hs
      rw [State.voidTicket_eq (State.lookupTicket_eq_some.mp ht).1]
      exact (Reaches.of_move (.voided ht (by simpa using hs))).trans (State.closeBatches_reaches _ _ _)
    · exact .refl s

theorem State.carrySettle_reaches (s : State) (w : Settler) : Reaches s (s.carrySettle w).1 := by
  unfold State.carrySettle
  split
  · exact .refl s
  · rename_i ht
    split
    · exact .refl s
    · rename_i hg
      exact .of_move (.settled ht hg)

theorem State.handleCollect_reaches (s : State) (number : Nat) : Reaches s (s.handleCollect number) := by
  unfold State.handleCollect
  split
  · exact .of_books rfl
  · rename_i ht
    split
    · rename_i hs
      exact (Reaches.of_move (.collected (State.lookupTicket_eq_some.mp ht).1 hs)).frame rfl
    · exact .of_books rfl

theorem reservationOf_le (available step cash : Nat) : reservationOf available step cash ≤ cash := Nat.min_le_left _ _

/-- A reservation is in whole steps when the cash quote is. -/
theorem reservationOf_mod {available step cash : Nat} (h : cash % step = 0) : reservationOf available step cash % step = 0 := by
  unfold reservationOf
  rcases min_choice cash (available / step * step) with e | e
  · rw [e, h]
  · rw [e, Nat.mul_mod_left]

theorem State.handlePay_reaches (s : State) (number : Nat) : Reaches s (s.handlePay number) := by
  unfold State.handlePay
  split
  · exact .of_books rfl
  · rename_i i t ht
    split
    · rename_i p hs hp
      split
      · exact .of_books rfl
      · unfold State.payPriced
        split
        · exact .of_books (by simp)
        · dsimp only
          split
          · exact .of_books rfl
          · refine (s.modifyTicket_reaches i (f := Ticket.toPaying _) (fun u hu => ?_)).frame rfl
            rw [(State.lookupTicket_eq_some.mp ht).1] at hu
            cases hu
            exact .pay hs hp (reservationOf_le _ _ _) reservationOf_mod
    · exact .of_books rfl

theorem State.handleDispensed_reaches (s : State) (number d : Nat) : Reaches s (s.handleDispensed number d) := by
  unfold State.handleDispensed
  split
  · exact .of_books rfl
  · split
    · exact .of_books rfl
    · rename_i i t _
      split
      · split
        · exact .of_books rfl
        · unfold State.takeReport
          split
          · exact (s.modifyTicket_reaches i (f := Ticket.report d) (fun t _ => .payout (fun _ => rfl))).frame rfl
          · exact .of_books rfl
      · split
        · exact (s.modifyTicket_reaches i (f := Ticket.claim d) (fun t _ => .payout (fun _ => rfl))).frame rfl
        · exact .of_books rfl

theorem State.handleResolve_books (s : State) (key : Bool) (number amount : Nat) : (s.handleResolve key number amount).books = s.books := by
  unfold State.handleResolve
  (repeat' split) <;> simp

theorem State.handleTillLoad_books (s : State) (key : Bool) (amount : Nat) : (s.handleTillLoad key amount).books = s.books := by
  unfold State.handleTillLoad
  (repeat' split) <;> rfl

theorem State.handleTillCount_books (s : State) (key : Bool) (balance : Nat) : (s.handleTillCount key balance).books = s.books := by
  unfold State.handleTillCount
  (repeat' split) <;> rfl

/-! ## Boundaries -/

theorem State.deadlineTest_reaches (s : State) (i : Fin 24) : Reaches s (s.deadlineTest i) := by
  unfold State.deadlineTest
  split
  · exact .refl s
  · split
    · exact ((s.modifyTicket_reaches i (f := Ticket.forceClose) (fun t _ => .edit rfl)).trans (State.closeBatches_reaches _ _ _)).trans
        (State.closeTicket_reaches _ i)
    · exact .refl s

theorem State.handBoundary_reaches (s : State) : Reaches s s.handBoundary := by
  have tested : Reaches s s.deadlineTests.expireHolds :=
    (Reaches.foldl State.deadlineTest_reaches _ s).trans (Reaches.foldl State.expireAtTest_reaches _ _)
  exact tested.frame (by simp [State.handBoundary])

theorem State.minuteBoundary_reaches (s : State) : Reaches s s.minuteBoundary := by
  have stepped : Reaches s { s with clock := s.clock.minuteStep } := .of_books rfl
  unfold State.minuteBoundary
  dsimp only
  split
  · exact stepped.trans (State.handBoundary_reaches _)
  · exact .of_books rfl
  · exact stepped
  · exact stepped

/-! ## Starts -/

theorem State.startAtPowerOn_reaches (s : State) : Reaches s s.startAtPowerOn := by
  have loaded : Reaches s s.cutShort.loadSettings := .of_books (by simp [State.cutShort])
  unfold State.startAtPowerOn
  dsimp only
  split
  · exact (loaded.trans (.of_move (.warm .warm))).frame rfl
  · exact loaded.trans (.of_move (.cold _))

theorem State.startAtReset_reaches (s : State) : Reaches s s.startAtReset := by
  have loaded : Reaches s s.cutSave.loadSettings := .of_books (by simp)
  exact loaded.trans (.of_move (.warm .unit))

theorem State.holdReset_reaches (s : State) (powerOn : Bool) : Reaches s (s.holdReset powerOn) := by
  have cut : Reaches s s.cutShort := .of_books (by simp [State.cutShort])
  exact cut.trans (.of_move (.dropped _ rfl))

theorem State.answerFrameSent_reaches (s : State) (l : Link) : Reaches s (s.answerFrameSent l) := by
  have sent : Reaches s (s.modifyPort l Port.answerSent) := .of_books rfl
  unfold State.answerFrameSent
  split
  · exact .refl s
  · split
    · exact .of_books rfl
    · dsimp only
      split
      · exact sent.trans (State.startAtReset_reaches _)
      · exact sent

/-! ## Commands -/

/-- A command moves the books from a state when it answers only states that a run of moves reaches. -/
def MovesTo (s : State) (o : Outcome) : Prop := ∀ t, o = .next t → Reaches s t

theorem MovesTo.next {s t : State} (h : Reaches s t) : MovesTo s (.next t) := fun _ e => by cases e; exact h

/-- A request whose handling leaves the books as they are. -/
theorem State.takeRequest_still (s : State) (l : Link) (kind tag : Nat) {handle : State → State}
    (h : ∀ u : State, (handle u).books = u.books) : Reaches s (s.takeRequest l kind tag handle) :=
  s.takeRequest_reaches l kind tag (fun u _ => .of_books (h u))

/-- A request with the key level. -/
theorem State.takeKeyed_still (s : State) (key : Bool) (l : Link) (kind tag : Nat) {handle : State → State}
    (h : ∀ u : State, (handle u).books = u.books) : Reaches s ((s.withKey key).takeRequest l kind tag handle) :=
  (Reaches.of_books (s.withKey_books key)).trans (State.takeRequest_still _ l kind tag h)

/-- An operation complete with its answer. -/
theorem Reaches.finished {s t : State} (h : Reaches s t) (l : Link) (kind : Nat) (a : Answer) :
    Reaches s (t.replyOldest l kind a).completeOperation :=
  h.frame (by simp)

theorem Reaches.completed {s t : State} (h : Reaches s t) : Reaches s t.completeOperation := h.frame (by simp)

theorem execOpenTicket_moves (tag account : Nat) (cash : Option Nat) (s : State) : MovesTo s (execOpenTicket tag account cash s) := by
  unfold execOpenTicket
  refine .next ?_
  split
  · exact s.takeRequest_reaches _ _ _ (fun u _ => u.handleOpen_reaches _ _ _)
  · refine s.takeRequest_reaches _ _ _ (fun u _ => ?_)
    split
    · exact u.handleOpen_reaches _ _ _
    · exact .of_books rfl

theorem execVoid_moves (tag number : Nat) (s : State) : MovesTo s (execVoid tag number s) := by
  unfold execVoid
  refine .next (s.takeRequest_still _ _ _ (fun u => ?_))
  split <;> simp

theorem execVoidWalk_moves (s : State) : MovesTo s (execVoidWalk s) := by
  unfold execVoidWalk
  refine .next ?_
  split
  · exact (s.carryVoid_reaches _).finished _ _ _
  · exact .refl s

theorem execSettleToAccount_moves (tag number : Nat) (s : State) : MovesTo s (execSettleToAccount tag number s) := by
  unfold execSettleToAccount
  refine .next (s.takeRequest_still _ _ _ (fun u => ?_))
  split <;> simp

theorem execSettleWalk_moves (s : State) : MovesTo s (execSettleWalk s) := by
  unfold execSettleWalk
  refine .next ?_
  split
  · exact (s.carrySettle_reaches _).finished _ _ _
  · exact .refl s

theorem execTicketRead_moves (tag number : Nat) (s : State) : MovesTo s (execTicketRead tag number s) := by
  unfold execTicketRead
  refine .next (s.takeRequest_still _ _ _ (fun u => ?_))
  split <;> rfl

theorem execPayTimeout_moves (s : State) : MovesTo s (execPayTimeout s) := by
  have stopped : Reaches s { s with payTimer := none } := .of_books rfl
  unfold execPayTimeout
  refine .next ?_
  split
  · exact .refl s
  · dsimp only
    split
    · exact stopped.trans (State.modifyTicket_reaches _ _ (fun t _ => t.toDoubt_step))
    · exact stopped

theorem execReleaseOperation_moves (s : State) : MovesTo s (execReleaseOperation s) := by
  unfold execReleaseOperation
  refine .next ?_
  split
  · split
    · exact .of_books (by simp)
    · rename_i hj
      exact (s.carryRelease_reaches _ _ _ _ (State.lookupHold_eq_some.mp hj).1).finished _ _ _
  · exact .refl s

theorem execHoldRead_moves (tag selector number : Nat) (s : State) : MovesTo s (execHoldRead tag selector number s) := by
  unfold execHoldRead
  refine .next (s.takeRequest_still _ _ _ (fun u => ?_))
  split
  · split <;> rfl
  · split <;> rfl
  · rfl

theorem execHoldExpiryOperation_moves (s : State) : MovesTo s (execHoldExpiryOperation s) := by
  unfold execHoldExpiryOperation
  refine .next ?_
  split
  · split
    · exact .of_books (by simp)
    · rename_i h hj
      have dropped : Reaches s { s with register := s.register.dropPending h.serial h.ticket } :=
        s.setRegister_reaches (fun _ => Register.pends_keep)
      exact (dropped.trans (State.resolveHold_reaches _ _ h true (State.lookupHold_eq_some.mp hj).1)).completed
  · exact .refl s

/-! ### The tariff and the watch table -/

theorem execBankWrite_moves (tag cls : Nat) (e : RawClassEntry) (s : State) : MovesTo s (execBankWrite tag cls e s) := by
  unfold execBankWrite
  refine .next (s.takeRequest_still _ _ _ (fun u => ?_))
  unfold State.handleBankWrite
  split
  · dsimp only
    split
    · rfl
    · cases u.tariff.standby <;> rfl
  · rfl

theorem execFeeWrite_moves (tag fee : Nat) (s : State) : MovesTo s (execFeeWrite tag fee s) := by
  unfold execFeeWrite
  refine .next (s.takeRequest_still _ _ _ (fun u => ?_))
  unfold State.handleFeeWrite
  dsimp only
  split
  · rfl
  · cases u.tariff.standby <;> rfl

theorem execBankRead_moves (tag bank cls : Nat) (s : State) : MovesTo s (execBankRead tag bank cls s) := by
  unfold execBankRead
  refine .next (s.takeRequest_still _ _ _ (fun u => ?_))
  split <;> rfl

theorem execChangeoverArm_moves (tag time : Nat) (s : State) : MovesTo s (execChangeoverArm tag time s) := by
  unfold execChangeoverArm
  refine .next (s.takeRequest_still _ _ _ (fun u => ?_))
  split
  · rfl
  · exact State.reachedTest_books { u with tariff := { u.tariff with armed := some time } }

theorem execWatchWrite_moves (key : Bool) (tag entry : Nat) (rule : RawRule) (s : State) :
    MovesTo s (execWatchWrite key tag entry rule s) := by
  unfold execWatchWrite
  refine .next (s.takeKeyed_still _ _ _ _ (fun u => ?_))
  unfold State.handleWatchWrite
  (repeat' split) <;> rfl

theorem execWatchRead_moves (tag entry : Nat) (s : State) : MovesTo s (execWatchRead tag entry s) := by
  unfold execWatchRead
  refine .next (s.takeRequest_still _ _ _ (fun u => ?_))
  split <;> rfl

theorem execCaptureRead_moves (key : Bool) (tag entry : Nat) (s : State) : MovesTo s (execCaptureRead key tag entry s) := by
  unfold execCaptureRead
  refine .next (s.takeKeyed_still _ _ _ _ (fun u => ?_))
  unfold State.handleCaptureRead
  split
  · dsimp only
    split <;> rfl
  · rfl

/-! ### The register -/

theorem execIssue_moves (tag : Nat) (serials : List Nat) (s : State) : MovesTo s (execIssue tag serials s) := by
  unfold execIssue
  refine .next (s.takeRequest_still _ _ _ (fun u => ?_))
  split <;> simp

theorem execIssueOperation_moves (s : State) : MovesTo s (execIssueOperation s) := by
  unfold execIssueOperation
  refine .next ?_
  split
  · exact (s.setRegister_reaches (fun _ => Register.pends_issueAll)).finished _ _ _
  · exact .refl s

theorem execRegisterQuery_moves (tag serial : Nat) (s : State) : MovesTo s (execRegisterQuery tag serial s) := by
  unfold execRegisterQuery
  refine .next (s.takeRequest_still _ _ _ (fun u => ?_))
  split <;> simp

theorem execRegisterQueryOperation_moves (s : State) : MovesTo s (execRegisterQueryOperation s) := by
  unfold execRegisterQueryOperation
  refine .next ?_
  split
  · exact .of_books (by simp)
  · exact .refl s

theorem execClearGuard_moves (key : Bool) (tag : Nat) (s : State) : MovesTo s (execClearGuard key tag s) := by
  unfold execClearGuard
  refine .next (s.takeKeyed_still _ _ _ _ (fun u => ?_))
  split <;> simp

theorem execClearGuardOperation_moves (s : State) : MovesTo s (execClearGuardOperation s) := by
  unfold execClearGuardOperation
  refine .next ?_
  split
  · exact (s.setRegister_reaches (r := { s.register with guardEnd := none }) (fun _ h => h)).finished _ _ _
  · exact .refl s

theorem execSweep_moves (s : State) : MovesTo s (execSweep s) := by
  unfold execSweep
  refine .next ?_
  split
  · exact (s.setRegister_reaches (fun _ => Register.pends_sweep)).completed
  · exact .refl s

/-! ### The clock and the settings -/

theorem execSetClock_moves (tag minute second : Nat) (s : State) : MovesTo s (execSetClock tag minute second s) := by
  unfold execSetClock
  refine .next (s.takeRequest_still _ _ _ (fun u => ?_))
  unfold State.handleSetClock
  split
  · rfl
  · split <;> rfl

theorem execRebase_moves (s : State) : MovesTo s (execRebase s) := by
  unfold execRebase
  refine .next ?_
  split
  · rename_i c _ _
    exact (Reaches.of_move (.rebased c)).frame (by simp)
  · exact .refl s

theorem execClockSecond_moves (s : State) : MovesTo s (execClockSecond s) := by
  unfold execClockSecond
  refine .next ?_
  split
  · exact .of_books rfl
  · exact s.minuteBoundary_reaches

theorem execSettingsWrite_moves (tag identifier index value : Nat) (s : State) :
    MovesTo s (execSettingsWrite tag identifier index value s) := by
  unfold execSettingsWrite
  refine .next (s.takeRequest_still _ _ _ (fun u => ?_))
  unfold State.handleSettingsWrite
  split
  · rfl
  · rename_i st _ _
    unfold State.afterWrite
    split
    · exact State.raiseSweep_books { u with settings := st }
    · rfl

theorem execSaveSettings_moves (tag : Nat) (s : State) : MovesTo s (execSaveSettings tag s) := by
  unfold execSaveSettings
  refine .next (s.takeRequest_still _ _ _ (fun u => ?_))
  split <;> rfl

theorem execSaveComplete_moves (same : Bool) (s : State) : MovesTo s (execSaveComplete same s) := by
  unfold execSaveComplete
  refine .next ?_
  split
  · exact .refl s
  · split <;> exact .of_books rfl

/-! ### Links and lanes -/

theorem State.rejectFrame_reaches (s : State) (l : Link) (kind tag : Nat) : Reaches s (s.rejectFrame l kind tag) :=
  s.takeRequest_still l kind tag (fun _ => rfl)

theorem execReject_moves (l : Link) (kind tag : Nat) (s : State) : MovesTo s (execReject l kind tag s) := by
  unfold execReject
  refine .next ?_
  split
  · exact .refl s
  · exact s.rejectFrame_reaches l kind tag

theorem execKeepalive_moves (l : Link) (tag : Nat) (s : State) : MovesTo s (execKeepalive l tag s) := by
  unfold execKeepalive
  refine .next ?_
  split
  · exact s.rejectFrame_reaches .f _ tag
  · exact s.takeRequest_still l _ tag (fun _ => rfl)

theorem execFrameOverflow_moves (l : Link) (s : State) : MovesTo s (execFrameOverflow l s) := by
  unfold execFrameOverflow
  refine .next ?_
  split
  · exact .of_books rfl
  · exact .refl s

theorem execLinkSilenceExpiry_moves (l : Link) (s : State) : MovesTo s (execLinkSilenceExpiry l s) := by
  unfold execLinkSilenceExpiry
  refine .next ?_
  split
  · exact .refl s
  · exact .of_books rfl
  · exact .of_books rfl

theorem State.discardLength_books (s : State) (l : Link) (len : Byte) : (s.discardLength l len).books = s.books := by
  unfold State.discardLength; split <;> simp

theorem execFrameDiscard_moves (l : Link) (why : BadFrame) (s : State) : MovesTo s (execFrameDiscard l why s) := by
  unfold execFrameDiscard
  refine .next ?_
  split
  · exact .refl s
  · split
    · split
      · exact .refl s
      · exact .of_books (s.discardLength_books l _)
    · exact .of_books (by simp)

theorem execGapTimerExpiry_moves (l : Link) (s : State) : MovesTo s (execGapTimerExpiry l s) := by
  unfold execGapTimerExpiry
  refine .next ?_
  split
  · exact .of_books (by simp)
  · exact .refl s

theorem execFrameSent_moves (l : Link) (s : State) : MovesTo s (execFrameSent l s) := by
  unfold execFrameSent
  refine .next ?_
  split
  · exact .refl s
  · exact s.answerFrameSent_reaches l
  · exact .of_books rfl

theorem execRestartLane_moves (tag lane : Nat) (s : State) : MovesTo s (execRestartLane tag lane s) := by
  unfold execRestartLane
  refine .next (s.takeRequest_reaches _ _ _ (fun u _ => ?_))
  split
  · exact .of_books rfl
  · rename_i n _
    have answered : Reaches u (u.replyCode .f .ok) := .of_books rfl
    exact (answered.trans (State.enterDown_reaches _ n)).frame (State.modifyLane_books rfl)

theorem execTakeInHand_moves (n : Lane) (s : State) : MovesTo s (execTakeInHand n s) := by
  unfold execTakeInHand
  refine .next ?_
  split
  · exact s.takeInHand_reaches n
  · exact .refl s

theorem execVerdictOperation_moves (s : State) : MovesTo s (execVerdictOperation s) := by
  unfold execVerdictOperation
  refine .next ?_
  split
  · split
    · exact .of_books (by simp)
    · exact (s.completeHead_reaches _ _).completed
  · exact .refl s

theorem execLaneSilenceExpiry_moves (n : Lane) (s : State) : MovesTo s (execLaneSilenceExpiry n s) := by
  unfold execLaneSilenceExpiry
  refine .next ?_
  split
  · exact s.enterDown_reaches n
  · exact .refl s

theorem execBreakIntervalEnd_moves (n : Lane) (s : State) : MovesTo s (execBreakIntervalEnd n s) := by
  unfold execBreakIntervalEnd
  refine .next ?_
  split
  · exact .of_books (by simp [State.endBreak])
  · exact .refl s

theorem execMuteRelease_moves (n : Lane) (s : State) : MovesTo s (execMuteRelease n s) := by
  unfold execMuteRelease
  refine .next (.of_books (State.modifyLane_books ?_))
  split <;> rfl

theorem execBurstWindowRestart_moves (s : State) : MovesTo s (execBurstWindowRestart s) := by
  unfold execBurstWindowRestart
  refine .next ?_
  split <;> exact .of_books rfl

theorem execGateInputChange_moves (n : Lane) (broken : Bool) (s : State) : MovesTo s (execGateInputChange n broken s) := by
  unfold execGateInputChange
  refine .next (.of_books (State.modifyLane_books ?_))
  unfold Intake.gateChange
  split
  · rfl
  · dsimp only
    split
    · split <;> rfl
    · rfl

theorem execGateEdge_moves (n : Lane) (s : State) : MovesTo s (execGateEdge n s) := by
  unfold execGateEdge
  refine .next ?_
  split
  · exact .refl s
  · exact .of_books (s.recogniseGate_books n)

/-! ### Supply and start -/

theorem State.openLinks_books {s : State} (h : s.phase.intakesStand = true) : s.openLinks.books = s.books := by
  unfold State.books
  rw [h]
  rfl

theorem execEndOfStartUp_moves (s : State) : MovesTo s (execEndOfStartUp s) := by
  unfold execEndOfStartUp
  refine .next ?_
  split
  · rename_i kind hp
    refine s.handBoundary_reaches.frame (State.openLinks_books ?_)
    simp [State.handBoundary, hp, Phase.intakesStand]
  · exact .refl s

theorem execResetInput_moves (s : State) : MovesTo s (execResetInput s) := by
  unfold execResetInput
  refine .next ?_
  split
  · exact .refl s
  · exact .refl s
  · exact s.holdReset_reaches _
  · exact s.holdReset_reaches _

theorem execResetInputRelease_moves (s : State) : MovesTo s (execResetInputRelease s) := by
  unfold execResetInputRelease
  refine .next ?_
  split
  · exact s.startAtPowerOn_reaches
  · exact s.startAtReset_reaches
  · exact .refl s

theorem execSupplyLoss_moves (s : State) : MovesTo s (execSupplyLoss s) := by
  unfold execSupplyLoss
  refine .next ?_
  split
  · exact .refl s
  · exact (Reaches.of_books (by simp [State.cutShort])).trans (.of_move (.dropped (s := s.cutShort) .off rfl))

theorem execBatteryFall_moves (s : State) : MovesTo s (execBatteryFall s) := by
  unfold execBatteryFall
  refine .next ?_
  split <;> exact .of_books rfl

theorem execBatteryLevelChange_moves (low : Bool) (s : State) : MovesTo s (execBatteryLevelChange low s) := by
  unfold execBatteryLevelChange
  refine .next ?_
  split <;> exact .of_books rfl

/-! ### Every command -/

/-- The commands other than BYTE_RECEIVED move the books. -/
theorem exec_moves_of_ne_byte {c : Instr} (hc : ∀ l key byte, c ≠ .byteReceived l key byte) (s : State) : MovesTo s (exec c s) := by
  cases c with
  | offer n tag ability version ack => exact .next (s.takeRequest_still _ _ _ (fun u => u.handleOffer_books n _ ack))
  | item n it => exact .next (s.takeItem_reaches n it)
  | bind n tag ticket => exact .next (s.takeRequest_reaches _ _ _ (fun u hu => u.handleBind_reaches n ticket hu))
  | unbind n tag => exact .next (s.takeRequest_reaches _ _ _ (fun u _ => u.handleUnbind_reaches n))
  | keepalive l tag => exact execKeepalive_moves l tag s
  | openTicket tag account cash => exact execOpenTicket_moves tag account cash s
  | quote tag ticket => exact .next (s.takeRequest_reaches _ _ _ (fun u _ => u.handleQuote_reaches ticket))
  | close tag ticket => exact .next (s.takeRequest_reaches _ _ _ (fun u _ => u.handleClose_reaches ticket))
  | adjust tag ticket cls grade ownership delta =>
    exact .next (s.takeRequest_reaches _ _ _ (fun u _ => u.handleAdjust_reaches ticket cls grade ownership delta))
  | confirmCount tag ticket => exact .next (s.takeRequest_reaches _ _ _ (fun u _ => u.handleConfirmCount_reaches ticket))
  | void tag ticket => exact execVoid_moves tag ticket s
  | voidWalk => exact execVoidWalk_moves s
  | settleToAccount tag ticket => exact execSettleToAccount_moves tag ticket s
  | settleWalk => exact execSettleWalk_moves s
  | collect tag ticket => exact .next (s.takeRequest_reaches _ _ _ (fun u _ => u.handleCollect_reaches ticket))
  | ticketRead tag ticket => exact execTicketRead_moves tag ticket s
  | pay tag ticket => exact .next (s.takeRequest_reaches _ _ _ (fun u _ => u.handlePay_reaches ticket))
  | dispensed tag ticket amount => exact .next (s.takeRequest_reaches _ _ _ (fun u _ => u.handleDispensed_reaches ticket amount))
  | payTimeout => exact execPayTimeout_moves s
  | resolve key tag ticket amount => exact .next (s.takeKeyed_still _ _ _ _ (fun u => u.handleResolve_books key ticket amount))
  | tillLoad key tag amount => exact .next (s.takeKeyed_still _ _ _ _ (fun u => u.handleTillLoad_books key amount))
  | tillCount key tag balance => exact .next (s.takeKeyed_still _ _ _ _ (fun u => u.handleTillCount_books key balance))
  | release tag hold verdict amended =>
    exact .next (s.takeRequest_reaches _ _ _ (fun u _ => u.handleRelease_reaches hold verdict amended))
  | releaseOperation => exact execReleaseOperation_moves s
  | holdRead tag selector number => exact execHoldRead_moves tag selector number s
  | bankWrite tag cls entry => exact execBankWrite_moves tag cls entry s
  | feeWrite tag fee => exact execFeeWrite_moves tag fee s
  | bankRead tag bank cls => exact execBankRead_moves tag bank cls s
  | changeoverArm tag time => exact execChangeoverArm_moves tag time s
  | changeoverDisarm tag => exact .next (s.takeRequest_still _ _ _ (fun _ => rfl))
  | watchWrite key tag entry rule => exact execWatchWrite_moves key tag entry rule s
  | watchRead tag entry => exact execWatchRead_moves tag entry s
  | captureRead key tag entry => exact execCaptureRead_moves key tag entry s
  | issue tag serials => exact execIssue_moves tag serials s
  | issueOperation => exact execIssueOperation_moves s
  | registerQuery tag serial => exact execRegisterQuery_moves tag serial s
  | registerQueryOperation => exact execRegisterQueryOperation_moves s
  | clearGuard key tag => exact execClearGuard_moves key tag s
  | clearGuardOperation => exact execClearGuardOperation_moves s
  | setClock tag minute second => exact execSetClock_moves tag minute second s
  | rebase => exact execRebase_moves s
  | clockRead tag => exact .next (s.takeRequest_still _ _ _ (fun _ => rfl))
  | settingsWrite tag identifier index value => exact execSettingsWrite_moves tag identifier index value s
  | settingsRead tag => exact .next (s.takeRequest_still _ _ _ (fun _ => rfl))
  | saveSettings tag => exact execSaveSettings_moves tag s
  | saveComplete same => exact execSaveComplete_moves same s
  | linkStatus tag => exact .next (s.takeRequest_still _ _ _ (fun _ => rfl))
  | restartLane tag lane => exact execRestartLane_moves tag lane s
  | attentionRead tag => exact .next (s.takeRequest_still _ _ _ (fun _ => rfl))
  | resetUnit tag => exact .next (s.takeRequest_still _ _ _ (fun _ => rfl))
  | reject l kind tag => exact execReject_moves l kind tag s
  | frameOverflow l => exact execFrameOverflow_moves l s
  | frameDiscard l why => exact execFrameDiscard_moves l why s
  | gapTimerExpiry l => exact execGapTimerExpiry_moves l s
  | frameSent l => exact execFrameSent_moves l s
  | takeInHand n => exact execTakeInHand_moves n s
  | verdictOperation => exact execVerdictOperation_moves s
  | laneSilenceExpiry n => exact execLaneSilenceExpiry_moves n s
  | breakIntervalEnd n => exact execBreakIntervalEnd_moves n s
  | muteRelease n => exact execMuteRelease_moves n s
  | burstWindowRestart => exact execBurstWindowRestart_moves s
  | linkSilenceExpiry l => exact execLinkSilenceExpiry_moves l s
  | gateInputChange n broken => exact execGateInputChange_moves n broken s
  | gateEdge n => exact execGateEdge_moves n s
  | minuteBoundary => exact .next s.minuteBoundary_reaches
  | holdExpiryOperation => exact execHoldExpiryOperation_moves s
  | sweep => exact execSweep_moves s
  | powerOnReset => exact .next s.startAtPowerOn_reaches
  | endOfStartUp => exact execEndOfStartUp_moves s
  | resetInput => exact execResetInput_moves s
  | resetInputRelease => exact execResetInputRelease_moves s
  | supplyLoss => exact execSupplyLoss_moves s
  | batteryFall => exact execBatteryFall_moves s
  | byteReceived l key byte => exact absurd rfl (hc l key byte)
  | clockSecond => exact execClockSecond_moves s
  | batteryLevelChange low => exact execBatteryLevelChange_moves low s

/-- A frame assembled from bytes does what its command does, or nothing. -/
theorem runFrame_eq (c : Instr) (s : State) : (runFrame c s = exec c s ∧ ∀ l key byte, c ≠ .byteReceived l key byte) ∨ runFrame c s = .next s := by
  cases c <;> simp [runFrame, exec]

theorem runFrame_moves (c : Instr) (s : State) : MovesTo s (runFrame c s) := by
  rcases runFrame_eq c s with ⟨h, hc⟩ | h
  · rw [h]; exact exec_moves_of_ne_byte hc s
  · rw [h]; exact .next (.refl s)

theorem takeFrame_moves (l : Link) (key : Bool) (kind tag : Nat) (payload : List Byte) (s : State) :
    MovesTo s (takeFrame l key kind tag payload s) := by
  unfold takeFrame
  split
  · exact .next (s.rejectFrame_reaches l kind tag)
  · exact .next (s.rejectFrame_reaches l kind tag)
  · unfold State.takeBadLength State.takeBadItem
    refine .next ?_
    split
    · split
      · split
        · exact .of_books (by simp)
        · exact .of_books rfl
      · exact .refl s
    · exact s.takeRequest_still l kind tag (fun _ => rfl)
  · exact runFrame_moves _ s

theorem execByteReceived_moves (l : Link) (key : Bool) (byte : Byte) (s : State) : MovesTo s (execByteReceived l key byte s) := by
  have keyed : Reaches s (s.withKey key) := .of_books rfl
  unfold execByteReceived
  split
  · exact .next (.refl s)
  · unfold State.receive
    split
    · refine .next (keyed.frame ?_)
      split <;> rfl
    · refine .next (keyed.frame ?_)
      split
      · rfl
      · exact State.discardLength_books _ l byte
    · exact .next (keyed.frame rfl)
    · split
      · exact .next (keyed.frame rfl)
      · unfold State.endFrame
        dsimp only
        split
        · intro t ht
          exact (keyed.frame (State.modifyPort_books _ l Port.toHunt)).trans (takeFrame_moves l key _ _ _ _ t ht)
        · exact .next (keyed.frame (State.discard_books _ l .check))

/-- Every command moves the books by a run of moves. -/
theorem exec_moves (c : Instr) (s : State) : MovesTo s (exec c s) := by
  by_cases hc : ∀ l key byte, c ≠ .byteReceived l key byte
  · exact exec_moves_of_ne_byte hc s
  · push Not at hc
    obtain ⟨l, key, byte, rfl⟩ := hc
    exact execByteReceived_moves l key byte s

/-- A law of the books that every move keeps is kept by every step. -/
theorem kept_of_moves {law : State → Prop} (hlaw : ∀ s t, Move s t → law s → law t) : KeptByEveryStep law := by
  intro s t hs hstep
  unfold step at hstep
  split at hstep
  · cases hstep; exact hs
  · rename_i c rest _
    have taken : Reaches s { s with pending := rest } := .of_books rfl
    exact (taken.trans (exec_moves c _ t hstep)).keeps hlaw hs

end Sys2Proof.Machine

namespace Sys2Proof.Machine

open Sys2Proof

/-! ## The ticket table after a move -/

theorem State.putTicket_ticketAt {s : State} {i j : Fin 24} {u v : Ticket} (h : (s.putTicket i u).ticketAt j = some v) :
    (j = i ∧ v = u ∧ (s.ticketAt j).isSome = true) ∨ (j ≠ i ∧ s.ticketAt j = some v) := by
  unfold State.putTicket at h
  rw [State.modifyTicket_ticketAt] at h
  split at h
  · rename_i e
    subst e
    obtain ⟨w, hw, rfl⟩ := Option.map_eq_some_iff.mp h
    exact .inl ⟨rfl, rfl, by simp [hw]⟩
  · rename_i e
    exact .inr ⟨fun e' => e e'.symm, h⟩

theorem State.putTicket_ticketAt_of_ne {s : State} {i j : Fin 24} (h : j ≠ i) (u : Ticket) : (s.putTicket i u).ticketAt j = s.ticketAt j := by
  unfold State.putTicket
  rw [State.modifyTicket_ticketAt, if_neg (fun e => h e.symm)]

@[simp] theorem State.putTicket_ticketNumber (s : State) (i j : Fin 24) (u : Ticket) : (s.putTicket i u).ticketNumber j = s.ticketNumber j :=
  State.modifyTicket_ticketNumber s i j _

/-- Slots changed by a function of their record keep their numbers. -/
theorem State.ticketNumber_of_map {s t : State} {f : Ticket → Ticket}
    (h : t.tickets = s.tickets.map (fun sl => { sl with ticket := sl.ticket.map f })) (j : Fin 24) : t.ticketNumber j = s.ticketNumber j := by
  simp [State.ticketNumber, h]

theorem State.ticketAt_of_map {s t : State} {f : Ticket → Ticket}
    (h : t.tickets = s.tickets.map (fun sl => { sl with ticket := sl.ticket.map f })) (j : Fin 24) :
    t.ticketAt j = (s.ticketAt j).map f := by
  simp [State.ticketAt, h]

theorem State.makeTicket_ticketAt (s : State) (i j : Fin 24) (account : Nat) (cash : Bool) : (s.makeTicket i account cash).ticketAt j =
    if i = j then some (Ticket.fresh account cash s.tariff.active s.clock.minute (minuteAdd s.clock.minute s.settings.ticketLife))
    else s.ticketAt j := by
  unfold State.ticketAt State.makeTicket
  rw [Table.get_set]
  split <;> rfl

theorem State.makeTicket_ticketNumber {s : State} {i j : Fin 24} (h : i ≠ j) (account : Nat) (cash : Bool) :
    (s.makeTicket i account cash).ticketNumber j = s.ticketNumber j := by
  unfold State.ticketNumber State.makeTicket
  rw [Table.get_set, if_neg h]

theorem State.freeTicket_ticketAt (s : State) (i j : Fin 24) : (s.freeTicket i).ticketAt j = if i = j then none else s.ticketAt j := by
  unfold State.ticketAt State.freeTicket
  rw [Table.get_modify]
  split <;> rfl

@[simp] theorem State.freeTicket_ticketNumber (s : State) (i j : Fin 24) : (s.freeTicket i).ticketNumber j = s.ticketNumber j := by
  unfold State.ticketNumber State.freeTicket
  rw [Table.get_modify]
  split <;> rfl

theorem State.ticketAt_of_cold (s : State) (kind : StartKind) (j : Fin 24) :
    ({ s.coldClear with phase := .starting kind } : State).ticketAt j = none := by
  simp [State.ticketAt, State.coldClear]

theorem State.voidRecord_tickets (s : State) (number : Nat) (i : Fin 24) (t : Ticket) :
    (s.voidRecord number i t).tickets = (s.putTicket i t.toVoid).tickets := by
  unfold State.voidRecord
  dsimp only
  split <;> rfl

theorem State.voidRecord_phase (s : State) (number : Nat) (i : Fin 24) (t : Ticket) : (s.voidRecord number i t).phase = s.phase := by
  unfold State.voidRecord
  dsimp only
  split <;> rfl

theorem State.voidRecord_lane (s : State) (number : Nat) (i : Fin 24) (t : Ticket) (n : Lane) :
    (s.voidRecord number i t).lane n = s.lane n := by
  unfold State.voidRecord
  dsimp only
  split <;> rfl

theorem State.settleTicket_tickets {s : State} {i : Fin 24} {t : Ticket} (h : s.ticketAt i = some t) (number : Nat) (g : Settling) :
    (s.settleTicket number i g).tickets = (s.putTicket i (t.toSettled g.record)).tickets := by
  rw [← State.modifyTicket_eq_put h]
  rfl

theorem State.makeHold_tickets {s : State} {c : Case} {t : Ticket} (h : s.ticketAt c.slot = some t) (j : Fin 64) (cause : Cause)
    (also : List Cause) (entryMade : Bool) :
    (s.makeHold j c cause also entryMade).tickets = (s.putTicket c.slot { t with holds := t.holds + 1 }).tickets := by
  rw [← State.modifyTicket_eq_put h (fun t => { t with holds := t.holds + 1 })]
  rfl

theorem Ticket.counting_iff {t : Ticket} : t.counting = true ↔ t.state = .opened ∨ t.state = .closing := by
  simp [Ticket.counting]

theorem Ticket.clearToPrice_iff {t : Ticket} :
    t.clearToPrice = true ↔ t.state = .closing ∧ t.lanes.card = 0 ∧ t.holds = 0 ∧ t.flags.recount = false := by
  simp [Ticket.clearToPrice, and_assoc]

/-- A walk settles a record in PRICED, PAYING or DOUBT only. -/
theorem Settler.settling_state {w : Settler} {t : Ticket} {g : Settling} (h : w.settling t = some g) :
    t.state = .priced ∨ t.state = .paying ∨ t.state = .doubt := by
  unfold Settler.settling at h
  split at h
  · cases h
  · cases w with
    | toAccount n => dsimp only at h; split at h <;> simp_all
    | pay n => dsimp only at h; split at h <;> simp_all
    | dispensed n => dsimp only at h; split at h <;> simp_all
    | resolve n a => dsimp only at h; split at h <;> simp_all

/-! ## The money (R23, R155, R173) -/

/-- The money of a record is in its state, its cash field and its optional records. -/
theorem Ticket.moneyOk_congr {t u : Ticket} (hs : u.state = t.state) (hc : u.cashAllowed = t.cashAllowed) (hp : u.priced = t.priced)
    (ho : u.payout = t.payout) (hr : u.settlement = t.settlement) (h : t.moneyOk) : u.moneyOk := by
  unfold Ticket.moneyOk Ticket.recordsOk at *
  rwa [hs, hc, hp, ho, hr]

theorem Ticket.moneyOk_of_standing {t u : Ticket} (hu : u.standing = t.standing) (h : t.moneyOk) : u.moneyOk := by
  simp only [Ticket.standing, Prod.mk.injEq] at hu
  obtain ⟨hs, hc, _, _, _, hp, ho, hr⟩ := hu
  exact Ticket.moneyOk_congr hs hc hp ho hr h

theorem Ticket.fresh_moneyOk (account : Nat) (cash : Bool) (bank : BankId) (opened deadline : Nat) :
    (Ticket.fresh account cash bank opened deadline).moneyOk := by
  simp [Ticket.moneyOk, Ticket.recordsOk, Ticket.fresh]

theorem cashQuote_le (allowed : Bool) (step cap net : Nat) : cashQuote allowed step cap net ≤ min net cap := by
  unfold cashQuote
  split
  · exact Nat.div_mul_le_self _ _
  · exact Nat.zero_le _

theorem cashQuote_mod (allowed : Bool) (step cap net : Nat) : cashQuote allowed step cap net % step = 0 := by
  unfold cashQuote
  split
  · exact Nat.mul_mod_left _ _
  · exact Nat.zero_mod _

/-- The pricing unit makes a record in order (R150 to R155). -/
theorem priceTicket_ok (b : Bank) (step cap : Nat) (t : Ticket) : (priceTicket b step cap t).ok := by
  have hfee : min (min maxAmount (lineSum b t)) b.fee ≤ min maxAmount (lineSum b t) := Nat.min_le_left _ _
  have hcash := cashQuote_le t.cashAllowed step cap (min maxAmount (lineSum b t) - min (min maxAmount (lineSum b t)) b.fee)
  have hgross : min maxAmount (lineSum b t) ≤ maxAmount := Nat.min_le_left _ _
  refine ⟨?_, hgross, ?_, cashQuote_mod _ _ _ _, ?_⟩
  · simp only [priceTicket]; omega
  · simp only [priceTicket]; omega
  · simp only [priceTicket]; omega

theorem Ticket.priceWith_moneyOk {t : Ticket} (b : Bank) (step cap : Nat) (hc : t.clearToPrice = true) (h : t.moneyOk) :
    (t.priceWith b step cap).moneyOk := by
  obtain ⟨hrec, -⟩ := h
  have hs := (Ticket.clearToPrice_iff.mp hc).1
  simp only [Ticket.recordsOk, hs] at hrec
  obtain ⟨-, ho, hr⟩ := hrec
  refine ⟨by simp [Ticket.recordsOk, Ticket.priceWith, ho, hr], fun p hp => ?_⟩
  obtain rfl : priceTicket b step cap t = p := by simpa [Ticket.priceWith] using hp
  refine ⟨priceTicket_ok b step cap t, fun hn => ?_, by simp [Ticket.priceWith, ho], by simp [Ticket.priceWith, hr]⟩
  have hn : t.cashAllowed = false := hn
  simp [priceTicket, cashQuote, hn]

/-- Each change of one record keeps its money in order. -/
theorem TicketStep.moneyOk {t u : Ticket} (hu : TicketStep t u) (h : t.moneyOk) : u.moneyOk := by
  cases hu with
  | edit hst => exact Ticket.moneyOk_of_standing hst h
  | unlist n flags => exact Ticket.moneyOk_congr (by rfl) (by rfl) (by rfl) (by rfl) (by rfl) h
  | close hs =>
    obtain ⟨hrec, hp⟩ := h
    exact ⟨by simpa [Ticket.recordsOk, hs] using hrec, hp⟩
  | pay hs hp hr hm =>
    rename_i p r
    obtain ⟨hrec, hmoney⟩ := h
    simp only [Ticket.recordsOk, hs] at hrec
    obtain ⟨⟨hg, hmax, hcc, hmod, hcap⟩, hno, -, -⟩ := hmoney p hp
    refine ⟨by simp [Ticket.recordsOk, Ticket.toPaying, hp, hrec.2.2], fun q hq => ?_⟩
    obtain rfl : p.cutTo r = q := by simpa [Ticket.toPaying, hp] using hq
    refine ⟨⟨hg, hmax, ?_, hm hmod, ?_⟩, fun hc => ?_, ?_, ?_⟩
    · simp only [PricedRecord.cutTo]; omega
    · simp only [PricedRecord.cutTo]; omega
    · have := hno hc
      simp only [PricedRecord.cutTo]; omega
    · simp [Ticket.toPaying, PricedRecord.cutTo]
    · simp [Ticket.toPaying, hrec.2.2]
  | payout hf =>
    rename_i f
    obtain ⟨hrec, hmoney⟩ := h
    refine ⟨?_, fun p hp => ?_⟩
    · unfold Ticket.recordsOk at *
      dsimp only
      split at hrec <;> simp_all
    · obtain ⟨hok, hno, hres, hset⟩ := hmoney p hp
      refine ⟨hok, hno, fun o ho => ?_, hset⟩
      obtain ⟨o', ho', rfl⟩ := Option.map_eq_some_iff.mp ho
      rw [hf]
      exact hres o' ho'
  | doubt hs =>
    obtain ⟨hrec, hp⟩ := h
    exact ⟨by simpa [Ticket.recordsOk, hs] using hrec, hp⟩

/-- A settling pays out the net: cash and credit together, the cash within the quote (R167, R172, R173). -/
theorem Settler.settling_pays {w : Settler} {t : Ticket} {g : Settling} (hg : w.settling t = some g) (h : t.moneyOk) :
    ∃ p, t.priced = some p ∧ g.record.cash + g.record.credit = p.net ∧ g.record.cash ≤ p.cash := by
  obtain ⟨-, hmoney⟩ := h
  unfold Settler.settling at hg
  split at hg
  · cases hg
  · rename_i p hp
    refine ⟨p, hp, ?_⟩
    obtain ⟨⟨-, -, hcc, -, -⟩, -, hres, -⟩ := hmoney p hp
    have paid {o : PayoutRecord} (ho : t.payout = some o) (d : Nat) :
        min d o.reservation + (p.net - min d o.reservation) = p.net ∧ min d o.reservation ≤ p.cash := by
      have := hres o ho
      omega
    cases w with
    | toAccount n => dsimp only at hg; split at hg <;> cases hg; simp
    | pay n => dsimp only at hg; split at hg <;> cases hg; simp
    | dispensed n =>
      dsimp only at hg
      split at hg
      · rename_i o _ ho
        split at hg <;> cases hg
        exact paid ho _
      · cases hg
    | resolve n a =>
      dsimp only at hg
      split at hg
      · rename_i o _ ho
        cases hg
        exact paid ho _
      · cases hg

theorem Ticket.toSettled_moneyOk {w : Settler} {t : Ticket} {g : Settling} (hg : w.settling t = some g) (h : t.moneyOk) :
    (t.toSettled g.record).moneyOk := by
  obtain ⟨p, hp, hnet, hcash⟩ := Settler.settling_pays hg h
  obtain ⟨-, hmoney⟩ := h
  refine ⟨by simp [Ticket.recordsOk, Ticket.toSettled, hp], fun q hq => ?_⟩
  obtain rfl : p = q := by simpa [Ticket.toSettled, hp] using hq
  obtain ⟨hok, hno, -, -⟩ := hmoney p hp
  refine ⟨hok, hno, by simp [Ticket.toSettled], fun r hr => ?_⟩
  obtain rfl : g.record = r := by simpa [Ticket.toSettled] using hr
  exact ⟨hnet, hcash⟩

theorem Ticket.toVoid_moneyOk {t : Ticket} (hs : t.counting = true ∨ t.state = .priced) (h : t.moneyOk) : t.toVoid.moneyOk := by
  obtain ⟨hrec, hmoney⟩ := h
  refine ⟨?_, hmoney⟩
  unfold Ticket.recordsOk at *
  rw [Ticket.counting_iff] at hs
  rcases hs with (hs | hs) | hs <;> simp_all [Ticket.toVoid]

theorem Ticket.atWarmStart_moneyOk {t : Ticket} (h : t.moneyOk) : t.unlistAtStart.doubtAtStart.moneyOk := by
  have hl : t.unlistAtStart.moneyOk := by
    unfold Ticket.unlistAtStart
    split
    · exact h
    · exact Ticket.moneyOk_congr (by rfl) (by rfl) (by rfl) (by rfl) (by rfl) h
  unfold Ticket.doubtAtStart
  split
  · rename_i hs
    refine (TicketStep.payout (f := PayoutRecord.afterStart) (fun o => ?_)).moneyOk ((TicketStep.doubt hs).moneyOk hl)
    unfold PayoutRecord.afterStart
    split <;> rfl
  · exact hl

/-- A table of records in order stays so when each record is one that stood, or is in order itself. -/
theorem State.moneyOk_of {s t : State} (hs : s.moneyOk) (h : ∀ j v, t.ticketAt j = some v → (∃ k, s.ticketAt k = some v) ∨ v.moneyOk) :
    t.moneyOk := by
  intro j v hv
  rcases h j v hv with ⟨k, hk⟩ | h
  · exact hs k v hk
  · exact h

theorem State.moneyOk_put {s : State} {i : Fin 24} {u : Ticket} (hs : s.moneyOk) (hu : u.moneyOk) : (s.putTicket i u).moneyOk := by
  refine State.moneyOk_of hs (fun j v hv => ?_)
  rcases State.putTicket_ticketAt hv with ⟨-, rfl, -⟩ | ⟨-, hv⟩
  · exact .inr hu
  · exact .inl ⟨j, hv⟩

theorem State.moneyOk_of_tickets {s t : State} (h : t.tickets = s.tickets) (hs : s.moneyOk) : t.moneyOk := by
  unfold State.moneyOk State.ticketAt at *
  rwa [h]

theorem State.moneyOk_map {s t : State} {f : Ticket → Ticket} (hf : ∀ t : Ticket, t.moneyOk → (f t).moneyOk)
    (h : t.tickets = s.tickets.map (fun sl => { sl with ticket := sl.ticket.map f })) (hs : s.moneyOk) : t.moneyOk := by
  intro j v hv
  rw [State.ticketAt_of_map h] at hv
  obtain ⟨u, hu, rfl⟩ := Option.map_eq_some_iff.mp hv
  exact hf u (hs j u hu)

theorem Move.moneyOk {s t : State} (hm : Move s t) (hs : s.moneyOk) : t.moneyOk := by
  cases hm with
  | frame h => exact State.moneyOk_of_tickets (congrArg Books.tickets h) hs
  | ticket h hu => exact State.moneyOk_put hs (hu.moneyOk (hs _ _ h))
  | opened account cash _ =>
    refine State.moneyOk_of hs (fun j v hv => ?_)
    rw [State.makeTicket_ticketAt] at hv
    split at hv
    · cases hv; exact .inr (Ticket.fresh_moneyOk _ _ _ _ _)
    · exact .inl ⟨j, hv⟩
  | priced b step cap h hc => exact State.moneyOk_put hs (Ticket.priceWith_moneyOk b step cap hc (hs _ _ h))
  | settled h hg =>
    have ht := (State.lookupTicket_eq_some.mp h).1
    exact State.moneyOk_of_tickets (State.settleTicket_tickets ht _ _) (State.moneyOk_put hs (Ticket.toSettled_moneyOk hg (hs _ _ ht)))
  | voided h hv =>
    exact State.moneyOk_of_tickets (State.voidRecord_tickets s _ _ _)
      (State.moneyOk_put hs (Ticket.toVoid_moneyOk hv (hs _ _ (State.lookupTicket_eq_some.mp h).1)))
  | collected _ _ =>
    refine State.moneyOk_of hs (fun j v hv => ?_)
    rw [State.freeTicket_ticketAt] at hv
    split at hv
    · cases hv
    · exact .inl ⟨j, hv⟩
  | bound minute _ _ h _ _ =>
    exact State.moneyOk_put hs (Ticket.moneyOk_congr (by rfl) (by rfl) (by rfl) (by rfl) (by rfl) (hs _ _ (State.lookupTicket_eq_some.mp h).1))
  | unbound _ => exact State.moneyOk_of_tickets rfl hs
  | held cause also entryMade _ h _ =>
    have ht := (State.lookupTicket_eq_some.mp h).1
    exact State.moneyOk_of_tickets (State.makeHold_tickets ht _ _ _ _)
      (State.moneyOk_put hs (Ticket.moneyOk_congr (by rfl) (by rfl) (by rfl) (by rfl) (by rfl) (hs _ _ ht)))
  | resolved expired _ hk =>
    exact State.moneyOk_put (State.moneyOk_of_tickets (t := s.freeHold _) rfl hs)
      (Ticket.moneyOk_congr (by rfl) (by rfl) (by rfl) (by rfl) (by rfl) (hs _ _ (State.lookupTicket_eq_some.mp hk).1))
  | orphaned _ _ => exact State.moneyOk_of_tickets rfl hs
  | register r _ => exact State.moneyOk_of_tickets rfl hs
  | rebased c => exact State.moneyOk_map (f := Ticket.rebase _) (fun t h => Ticket.moneyOk_of_standing (by rfl) h) rfl hs
  | dropped p _ => exact State.moneyOk_of_tickets rfl hs
  | warm kind => exact State.moneyOk_map (s := s) (fun t h => Ticket.atWarmStart_moneyOk h) rfl hs
  | cold kind =>
    intro j v hv
    rw [State.ticketAt_of_cold] at hv
    cases hv

/-- Settles O58: the money of every record is kept by each move of the books. -/
theorem everyStepKeepsTheMoney : Obligations.EveryStepKeepsTheMoney :=
  kept_of_moves (fun _ _ hm hs => hm.moneyOk hs)

end Sys2Proof.Machine

namespace Sys2Proof.Machine

open Sys2Proof

/-! ## Counting the cells of a table -/

theorem Table.countP_set {α : Type} {n : Nat} (t : Table α n) (i : Fin n) (x : α) (p : α → Bool) :
    (t.set i x).cells.countP p + (p (t.get i)).toNat = t.cells.countP p + (p x).toNat := by
  have hi : i.val < t.cells.length := Nat.lt_of_lt_of_eq i.isLt t.size.symm
  have hget : t.get i = t.cells[i.val] := rfl
  have hpos : p t.cells[i.val] = true → 0 < t.cells.countP p := fun h => List.countP_pos_iff.mpr ⟨_, List.getElem_mem hi, h⟩
  unfold Table.set
  dsimp only
  rw [List.countP_set hi, hget]
  cases hp : p t.cells[i.val] <;> cases hx : p x <;> simp_all

theorem Table.countP_map {α β : Type} {n : Nat} (t : Table α n) (f : α → β) (p : β → Bool) :
    (t.map f).cells.countP p = t.cells.countP (fun x => p (f x)) := by
  unfold Table.map
  rw [List.countP_map]
  rfl

theorem Table.countP_eq_zero {α : Type} {n : Nat} {t : Table α n} {p : α → Bool} :
    t.cells.countP p = 0 ↔ ∀ i, p (t.get i) = false := by
  rw [List.countP_eq_zero]
  constructor
  · intro h i
    have := h (t.get i) (List.getElem_mem _)
    simpa using this
  · intro h x hx
    obtain ⟨k, hk, rfl⟩ := List.mem_iff_getElem.mp hx
    simpa [Table.get] using h ⟨k, Nat.lt_of_lt_of_eq hk t.size⟩

/-! ## The bank references (R5, R130) -/

/-- Whether a record is OPEN or CLOSING and names a bank. -/
def Ticket.stampedOn (t : Ticket) (bank : BankId) : Bool := t.counting && t.bank == bank

theorem State.stampedWith_eq (s : State) (bank : BankId) :
    s.stampedWith bank = s.tickets.cells.countP (fun sl => sl.ticket.any (fun t => t.stampedOn bank)) := by
  unfold State.stampedWith
  congr 1
  funext sl
  cases sl.ticket <;> rfl

theorem State.stampedWith_of_tickets {s t : State} (h : t.tickets = s.tickets) (bank : BankId) : t.stampedWith bank = s.stampedWith bank := by
  unfold State.stampedWith
  rw [h]

/-- A record put in the place of another takes that one's stamp away and adds its own. -/
theorem State.stampedWith_put {s : State} {i : Fin 24} {t : Ticket} (h : s.ticketAt i = some t) (u : Ticket) (bank : BankId) :
    (s.putTicket i u).stampedWith bank + (t.stampedOn bank).toNat = s.stampedWith bank + (u.stampedOn bank).toNat := by
  have ht : (s.tickets.get i).ticket = some t := h
  rw [State.stampedWith_eq, State.stampedWith_eq]
  have := Table.countP_set s.tickets i ⟨(s.tickets.get i).generation, some u⟩ (fun sl => sl.ticket.any (fun t => t.stampedOn bank))
  simpa [State.putTicket, State.modifyTicket, Table.modify, ht] using this

theorem State.stampedWith_map {s t : State} {f : Ticket → Ticket} (hf : ∀ t, (f t).counting = t.counting ∧ (f t).bank = t.bank)
    (h : t.tickets = s.tickets.map (fun sl => { sl with ticket := sl.ticket.map f })) (bank : BankId) :
    t.stampedWith bank = s.stampedWith bank := by
  have hany (o : Option Ticket) : (o.map f).any (fun t => t.stampedOn bank) = o.any (fun t => t.stampedOn bank) := by
    cases o with
    | none => rfl
    | some t => simp [Ticket.stampedOn, (hf t).1, (hf t).2]
  rw [State.stampedWith_eq, State.stampedWith_eq, h, Table.countP_map]
  simp only [hany]

theorem Tariff.takeRef_refs (t : Tariff) (k bank : BankId) : (t.takeRef k).refs bank = t.refs bank + (k == bank).toNat := by
  cases k <;> cases bank <;> rfl

theorem Tariff.dropRef_refs (t : Tariff) (k bank : BankId) : (t.dropRef k).refs bank = t.refs bank - (k == bank).toNat := by
  cases k <;> cases bank <;> rfl

theorem State.refsOk_of {s t : State} (hs : s.refsOk) (hr : ∀ bank, t.tariff.refs bank = s.tariff.refs bank)
    (hc : ∀ bank, t.stampedWith bank = s.stampedWith bank) : t.refsOk := fun bank => by
  rw [hr, hc, hs bank]

/-- A record that stays OPEN or CLOSING, or stays out of both, keeps its reference. -/
theorem State.refsOk_put {s : State} {i : Fin 24} {t u : Ticket} (h : s.ticketAt i = some t) (hc : u.counting = t.counting)
    (hb : u.bank = t.bank) (hs : s.refsOk) : (s.putTicket i u).refsOk := by
  refine State.refsOk_of hs (fun _ => rfl) (fun bank => ?_)
  have := State.stampedWith_put h u bank
  simp only [Ticket.stampedOn, hc, hb] at this
  exact Nat.add_right_cancel this

/-- A record that leaves OPEN and CLOSING gives its reference up. -/
theorem State.refsOk_release {s : State} {i : Fin 24} {t u : Ticket} (h : s.ticketAt i = some t) (hc : t.counting = true)
    (hu : u.counting = false) (hs : s.refsOk) : ((s.putTicket i u).dropRef t.bank).refsOk := by
  intro bank
  have hput := State.stampedWith_put h u bank
  simp only [Ticket.stampedOn, hc, hu, Bool.true_and, Bool.false_and, Bool.toNat_false] at hput
  show (s.tariff.dropRef t.bank).refs bank = (s.putTicket i u).stampedWith bank
  rw [Tariff.dropRef_refs, hs bank]
  omega

theorem State.refsOk_make {s : State} {i : Fin 24} (h : s.ticketAt i = none) (account : Nat) (cash : Bool) (hs : s.refsOk) :
    (s.makeTicket i account cash).refsOk := by
  intro bank
  have hfree : (s.tickets.get i).ticket = none := h
  have hset := Table.countP_set s.tickets i ⟨nextGeneration (s.tickets.get i).generation,
    some (Ticket.fresh account cash s.tariff.active s.clock.minute (minuteAdd s.clock.minute s.settings.ticketLife))⟩
    (fun sl => sl.ticket.any (fun t => t.stampedOn bank))
  simp only [hfree, Option.any_none, Option.any_some, Bool.toNat_false, Nat.add_zero] at hset
  show (s.tariff.takeRef s.tariff.active).refs bank = _
  rw [Tariff.takeRef_refs, hs bank, State.stampedWith_eq, State.stampedWith_eq]
  exact hset.symm

theorem State.refsOk_free {s : State} {i : Fin 24} {t : Ticket} (h : s.ticketAt i = some t) (hc : t.counting = false) (hs : s.refsOk) :
    (s.freeTicket i).refsOk := by
  refine State.refsOk_of hs (fun _ => rfl) (fun bank => ?_)
  have ht : (s.tickets.get i).ticket = some t := h
  have hset := Table.countP_set s.tickets i ⟨(s.tickets.get i).generation, none⟩ (fun sl => sl.ticket.any (fun t => t.stampedOn bank))
  simp only [ht, Option.any_none, Option.any_some, Ticket.stampedOn, hc, Bool.false_and, Bool.toNat_false, Nat.add_zero] at hset
  rw [State.stampedWith_eq, State.stampedWith_eq s]
  exact hset

theorem Ticket.counting_eq_false_of {t : Ticket} (h1 : t.state ≠ .opened) (h2 : t.state ≠ .closing) : t.counting = false := by
  simp [Ticket.counting, h1, h2]

/-- No change of one record alone touches its reference. -/
theorem TicketStep.counting {t u : Ticket} (h : TicketStep t u) : u.counting = t.counting ∧ u.bank = t.bank := by
  cases h with
  | edit hst =>
    simp only [Ticket.standing, Prod.mk.injEq] at hst
    exact ⟨by simp [Ticket.counting, hst.1], hst.2.2.1⟩
  | unlist n flags => exact ⟨rfl, rfl⟩
  | close hs => exact ⟨by simp [Ticket.counting, hs], rfl⟩
  | pay hs _ _ _ => exact ⟨by unfold Ticket.counting; rw [hs]; rfl, rfl⟩
  | payout _ => exact ⟨rfl, rfl⟩
  | doubt hs => exact ⟨by unfold Ticket.counting; rw [hs]; rfl, rfl⟩

theorem Settler.settling_counting {w : Settler} {t : Ticket} {g : Settling} (h : w.settling t = some g) : t.counting = false := by
  rcases Settler.settling_state h with hs | hs | hs <;> simp [Ticket.counting, hs]

theorem Ticket.atWarmStart_counting (t : Ticket) :
    t.unlistAtStart.doubtAtStart.counting = t.counting ∧ t.unlistAtStart.doubtAtStart.bank = t.bank := by
  have hl : t.unlistAtStart.state = t.state ∧ t.unlistAtStart.bank = t.bank := by
    unfold Ticket.unlistAtStart
    split <;> exact ⟨rfl, rfl⟩
  unfold Ticket.doubtAtStart
  split
  · rename_i hs
    exact ⟨by unfold Ticket.counting; rw [← hl.1, hs]; rfl, hl.2⟩
  · exact ⟨by simp [Ticket.counting, hl.1], hl.2⟩

theorem Move.refsOk {s t : State} (hm : Move s t) (hs : s.refsOk) : t.refsOk := by
  cases hm with
  | frame h =>
    refine State.refsOk_of hs (fun bank => ?_) (State.stampedWith_of_tickets (congrArg Books.tickets h))
    cases bank with
    | a => exact congrArg Books.refA h
    | b => exact congrArg Books.refB h
  | ticket h hu => exact State.refsOk_put h hu.counting.1 hu.counting.2 hs
  | opened account cash h => exact State.refsOk_make h account cash hs
  | priced b step cap h hc =>
    exact State.refsOk_release h (Ticket.counting_iff.mpr (.inr (Ticket.clearToPrice_iff.mp hc).1)) rfl hs
  | settled h hg =>
    rename_i i number t w g
    have ht := (State.lookupTicket_eq_some.mp h).1
    have hput := State.refsOk_put (u := Ticket.toSettled g.record t) ht (Settler.settling_counting hg).symm rfl hs
    exact State.refsOk_of hput (fun _ => rfl) (State.stampedWith_of_tickets (State.settleTicket_tickets ht _ _))
  | voided h hv =>
    rename_i i number t
    have ht := (State.lookupTicket_eq_some.mp h).1
    have htick := State.stampedWith_of_tickets (State.voidRecord_tickets s number i t)
    cases hc : t.counting with
    | true =>
      have hput := State.refsOk_release (u := t.toVoid) ht hc rfl hs
      exact State.refsOk_of hput (fun _ => by simp only [State.voidRecord, hc, if_true]; rfl) htick
    | false =>
      have hput := State.refsOk_put (u := t.toVoid) ht hc.symm rfl hs
      exact State.refsOk_of hput (fun _ => by simp only [State.voidRecord, hc, Bool.false_eq_true, if_false]; rfl) htick
  | collected h hv =>
    refine State.refsOk_free h ?_ hs
    rcases hv with hv | hv <;> simp [Ticket.counting, hv]
  | bound minute _ _ h _ _ => exact State.refsOk_put (State.lookupTicket_eq_some.mp h).1 rfl rfl hs
  | unbound _ => exact hs
  | held cause also entryMade _ h _ =>
    rename_i j c t _ _
    have ht := (State.lookupTicket_eq_some.mp h).1
    have hput := State.refsOk_put (u := { t with holds := t.holds + 1 }) ht rfl rfl hs
    exact State.refsOk_of hput (fun _ => rfl) (State.stampedWith_of_tickets (State.makeHold_tickets ht _ _ _ _))
  | resolved expired _ hk => exact State.refsOk_put (s := s.freeHold _) (State.lookupTicket_eq_some.mp hk).1 rfl rfl hs
  | orphaned _ _ => exact hs
  | register r _ => exact hs
  | rebased c => exact State.refsOk_of hs (fun _ => rfl) (State.stampedWith_map (f := Ticket.rebase _) (fun _ => ⟨rfl, rfl⟩) rfl)
  | dropped p _ => exact hs
  | warm kind => exact State.refsOk_of hs (fun _ => rfl) (State.stampedWith_map Ticket.atWarmStart_counting rfl)
  | cold kind =>
    intro bank
    rw [State.stampedWith_eq]
    cases bank <;> simp [State.coldClear, Tariff.cold, Tariff.refs, Table.fill]

/-- Settles O55: each bank's reference count is kept by each move of the books. -/
theorem everyStepKeepsTheBankReferences : Obligations.EveryStepKeepsTheBankReferences :=
  kept_of_moves (fun _ _ hm hs => hm.refsOk hs)

/-! ## The lane sets (R6) -/

theorem LaneSet.mem_add (l : LaneSet) (n m : Lane) : (l.add n).mem m = (l.mem m || m == n) := by
  cases n <;> cases m <;> simp [LaneSet.add, LaneSet.mem, PerLane.modify, PerLane.get]

theorem LaneSet.mem_of_mem_drop {l : LaneSet} {n m : Lane} (h : (l.drop n).mem m = true) : l.mem m = true := by
  cases n <;> cases m <;> simp_all [LaneSet.drop, LaneSet.mem, PerLane.modify, PerLane.get]

theorem LaneSet.card_eq_zero {l : LaneSet} : l.card = 0 ↔ ∀ n, l.mem n = false := by
  obtain ⟨a, b, c⟩ := l
  constructor
  · intro h n
    cases n <;> cases a <;> cases b <;> cases c <;> simp_all [LaneSet.card, LaneSet.mem, PerLane.get]
  · intro h
    have h0 := h .l0
    have h1 := h .l1
    have h2 := h .l2
    simp_all [LaneSet.card, LaneSet.mem, PerLane.get]

theorem Bool.toNat_le_of_imp {a b : Bool} (h : a = true → b = true) : a.toNat ≤ b.toNat := by
  cases a
  · exact Nat.zero_le _
  · rw [h rfl]

theorem LaneSet.card_le {k l : LaneSet} (h : ∀ n, k.mem n = true → l.mem n = true) : k.card ≤ l.card :=
  Nat.add_le_add (Nat.add_le_add (Bool.toNat_le_of_imp (h .l0)) (Bool.toNat_le_of_imp (h .l1))) (Bool.toNat_le_of_imp (h .l2))

theorem LaneSet.card_add_le (l : LaneSet) (n : Lane) : (l.add n).card ≤ l.card + 1 := by
  have hb (x : Bool) : x.toNat ≤ 1 := by cases x <;> decide
  obtain ⟨a, b, c⟩ := l
  have ha := hb a
  have hb' := hb b
  have hc := hb c
  cases n <;> simp only [LaneSet.add, LaneSet.card, PerLane.modify, Bool.toNat_true] <;> omega

/-- A state whose tickets list no lane they did not list, and list lanes in OPEN and CLOSING only, keeps the law of the lane sets while the
batches of the listed lanes stand. -/
theorem State.lanesOk_of {s t : State} (hs : s.lanesOk)
    (ht : ∀ j v, t.ticketAt j = some v → v.lanes.card = 0 ∨ ∃ u, s.ticketAt j = some u ∧ t.ticketNumber j = s.ticketNumber j
      ∧ (∀ n, v.lanes.mem n = true → u.lanes.mem n = true) ∧ (u.counting = true → v.counting = true))
    (hb : t.phase.intakesStand = true → ∀ j v n, t.ticketAt j = some v → v.lanes.mem n = true →
      s.phase.intakesStand = true ∧ (t.lane n).batch.map Batch.ticket = (s.lane n).batch.map Batch.ticket) : t.lanesOk := by
  obtain ⟨hcard, huniq, hbatch⟩ := hs
  have listed {j v n} (hv : t.ticketAt j = some v) (hn : v.lanes.mem n = true) :
      ∃ u, s.ticketAt j = some u ∧ t.ticketNumber j = s.ticketNumber j ∧ u.lanes.mem n = true := by
    rcases ht j v hv with h0 | ⟨u, hu, hnum, hsub, -⟩
    · rw [LaneSet.card_eq_zero.mp h0 n] at hn
      cases hn
    · exact ⟨u, hu, hnum, hsub n hn⟩
  refine ⟨fun j v hv => ?_, fun i j v hv w hw n hvn hwn => ?_, fun hst j v hv n hn => ?_⟩
  · rcases ht j v hv with h0 | ⟨u, hu, -, hsub, hc⟩
    · exact ⟨by omega, fun h => absurd h0 h⟩
    · have hle := LaneSet.card_le hsub
      obtain ⟨h2, hcount⟩ := hcard j u hu
      exact ⟨by omega, fun h => hc (hcount (by omega))⟩
  · obtain ⟨u, hu, -, hun⟩ := listed hv hvn
    obtain ⟨u', hu', -, hun'⟩ := listed hw hwn
    exact huniq i j u hu u' hu' n hun hun'
  · obtain ⟨u, hu, hnum, hun⟩ := listed hv hn
    obtain ⟨hss, hsame⟩ := hb hst j v n hv hn
    rw [hsame, hnum]
    exact hbatch hss j u hu n hun

/-- The law of the lane sets reads tickets, batches and phase only. -/
theorem State.lanesOk_of_tickets {s t : State} (hs : s.lanesOk) (ht : t.tickets = s.tickets) (hb : t.phase.intakesStand = true →
      s.phase.intakesStand = true ∧ ∀ n, (t.lane n).batch.map Batch.ticket = (s.lane n).batch.map Batch.ticket) : t.lanesOk := by
  refine State.lanesOk_of hs (fun j v hv => .inr ⟨v, ?_, ?_, fun _ h => h, fun h => h⟩) (fun hst _ _ n _ _ => ⟨(hb hst).1, (hb hst).2 n⟩)
  · unfold State.ticketAt at *; rwa [← ht]
  · unfold State.ticketNumber; rw [ht]

/-- A record put in the place of another that listed every lane it lists. -/
theorem State.lanesOk_put {s : State} {i : Fin 24} {t u : Ticket} (h : s.ticketAt i = some t)
    (hu : u.lanes.card = 0 ∨ (∀ n, u.lanes.mem n = true → t.lanes.mem n = true) ∧ (t.counting = true → u.counting = true))
    (hs : s.lanesOk) : (s.putTicket i u).lanesOk := by
  refine State.lanesOk_of hs (fun j v hv => ?_) (fun hst _ _ _ _ _ => ⟨hst, rfl⟩)
  rcases State.putTicket_ticketAt hv with ⟨rfl, rfl, -⟩ | ⟨-, hv⟩
  · rcases hu with h0 | ⟨hsub, hc⟩
    · exact .inl h0
    · exact .inr ⟨t, h, State.putTicket_ticketNumber _ _ _ _, hsub, hc⟩
  · exact .inr ⟨v, hv, State.putTicket_ticketNumber _ _ _ _, fun _ h => h, fun h => h⟩

theorem LaneSet.eq_or_mem_of_mem_add {l : LaneSet} {n m : Lane} (h : (l.add n).mem m = true) : m = n ∨ l.mem m = true := by
  rw [LaneSet.mem_add] at h
  rcases Bool.or_eq_true_iff.mp h with h | h
  · exact .inr h
  · exact .inl (by simpa using h)

/-- While the intakes stand, no ticket lists a lane that has no batch (R6). -/
theorem State.unlisted_of_no_batch {s : State} {n : Lane} (hs : s.lanesOk) (hstands : s.phase.intakesStand = true)
    (hb : (s.lane n).batch = none) {j : Fin 24} {v : Ticket} (hv : s.ticketAt j = some v) : v.lanes.mem n = false := by
  by_contra hn
  have hbatch := hs.2.2 hstands j v hv n (by simpa using hn)
  simp [hb] at hbatch

theorem Phase.intakesStand_of_running {s : State} (h : s.running = true) : s.phase.intakesStand = true := by
  have hp : s.phase = .running := by simpa [State.running] using h
  rw [hp]
  rfl

/-- A lane joins an OPEN ticket while its intake has no batch: no ticket lists it yet. -/
theorem State.lanesOk_bind {s : State} {i : Fin 24} {n : Lane} {number minute : Nat} {t : Ticket} (hr : s.running = true)
    (hb : (s.lane n).batch = none) (h : s.holdsTicket number i t) (hst : t.state = .opened) (hc : t.lanes.card < 2) (hs : s.lanesOk) :
    ((s.putTicket i { t with lanes := t.lanes.add n }).modifyLane n (fun i => { i with batch := some (i.newBatch number minute) })).lanesOk := by
  obtain ⟨ht, hnum⟩ := State.lookupTicket_eq_some.mp h
  have hstands := Phase.intakesStand_of_running hr
  have hfree {j v} (hv : s.ticketAt j = some v) : v.lanes.mem n = false := State.unlisted_of_no_batch hs hstands hb hv
  obtain ⟨hcard, huniq, hbatch⟩ := hs
  have placed {j v} (hv : (s.putTicket i { t with lanes := t.lanes.add n }).ticketAt j = some v) :
      (j = i ∧ v = { t with lanes := t.lanes.add n }) ∨ (j ≠ i ∧ s.ticketAt j = some v) := by
    rcases State.putTicket_ticketAt hv with ⟨rfl, rfl, -⟩ | hv
    · exact .inl ⟨rfl, rfl⟩
    · exact .inr hv
  refine ⟨fun j v hv => ?_, fun j k v hv w hw m hvm hwm => ?_, fun _ j v hv m hm => ?_⟩
  · rcases placed hv with ⟨rfl, rfl⟩ | ⟨-, hv⟩
    · have hle := LaneSet.card_add_le t.lanes n
      exact ⟨by dsimp only; omega, fun _ => Ticket.counting_iff.mpr (.inl hst)⟩
    · exact hcard j v hv
  · have hne {j v} (hj : j ≠ i ∧ s.ticketAt j = some v) (hvm : v.lanes.mem m = true) : ¬(t.lanes.add n).mem m = true := by
      intro hm
      rcases LaneSet.eq_or_mem_of_mem_add hm with rfl | hm
      · rw [hfree hj.2] at hvm; cases hvm
      · exact hj.1 (huniq j i v hj.2 t ht m hvm hm)
    rcases placed hv with ⟨rfl, rfl⟩ | hv
    · rcases placed hw with ⟨rfl, rfl⟩ | hw
      · rfl
      · exact absurd hvm (hne hw hwm)
    · rcases placed hw with ⟨rfl, rfl⟩ | hw
      · exact absurd hwm (hne hv hvm)
      · exact huniq j k v hv.2 w hw.2 m hvm hwm
  · show ((s.modifyLane n _).lane m).batch.map Batch.ticket = some ((s.putTicket i _).ticketNumber j)
    rw [State.modifyLane_lane, State.putTicket_ticketNumber]
    by_cases hmn : m = n
    · subst hmn
      rw [if_pos rfl]
      rcases placed hv with ⟨rfl, rfl⟩ | ⟨-, hv⟩
      · exact congrArg some hnum.symm
      · rw [hfree hv] at hm; cases hm
    · rw [if_neg hmn]
      rcases placed hv with ⟨rfl, rfl⟩ | ⟨-, hv⟩
      · exact hbatch hstands j t ht m ((LaneSet.eq_or_mem_of_mem_add hm).resolve_left hmn)
      · exact hbatch hstands j v hv m hm

/-- A batch record that its ticket does not list is dropped: by R6 no other ticket lists its lane. -/
theorem State.lanesOk_unbind {s : State} {n : Lane}
    (h : ∀ b ∈ (s.lane n).batch, ∀ i t, s.ticketAt i = some t → s.ticketNumber i = b.ticket → t.lanes.mem n = false) (hs : s.lanesOk) :
    (s.modifyLane n (fun i => { i with batch := none })).lanesOk := by
  refine State.lanesOk_of hs (fun j v hv => .inr ⟨v, hv, rfl, fun _ h => h, fun h => h⟩) (fun hst j v m hv hm => ⟨hst, ?_⟩)
  rw [State.modifyLane_lane]
  split
  · rename_i hmn
    subst hmn
    have hnamed := hs.2.2 hst j v hv m hm
    obtain ⟨b, hb, hbt⟩ := Option.map_eq_some_iff.mp hnamed
    rw [h b hb j v hv hbt.symm] at hm
    cases hm
  · rfl

/-- Each change of one record lists no lane more and leaves OPEN and CLOSING for neither. -/
theorem TicketStep.lanes {t u : Ticket} (h : TicketStep t u) {n : Lane} (hn : u.lanes.mem n = true) : t.lanes.mem n = true := by
  cases h with
  | edit hst =>
    simp only [Ticket.standing, Prod.mk.injEq] at hst
    rwa [hst.2.2.2.1] at hn
  | unlist m flags => exact LaneSet.mem_of_mem_drop hn
  | close _ => exact hn
  | pay _ _ _ _ => exact hn
  | payout _ => exact hn
  | doubt _ => exact hn

theorem Ticket.atWarmStart_lanes (t : Ticket) : t.unlistAtStart.doubtAtStart.lanes.card = 0 := by
  have hl : t.unlistAtStart.lanes.card = 0 := by
    unfold Ticket.unlistAtStart
    split
    · assumption
    · rfl
  unfold Ticket.doubtAtStart
  split
  · exact hl
  · exact hl

theorem Move.lanesOk {s t : State} (hm : Move s t) (hs : s.lanesOk) : t.lanesOk := by
  cases hm with
  | frame h =>
    refine State.lanesOk_of_tickets hs (congrArg Books.tickets h) (fun hst => ⟨?_, fun n => ?_⟩)
    · rw [← hst]; exact (congrArg Books.stands h).symm
    · rw [← State.books_batches, ← State.books_batches, h]
  | ticket h hu => exact State.lanesOk_put h (.inr ⟨fun _ => hu.lanes, fun hc => by rw [hu.counting.1, hc]⟩) hs
  | opened account cash h =>
    refine State.lanesOk_of hs (fun j v hv => ?_) (fun hst _ _ _ _ _ => ⟨hst, rfl⟩)
    rw [State.makeTicket_ticketAt] at hv
    split at hv
    · cases hv; exact .inl rfl
    · rename_i hij
      exact .inr ⟨v, hv, State.makeTicket_ticketNumber hij _ _, fun _ h => h, fun h => h⟩
  | priced b step cap h hc => exact State.lanesOk_put h (.inl (Ticket.clearToPrice_iff.mp hc).2.1) hs
  | settled h hg =>
    rename_i i number t w g
    have ht := (State.lookupTicket_eq_some.mp h).1
    have hput := State.lanesOk_put (u := Ticket.toSettled g.record t) ht
      (.inr ⟨fun _ h => h, fun hc => by rw [Settler.settling_counting hg] at hc; cases hc⟩) hs
    exact State.lanesOk_of_tickets hput (State.settleTicket_tickets ht _ _) (fun hst => ⟨hst, fun _ => rfl⟩)
  | voided h hv =>
    rename_i i number t
    have ht := (State.lookupTicket_eq_some.mp h).1
    have hput := State.lanesOk_put (u := t.toVoid) ht (.inl rfl) hs
    refine State.lanesOk_of_tickets hput (State.voidRecord_tickets s _ _ _) (fun hst => ⟨?_, fun n => ?_⟩)
    · rwa [State.voidRecord_phase] at hst
    · rw [State.voidRecord_lane]; rfl
  | collected h hv =>
    refine State.lanesOk_of hs (fun j v hv => ?_) (fun hst _ _ _ _ _ => ⟨hst, rfl⟩)
    rw [State.freeTicket_ticketAt] at hv
    split at hv
    · cases hv
    · exact .inr ⟨v, hv, State.freeTicket_ticketNumber _ _ _, fun _ h => h, fun h => h⟩
  | bound minute hr hb h hst hc => exact State.lanesOk_bind hr hb h hst hc hs
  | unbound h => exact State.lanesOk_unbind h hs
  | held cause also entryMade _ h _ =>
    rename_i j c t _ _
    have ht := (State.lookupTicket_eq_some.mp h).1
    have hput := State.lanesOk_put (u := { t with holds := t.holds + 1 }) ht (.inr ⟨fun _ h => h, fun h => h⟩) hs
    exact State.lanesOk_of_tickets hput (State.makeHold_tickets ht _ _ _ _) (fun hst => ⟨hst, fun _ => rfl⟩)
  | resolved expired _ hk =>
    exact State.lanesOk_put (s := s.freeHold _) (State.lookupTicket_eq_some.mp hk).1 (.inr ⟨fun _ h => h, fun h => h⟩)
      (State.lanesOk_of_tickets hs rfl (fun hst => ⟨hst, fun _ => rfl⟩))
  | orphaned _ _ => exact State.lanesOk_of_tickets hs rfl (fun hst => ⟨hst, fun _ => rfl⟩)
  | register r _ => exact State.lanesOk_of_tickets hs rfl (fun hst => ⟨hst, fun _ => rfl⟩)
  | rebased c =>
    refine State.lanesOk_of hs (fun j v hv => .inr ?_) (fun hst _ _ n _ _ => ⟨hst, ?_⟩)
    · rw [State.ticketAt_of_map (s := s) (t := s.rebaseTo c) rfl] at hv
      obtain ⟨u, hu, rfl⟩ := Option.map_eq_some_iff.mp hv
      exact ⟨u, hu, State.ticketNumber_of_map rfl j, fun _ h => h, fun h => h⟩
    · simp [State.lane, State.rebaseTo, Function.comp_def, Batch.rebase]
  | dropped p hp => exact State.lanesOk_of_tickets hs rfl (fun hst => by rw [show p.intakesStand = true from hst] at hp; cases hp)
  | warm kind =>
    have hlist {j v} (hv : ({ s.startVolatile.warmFixups with phase := .starting kind } : State).ticketAt j = some v) : v.lanes.card = 0 := by
      rw [State.ticketAt_of_map (s := s) rfl] at hv
      obtain ⟨u, -, rfl⟩ := Option.map_eq_some_iff.mp hv
      exact u.atWarmStart_lanes
    refine State.lanesOk_of hs (fun j v hv => .inl (hlist hv)) (fun _ j v n hv hn => ?_)
    rw [LaneSet.card_eq_zero.mp (hlist hv) n] at hn
    cases hn
  | cold kind =>
    refine State.lanesOk_of hs (fun j v hv => ?_) (fun _ j v n hv _ => ?_)
    · rw [State.ticketAt_of_cold] at hv; cases hv
    · rw [State.ticketAt_of_cold] at hv; cases hv

/-- Settles O56: the law of the lane sets is kept by each move of the books; a batch is dropped only once its ticket no longer lists its lane. -/
theorem everyStepKeepsTheLaneSets : Obligations.EveryStepKeepsTheLaneSets :=
  kept_of_moves (fun _ _ hm hs => hm.lanesOk hs)

end Sys2Proof.Machine

namespace Sys2Proof.Machine

open Sys2Proof

/-! ## The pool of holds by number and ticket -/

/-- The hold pool as its law reads it: each slot's generation, and the ticket its hold names. -/
def State.pool (s : State) : Table (Nat × Option Nat) 64 := s.holds.map (fun sl => (sl.generation, sl.hold.map Hold.ticket))

theorem State.pool_get (s : State) (j : Fin 64) : s.pool.get j = ((s.holds.get j).generation, (s.holds.get j).hold.map Hold.ticket) :=
  Table.get_map _ _ _

theorem State.pool_get_eq_some {s : State} {j : Fin 64} {number : Nat} :
    (s.pool.get j).2 = some number ↔ ∃ h, (s.holds.get j).hold = some h ∧ h.ticket = number := by
  rw [State.pool_get]
  exact Option.map_eq_some_iff

theorem State.holdNumber_eq (s : State) (j : Fin 64) : s.holdNumber j = (s.pool.get j).1 * 256 + j.val := by
  rw [State.pool_get]
  rfl

theorem State.holdsNaming_eq (s : State) (number : Nat) : s.holdsNaming number = s.pool.cells.countP (fun p => p.2 == some number) := by
  unfold State.pool State.holdsNaming
  rw [Table.countP_map]
  congr 1
  funext sl
  cases sl.hold <;> rfl

/-- The holds outstanding of a ticket are none exactly when no hold names it. -/
theorem State.holdsNaming_eq_zero {s : State} {number : Nat} : s.holdsNaming number = 0 ↔ ∀ j, (s.pool.get j).2 ≠ some number := by
  rw [State.holdsNaming_eq, Table.countP_eq_zero]
  simp

/-- Whether PENDING entries may name a ticket: it is neither SETTLED nor VOID (R107). -/
def Ticket.live (t : Ticket) : Prop := t.state ≠ .settled ∧ t.state ≠ .voided

theorem Ticket.live_of_counting {t : Ticket} (h : t.counting = true) : t.live := by
  unfold Ticket.live
  rcases Ticket.counting_iff.mp h with h | h <;> simp [h]

theorem State.namesTicketIn_counting {s : State} {number : Nat} : s.namesTicketIn number [.opened, .closing] ↔
    ∃ i u, s.ticketAt i = some u ∧ s.ticketNumber i = number ∧ u.counting = true := by
  unfold State.namesTicketIn
  constructor
  · rintro ⟨i, hn, u, hu, hst⟩
    exact ⟨i, u, hu, hn, Ticket.counting_iff.mpr (by simpa using hst)⟩
  · rintro ⟨i, u, hu, hn, hc⟩
    exact ⟨i, hn, u, hu, by simpa using Ticket.counting_iff.mp hc⟩

theorem State.namesTicketIn_live {s : State} {number : Nat} : s.namesTicketIn number [.opened, .closing, .priced, .paying, .doubt] ↔
    ∃ i u, s.ticketAt i = some u ∧ s.ticketNumber i = number ∧ u.live := by
  have hlive (u : Ticket) : u.live ↔ u.state ∈ [.opened, .closing, .priced, .paying, .doubt] := by
    unfold Ticket.live
    cases u.state <;> simp
  unfold State.namesTicketIn
  constructor
  · rintro ⟨i, hn, u, hu, hst⟩
    exact ⟨i, u, hu, hn, (hlive u).mpr hst⟩
  · rintro ⟨i, u, hu, hn, hst⟩
    exact ⟨i, hn, u, hu, (hlive u).mp hst⟩

/-- Every hold names a ticket in OPEN or CLOSING (R9). -/
def State.holdsNamed (s : State) : Prop :=
  ∀ j number, (s.pool.get j).2 = some number → ∃ i u, s.ticketAt i = some u ∧ s.ticketNumber i = number ∧ u.counting = true

/-- The holds outstanding of each ticket are the holds that name it (R9). -/
def State.holdsCounted (s : State) : Prop := ∀ i u, s.ticketAt i = some u → u.holds = s.holdsNaming (s.ticketNumber i)

/-- The order of the holds lists the number of each, once (R81). -/
def State.holdsListed (s : State) : Prop :=
  s.holdOrder.Nodup ∧ ∀ number, number ∈ s.holdOrder ↔ ∃ j, (s.pool.get j).2.isSome = true ∧ s.holdNumber j = number

/-- The law of the holds, read from the pool. -/
theorem State.holdsOk_iff {s : State} : s.holdsOk ↔ s.holdsNamed ∧ s.holdsCounted ∧ s.holdsListed := by
  unfold State.holdsOk State.holdsNamed State.holdsCounted State.holdsListed
  simp only [State.pool_get, Option.isSome_map, Option.map_eq_some_iff, State.namesTicketIn_counting]
  constructor
  · rintro ⟨hnames, hrest⟩
    exact ⟨fun j number ⟨h, hh, hn⟩ => hn ▸ hnames j h hh, hrest⟩
  · rintro ⟨hnames, hrest⟩
    exact ⟨fun j h hh => hnames j h.ticket ⟨h, hh, rfl⟩, hrest⟩

theorem State.pendingOk_iff {s : State} :
    s.pendingOk ↔ ∀ number, s.register.pends number → ∃ i u, s.ticketAt i = some u ∧ s.ticketNumber i = number ∧ u.live := by
  unfold State.pendingOk Register.pends
  simp only [State.namesTicketIn_live]
  exact ⟨fun h number ⟨e, he, hst⟩ => h e he number hst, fun h e he number hst => h number ⟨e, he, hst⟩⟩

/-- While the pool stands, the law of the holds stands with the counts of the tickets and the tickets that holds name. -/
theorem State.holdsOk_of {s t : State} (hs : s.holdsOk) (hpool : t.pool = s.pool) (horder : t.holdOrder = s.holdOrder)
    (hcount : ∀ j v, t.ticketAt j = some v → v.holds = s.holdsNaming (t.ticketNumber j))
    (hnamed : ∀ j u, s.ticketAt j = some u → u.counting = true → u.holds ≠ 0 →
      ∃ v, t.ticketAt j = some v ∧ t.ticketNumber j = s.ticketNumber j ∧ v.counting = true) : t.holdsOk := by
  obtain ⟨h1, h2, h3, h4⟩ := State.holdsOk_iff.mp hs
  have hnum (j : Fin 64) : t.holdNumber j = s.holdNumber j := by rw [State.holdNumber_eq, State.holdNumber_eq, hpool]
  refine State.holdsOk_iff.mpr ⟨fun j number hj => ?_, fun i v hv => ?_, by rwa [horder], fun number => ?_⟩
  · rw [hpool] at hj
    obtain ⟨i, u, hu, hn, hc⟩ := h1 j number hj
    have hne : u.holds ≠ 0 := by
      rw [h2 i u hu, hn]
      exact fun h0 => State.holdsNaming_eq_zero.mp h0 j hj
    obtain ⟨v, hv, hn', hc'⟩ := hnamed i u hu hc hne
    exact ⟨i, v, hv, hn'.trans hn, hc'⟩
  · rw [hcount i v hv, State.holdsNaming_eq, State.holdsNaming_eq, hpool]
  · rw [horder, h4 number, hpool]
    simp only [hnum]

theorem State.pendingOk_of {s t : State} (hs : s.pendingOk) (hpends : ∀ number, t.register.pends number → s.register.pends number)
    (hlive : ∀ j u, s.ticketAt j = some u → u.live → t.register.pends (s.ticketNumber j) →
      ∃ v, t.ticketAt j = some v ∧ t.ticketNumber j = s.ticketNumber j ∧ v.live) : t.pendingOk := by
  refine State.pendingOk_iff.mpr (fun number hp => ?_)
  obtain ⟨j, u, hu, rfl, hl⟩ := State.pendingOk_iff.mp hs number (hpends number hp)
  obtain ⟨v, hv, hn, hl'⟩ := hlive j u hu hl hp
  exact ⟨j, v, hv, hn, hl'⟩

/-! ## The law of holds and PENDING entries (R9, R81, R107) -/

/-- The two laws together: each supports the other. -/
def State.claimsOk (s : State) : Prop := s.holdsOk ∧ s.pendingOk

/-- The laws read tickets, pool, order and entries only. -/
theorem State.claimsOk_of_same {s t : State} (hs : s.claimsOk) (ht : t.tickets = s.tickets) (hpool : t.pool = s.pool)
    (horder : t.holdOrder = s.holdOrder) (hpends : ∀ number, t.register.pends number → s.register.pends number) : t.claimsOk := by
  have hat (j) : t.ticketAt j = s.ticketAt j := by unfold State.ticketAt; rw [ht]
  have hnum (j) : t.ticketNumber j = s.ticketNumber j := by unfold State.ticketNumber; rw [ht]
  refine ⟨State.holdsOk_of hs.1 hpool horder (fun j v hv => ?_) (fun j u hu hc _ => ⟨u, by rw [hat, hu], hnum j, hc⟩),
    State.pendingOk_of hs.2 hpends (fun j u hu hl _ => ⟨u, by rw [hat, hu], hnum j, hl⟩)⟩
  rw [hat] at hv
  rw [hnum]
  exact (State.holdsOk_iff.mp hs.1).2.1 j v hv

/-- A record put in the place of another with as many holds outstanding, which leaves OPEN and CLOSING only without holds, and becomes SETTLED
or VOID only without PENDING entries. -/
theorem State.claimsOk_put {s t : State} {i : Fin 24} {u v : Ticket} (hs : s.claimsOk) (hu : s.ticketAt i = some u)
    (ht : t.tickets = (s.putTicket i v).tickets) (hpool : t.pool = s.pool) (horder : t.holdOrder = s.holdOrder)
    (hpends : ∀ number, t.register.pends number → s.register.pends number) (hholds : v.holds = u.holds)
    (hcount : u.counting = true → u.holds ≠ 0 → v.counting = true)
    (hlive : u.live → t.register.pends (s.ticketNumber i) → v.live) : t.claimsOk := by
  have hat (j) : t.ticketAt j = (s.putTicket i v).ticketAt j := by unfold State.ticketAt; rw [ht]
  have hnum (j) : t.ticketNumber j = s.ticketNumber j := by
    rw [← State.putTicket_ticketNumber s i j v]
    unfold State.ticketNumber; rw [ht]
  have hput : (s.putTicket i v).ticketAt i = some v := State.putTicket_ticketAt_same hu
  refine ⟨State.holdsOk_of hs.1 hpool horder (fun j w hw => ?_) (fun j w hw hc hne => ?_),
    State.pendingOk_of hs.2 hpends (fun j w hw hl hp => ?_)⟩
  · rw [hat] at hw
    rw [hnum]
    rcases State.putTicket_ticketAt hw with ⟨rfl, rfl, -⟩ | ⟨-, hw⟩
    · rw [hholds]
      exact (State.holdsOk_iff.mp hs.1).2.1 j u hu
    · exact (State.holdsOk_iff.mp hs.1).2.1 j w hw
  · by_cases hji : j = i
    · subst hji
      rw [hu] at hw
      cases hw
      exact ⟨v, by rw [hat, hput], hnum j, hcount hc hne⟩
    · exact ⟨w, by rw [hat, State.putTicket_ticketAt_of_ne hji, hw], hnum j, hc⟩
  · by_cases hji : j = i
    · subst hji
      rw [hu] at hw
      cases hw
      exact ⟨v, by rw [hat, hput], hnum j, hlive hl hp⟩
    · exact ⟨w, by rw [hat, State.putTicket_ticketAt_of_ne hji, hw], hnum j, hl⟩

/-- Every record changed by a function that keeps holds outstanding, and what is OPEN, CLOSING or live. -/
theorem State.claimsOk_map {s t : State} {f : Ticket → Ticket} (hs : s.claimsOk)
    (ht : t.tickets = s.tickets.map (fun sl => { sl with ticket := sl.ticket.map f })) (hpool : t.pool = s.pool)
    (horder : t.holdOrder = s.holdOrder) (hpends : ∀ number, t.register.pends number → s.register.pends number)
    (hf : ∀ u, (f u).holds = u.holds ∧ (u.counting = true → (f u).counting = true) ∧ (u.live → (f u).live)) : t.claimsOk := by
  have hat (j) : t.ticketAt j = (s.ticketAt j).map f := State.ticketAt_of_map ht j
  have hnum (j) : t.ticketNumber j = s.ticketNumber j := State.ticketNumber_of_map ht j
  refine ⟨State.holdsOk_of hs.1 hpool horder (fun j w hw => ?_) (fun j u hu hc _ => ⟨f u, by rw [hat, hu]; rfl, hnum j, (hf u).2.1 hc⟩),
    State.pendingOk_of hs.2 hpends (fun j u hu hl _ => ⟨f u, by rw [hat, hu]; rfl, hnum j, (hf u).2.2 hl⟩)⟩
  rw [hat] at hw
  obtain ⟨u, hu, rfl⟩ := Option.map_eq_some_iff.mp hw
  rw [hnum, (hf u).1]
  exact (State.holdsOk_iff.mp hs.1).2.1 j u hu

/-- A number that names a slot's place names a ticket in no other slot. -/
theorem State.slot_of_number {s : State} {i j : Fin 24} {generation : Nat} (h : s.ticketNumber j = generation * 256 + (i.val + 1)) : j = i := by
  unfold State.ticketNumber at h
  ext
  omega

/-- The number of a new ticket is named by no hold and no entry: its slot was FREE. -/
theorem State.claimsOk_make {s : State} {i : Fin 24} (h : s.ticketAt i = none) (account : Nat) (cash : Bool) (hs : s.claimsOk) :
    (s.makeTicket i account cash).claimsOk := by
  have hother {j u} (hu : s.ticketAt j = some u) : i ≠ j := by
    rintro rfl
    rw [h] at hu
    cases hu
  have hat {j u} (hu : s.ticketAt j = some u) : (s.makeTicket i account cash).ticketAt j = some u := by
    rw [State.makeTicket_ticketAt, if_neg (hother hu), hu]
  obtain ⟨h1, h2, -, -⟩ := State.holdsOk_iff.mp hs.1
  refine ⟨State.holdsOk_of hs.1 rfl rfl (fun j v hv => ?_) (fun j u hu hc _ => ⟨u, hat hu, State.makeTicket_ticketNumber (hother hu) _ _, hc⟩),
    State.pendingOk_of hs.2 (fun _ h => h) (fun j u hu hl _ => ⟨u, hat hu, State.makeTicket_ticketNumber (hother hu) _ _, hl⟩)⟩
  rw [State.makeTicket_ticketAt] at hv
  split at hv
  · rename_i hij
    subst hij
    cases hv
    refine (State.holdsNaming_eq_zero.mpr (fun k hk => ?_)).symm
    obtain ⟨j, u, hu, hn, -⟩ := h1 k _ hk
    have hnew : (s.makeTicket i account cash).ticketNumber i = nextGeneration (s.tickets.get i).generation * 256 + (i.val + 1) := by
      simp [State.ticketNumber, State.makeTicket]
    exact hother hu (State.slot_of_number (hn.trans hnew)).symm
  · rename_i hij
    rw [State.makeTicket_ticketNumber hij]
    exact h2 j v hv

/-- A ticket in SETTLED or VOID is named by no hold and no entry. -/
theorem State.claimsOk_free {s : State} {i : Fin 24} {t : Ticket} (h : s.ticketAt i = some t) (hst : t.state = .settled ∨ t.state = .voided)
    (hs : s.claimsOk) : (s.freeTicket i).claimsOk := by
  have hnl : ¬t.live := by
    rintro ⟨h1, h2⟩
    exact hst.elim h1 h2
  have hat {j u} (hu : s.ticketAt j = some u) (hl : u.live) : (s.freeTicket i).ticketAt j = some u := by
    rw [State.freeTicket_ticketAt, if_neg, hu]
    rintro rfl
    rw [h] at hu
    cases hu
    exact hnl hl
  refine ⟨State.holdsOk_of hs.1 rfl rfl (fun j v hv => ?_)
      (fun j u hu hc _ => ⟨u, hat hu (Ticket.live_of_counting hc), State.freeTicket_ticketNumber _ _ _, hc⟩),
    State.pendingOk_of hs.2 (fun _ h => h) (fun j u hu hl _ => ⟨u, hat hu hl, State.freeTicket_ticketNumber _ _ _, hl⟩)⟩
  rw [State.freeTicket_ticketAt] at hv
  rw [State.freeTicket_ticketNumber]
  split at hv
  · cases hv
  · exact (State.holdsOk_iff.mp hs.1).2.1 j v hv

/-! ### The pool changes -/

theorem Table.map_set {α β : Type} {n : Nat} (t : Table α n) (f : α → β) (i : Fin n) (x : α) : (t.set i x).map f = (t.map f).set i (f x) := by
  simp [Table.map, Table.set, List.map_set]

theorem Table.map_map {α β γ : Type} {n : Nat} (t : Table α n) (f : α → β) (g : β → γ) : (t.map f).map g = t.map (fun x => g (f x)) := by
  simp [Table.map, Function.comp_def]

theorem State.makeHold_pool (s : State) (j : Fin 64) (c : Case) (cause : Cause) (also : List Cause) (entryMade : Bool) :
    (s.makeHold j c cause also entryMade).pool = s.pool.set j (((s.holds.get j).generation + 1) % 256, some c.number) :=
  Table.map_set _ _ _ _

theorem State.freeHold_pool (s : State) (j : Fin 64) : (s.freeHold j).pool = s.pool.set j ((s.holds.get j).generation, none) :=
  Table.map_set _ _ _ _

/-- The number of holds that name a ticket after one slot of the pool is replaced. -/
theorem State.holdsNaming_of_set {s t : State} {j : Fin 64} {p : Nat × Option Nat} (h : t.pool = s.pool.set j p) (number : Nat) :
    t.holdsNaming number + ((s.pool.get j).2 == some number).toNat = s.holdsNaming number + (p.2 == some number).toNat := by
  rw [State.holdsNaming_eq, State.holdsNaming_eq, h]
  exact Table.countP_set s.pool j p (fun p => p.2 == some number)

/-- Every ticket stands with its number and its state, its record's other fields apart. -/
def State.ticketsStay (s t : State) : Prop :=
  ∀ i u, s.ticketAt i = some u → ∃ v, t.ticketAt i = some v ∧ t.ticketNumber i = s.ticketNumber i ∧ v.state = u.state

theorem State.ticketAt_of_put {s t : State} {k : Fin 24} {v : Ticket} (h : t.tickets = (s.putTicket k v).tickets) (i : Fin 24) :
    t.ticketAt i = (s.putTicket k v).ticketAt i := by
  unfold State.ticketAt
  rw [h]

theorem State.ticketNumber_of_put {s t : State} {k : Fin 24} {v : Ticket} (h : t.tickets = (s.putTicket k v).tickets) (i : Fin 24) :
    t.ticketNumber i = s.ticketNumber i := by
  rw [← State.putTicket_ticketNumber s k i v]
  unfold State.ticketNumber
  rw [h]

theorem State.ticketsStay_of_put {s t : State} {k : Fin 24} {u v : Ticket} (hu : s.ticketAt k = some u)
    (h : t.tickets = (s.putTicket k v).tickets) (hv : v.state = u.state) : s.ticketsStay t := by
  intro i w hw
  by_cases hi : i = k
  · subst hi
    obtain rfl : u = w := Option.some.inj (hu.symm.trans hw)
    exact ⟨v, by rw [State.ticketAt_of_put h, State.putTicket_ticketAt_same hu], State.ticketNumber_of_put h i, hv⟩
  · exact ⟨w, by rw [State.ticketAt_of_put h, State.putTicket_ticketAt_of_ne hi, hw], State.ticketNumber_of_put h i, rfl⟩

theorem State.pendingOk_of_stay {s t : State} (hs : s.pendingOk) (hpends : ∀ number, t.register.pends number → s.register.pends number)
    (hstay : s.ticketsStay t) : t.pendingOk :=
  State.pendingOk_of hs hpends (fun i u hu hl _ => by
    obtain ⟨v, hv, hn, hst⟩ := hstay i u hu
    exact ⟨v, hv, hn, by unfold Ticket.live; rwa [hst]⟩)

/-- One slot of the pool replaced: its new hold, if any, names a ticket in OPEN or CLOSING. -/
theorem State.holdsNamed_of_set {s t : State} {j : Fin 64} {p : Nat × Option Nat} (hs : s.holdsNamed) (hstay : s.ticketsStay t)
    (hpool : t.pool = s.pool.set j p)
    (hnew : ∀ number, p.2 = some number → ∃ i u, s.ticketAt i = some u ∧ s.ticketNumber i = number ∧ u.counting = true) : t.holdsNamed := by
  intro k number hk
  rw [hpool, Table.get_set] at hk
  obtain ⟨i, u, hu, hn, hc⟩ : ∃ i u, s.ticketAt i = some u ∧ s.ticketNumber i = number ∧ u.counting = true := by
    split at hk
    · exact hnew number hk
    · exact hs k number hk
  obtain ⟨v, hv, hn', hst⟩ := hstay i u hu
  exact ⟨i, v, hv, hn'.trans hn, by rw [← hc]; unfold Ticket.counting; rw [hst]⟩

/-- One slot of the pool replaced and one ticket's holds outstanding with it: only that ticket is named there before or after. -/
theorem State.holdsCounted_of_set {s t : State} {j : Fin 64} {p : Nat × Option Nat} {k : Fin 24} {u v : Ticket} (hs : s.holdsCounted)
    (hu : s.ticketAt k = some u) (ht : t.tickets = (s.putTicket k v).tickets) (hpool : t.pool = s.pool.set j p)
    (hheld : v.holds + ((s.pool.get j).2 == some (s.ticketNumber k)).toNat = u.holds + (p.2 == some (s.ticketNumber k)).toNat)
    (hothers : ∀ number, number ≠ s.ticketNumber k → (s.pool.get j).2 ≠ some number ∧ p.2 ≠ some number) : t.holdsCounted := by
  intro i w hw
  have hcount := State.holdsNaming_of_set hpool (s.ticketNumber i)
  rw [State.ticketAt_of_put ht] at hw
  rw [State.ticketNumber_of_put ht]
  rcases State.putTicket_ticketAt hw with ⟨rfl, rfl, -⟩ | ⟨hne, hw⟩
  · have hbefore := hs _ u hu
    omega
  · obtain ⟨hold, hnew⟩ := hothers (s.ticketNumber i) (fun e => hne (State.ticketNumber_inj e))
    rw [beq_eq_false_iff_ne.mpr hold, beq_eq_false_iff_ne.mpr hnew] at hcount
    rw [hs i w hw]
    exact (Nat.add_right_cancel hcount).symm

theorem State.holdNumber_of_set {s t : State} {j : Fin 64} {p : Nat × Option Nat} (hpool : t.pool = s.pool.set j p) (k : Fin 64) :
    t.holdNumber k = if j = k then p.1 * 256 + j.val else s.holdNumber k := by
  rw [State.holdNumber_eq, hpool, Table.get_set]
  split
  next e => rw [e]
  next => rw [State.holdNumber_eq]

/-- A hold made in a free slot is listed last. -/
theorem State.holdsListed_append {s t : State} {j : Fin 64} {generation number : Nat} (hs : s.holdsListed) (hfree : (s.pool.get j).2 = none)
    (hpool : t.pool = s.pool.set j (generation, some number)) (horder : t.holdOrder = s.holdOrder ++ [generation * 256 + j.val]) :
    t.holdsListed := by
  obtain ⟨hnodup, hmem⟩ := hs
  have hfull {k : Fin 64} (hk : (s.pool.get k).2.isSome = true) : j ≠ k := by
    rintro rfl
    rw [hfree] at hk
    cases hk
  refine ⟨?_, fun n => ?_⟩
  · rw [horder]
    refine List.nodup_append.mpr ⟨hnodup, List.nodup_singleton _, fun a ha c hc => ?_⟩
    obtain ⟨k, hk, hka⟩ := (hmem a).mp ha
    rw [List.mem_singleton] at hc
    rintro rfl
    rw [State.holdNumber_eq] at hka
    exact hfull hk (by ext; omega)
  · rw [horder, List.mem_append, List.mem_singleton, hmem n]
    constructor
    · rintro (⟨k, hk, hkn⟩ | rfl)
      · exact ⟨k, by rwa [hpool, Table.get_set, if_neg (hfull hk)], by rw [State.holdNumber_of_set hpool, if_neg (hfull hk), hkn]⟩
      · exact ⟨j, by rw [hpool, Table.get_set_same]; rfl, by rw [State.holdNumber_of_set hpool, if_pos rfl]⟩
    · rintro ⟨k, hk, hkn⟩
      rw [State.holdNumber_of_set hpool] at hkn
      rw [hpool, Table.get_set] at hk
      split at hkn
      next => exact .inr hkn.symm
      next hjk =>
        rw [if_neg hjk] at hk
        exact .inl ⟨k, hk, hkn⟩

/-- A freed hold leaves the list. -/
theorem State.holdsListed_filter {s t : State} {j : Fin 64} (hs : s.holdsListed) (hpool : t.pool = s.pool.set j ((s.pool.get j).1, none))
    (horder : t.holdOrder = s.holdOrder.filter (fun n => n != s.holdNumber j)) : t.holdsListed := by
  obtain ⟨hnodup, hmem⟩ := hs
  have hnumber (k : Fin 64) : t.holdNumber k = s.holdNumber k := by
    rw [State.holdNumber_of_set hpool]
    split
    next e => rw [← e, State.holdNumber_eq]
    next => rfl
  refine ⟨?_, fun n => ?_⟩
  · rw [horder]
    exact hnodup.filter _
  · rw [horder, List.mem_filter, hmem n, bne_iff_ne]
    constructor
    · rintro ⟨⟨k, hk, hkn⟩, hne⟩
      have hjk : j ≠ k := by rintro rfl; exact hne hkn.symm
      exact ⟨k, by rwa [hpool, Table.get_set, if_neg hjk], by rw [hnumber, hkn]⟩
    · rintro ⟨k, hk, hkn⟩
      rw [hnumber] at hkn
      rw [hpool, Table.get_set] at hk
      split at hk
      · cases hk
      next hjk =>
        refine ⟨⟨k, hk, hkn⟩, ?_⟩
        rintro rfl
        exact hjk (State.holdNumber_inj hkn).symm

theorem State.claimsOk_hold {s : State} {j : Fin 64} {c : Case} {t : Ticket} (cause : Cause) (also : List Cause) (entryMade : Bool)
    (hj : (s.holds.get j).hold = none) (h : s.holdsTicket c.number c.slot t) (hc : t.counting = true) (hs : s.claimsOk) :
    (s.makeHold j c cause also entryMade).claimsOk := by
  obtain ⟨ht, hnum⟩ := State.lookupTicket_eq_some.mp h
  obtain ⟨hnamed, hcounted, hlisted⟩ := State.holdsOk_iff.mp hs.1
  have htickets := State.makeHold_tickets ht j cause also entryMade
  have hpool := s.makeHold_pool j c cause also entryMade
  have hfree : (s.pool.get j).2 = none := by rw [State.pool_get, hj]; rfl
  have hstay := State.ticketsStay_of_put ht htickets rfl
  refine ⟨State.holdsOk_iff.mpr ⟨?_, ?_, ?_⟩, State.pendingOk_of_stay hs.2 (fun _ h => h) hstay⟩
  · exact State.holdsNamed_of_set hnamed hstay hpool (fun number hn => ⟨c.slot, t, ht, hnum.trans (Option.some.inj hn), hc⟩)
  · refine State.holdsCounted_of_set hcounted ht htickets hpool ?_ (fun number hne => ⟨?_, ?_⟩)
    · simp [hfree, hnum]
    · rw [hfree]; nofun
    · rw [hnum] at hne
      exact fun e => hne (Option.some.inj e).symm
  · exact State.holdsListed_append hlisted hfree hpool rfl

theorem State.claimsOk_resolve {s : State} {j : Fin 64} {h : Hold} {k : Fin 24} {t : Ticket} (expired : Nat)
    (hj : (s.holds.get j).hold = some h) (hk : s.holdsTicket h.ticket k t) (hs : s.claimsOk) :
    ((s.freeHold j).putTicket k { t with holds := t.holds - 1, expired := expired }).claimsOk := by
  obtain ⟨ht, hnum⟩ := State.lookupTicket_eq_some.mp hk
  obtain ⟨hnamed, hcounted, hlisted⟩ := State.holdsOk_iff.mp hs.1
  have hfull : s.pool.get j = ((s.holds.get j).generation, some h.ticket) := by rw [State.pool_get, hj]; rfl
  have hpool : ((s.freeHold j).putTicket k { t with holds := t.holds - 1, expired := expired }).pool = s.pool.set j ((s.pool.get j).1, none) := by
    rw [hfull]; exact s.freeHold_pool j
  have hstay : s.ticketsStay ((s.freeHold j).putTicket k { t with holds := t.holds - 1, expired := expired }) :=
    State.ticketsStay_of_put ht (v := { t with holds := t.holds - 1, expired := expired }) rfl rfl
  have hpos : t.holds ≠ 0 := by
    rw [hcounted k t ht, hnum]
    exact fun h0 => State.holdsNaming_eq_zero.mp h0 j (congrArg Prod.snd hfull)
  refine ⟨State.holdsOk_iff.mpr ⟨?_, ?_, ?_⟩, State.pendingOk_of_stay hs.2 (fun _ h => h) hstay⟩
  · exact State.holdsNamed_of_set hnamed hstay hpool (fun number hn => nomatch hn)
  · refine State.holdsCounted_of_set hcounted ht rfl hpool ?_ (fun number hne => ⟨?_, nofun⟩)
    · simp only [hfull, hnum, beq_self_eq_true, Bool.toNat_true]
      exact Nat.sub_add_cancel (Nat.one_le_iff_ne_zero.mpr hpos)
    · rw [hnum] at hne
      rw [hfull]
      exact fun e => hne (Option.some.inj e).symm
  · exact State.holdsListed_filter hlisted hpool rfl

/-! ### The void walk -/

theorem State.voidRecord_pool (s : State) (number : Nat) (i : Fin 24) (t : Ticket) :
    (s.voidRecord number i t).pool = s.pool.map (fun p => (p.1, p.2.filter (fun n => n != number))) := by
  have hdrop : (s.dropHolds number).pool = s.pool.map (fun p => (p.1, p.2.filter (fun n => n != number))) := by
    unfold State.pool State.dropHolds
    rw [Table.map_map, Table.map_map]
    congr 1
    funext sl
    cases hsl : sl.hold with
    | none => rfl
    | some h => simp only [Option.filter_some, Option.map_some]; split <;> rfl
  rw [← hdrop]
  unfold State.voidRecord
  dsimp only
  split <;> rfl

theorem State.voidRecord_holdOrder (s : State) (number : Nat) (i : Fin 24) (t : Ticket) :
    (s.voidRecord number i t).holdOrder = (s.dropHolds number).holdOrder := by
  unfold State.voidRecord
  dsimp only
  split <;> rfl

theorem State.voidRecord_register (s : State) (number : Nat) (i : Fin 24) (t : Ticket) :
    (s.voidRecord number i t).register = s.register.voidTicket number := by
  unfold State.voidRecord
  dsimp only
  split <;> rfl

/-- After the void no PENDING entry names the ticket, and no other is new. -/
theorem Register.pends_voidTicket {r : Register} {ticket number : Nat} (h : (r.voidTicket ticket).pends number) :
    r.pends number ∧ number ≠ ticket := by
  refine ⟨Register.pends_keep h, ?_⟩
  rintro rfl
  obtain ⟨e, he, hst⟩ := h
  have := (List.mem_filter.mp he).2
  simp [KegEntry.pendingOn, hst] at this

/-- After a settle walk no PENDING entry names the ticket, and no other is new. -/
theorem Register.pends_creditTicket {r : Register} {minute ticket number : Nat} (h : (r.creditTicket minute ticket).pends number) :
    r.pends number ∧ number ≠ ticket := by
  obtain ⟨e, he, hst⟩ := h
  obtain ⟨a, ha, rfl⟩ := List.mem_map.mp he
  by_cases hp : a.pendingOn ticket = true
  · simp [hp] at hst
  · simp only [hp, Bool.false_eq_true, if_false] at hst
    refine ⟨⟨a, ha, hst⟩, ?_⟩
    rintro rfl
    exact hp (by simp [KegEntry.pendingOn, hst])

theorem State.voidRecord_pool_get (s : State) (number : Nat) (i : Fin 24) (t : Ticket) (j : Fin 64) (n : Nat) :
    ((s.voidRecord number i t).pool.get j).2 = some n ↔ (s.pool.get j).2 = some n ∧ n ≠ number := by
  rw [State.voidRecord_pool, Table.get_map]
  simp [Option.filter_eq_some_iff]

theorem State.voidRecord_holdNumber (s : State) (number : Nat) (i : Fin 24) (t : Ticket) (j : Fin 64) :
    (s.voidRecord number i t).holdNumber j = s.holdNumber j := by
  rw [State.holdNumber_eq, State.holdNumber_eq, State.voidRecord_pool, Table.get_map]

theorem State.voidRecord_ticketNumber (s : State) (number : Nat) (i : Fin 24) (t : Ticket) (j : Fin 24) :
    (s.voidRecord number i t).ticketNumber j = s.ticketNumber j :=
  State.ticketNumber_of_put (s.voidRecord_tickets number i t) j

theorem State.voidRecord_ticketAt_of_other {s : State} {number : Nat} {i j : Fin 24} (t : Ticket) {u : Ticket} (hi : s.ticketNumber i = number)
    (hu : s.ticketAt j = some u) (hj : s.ticketNumber j ≠ number) : (s.voidRecord number i t).ticketAt j = some u := by
  rw [State.ticketAt_of_put (s.voidRecord_tickets number i t), State.putTicket_ticketAt_of_ne, hu]
  rintro rfl
  exact hj hi

/-- The void leaves the holds of the other tickets, which stand as they were. -/
theorem State.holdsNamed_void {s : State} {number : Nat} {i : Fin 24} {t : Ticket} (hi : s.ticketNumber i = number) (hs : s.holdsNamed) :
    (s.voidRecord number i t).holdsNamed := by
  intro j n hj
  obtain ⟨hj, hne⟩ := (s.voidRecord_pool_get number i t j n).mp hj
  obtain ⟨k, u, hu, hk, hc⟩ := hs j n hj
  exact ⟨k, u, State.voidRecord_ticketAt_of_other t hi hu (by rwa [hk]), by rw [State.voidRecord_ticketNumber, hk], hc⟩

/-- The voided ticket counts no hold, and no hold names it; the count of another stands. -/
theorem State.holdsCounted_void {s : State} {number : Nat} {i : Fin 24} {t : Ticket} (hi : s.ticketNumber i = number) (hs : s.holdsCounted) :
    (s.voidRecord number i t).holdsCounted := by
  intro j v hv
  rw [State.ticketAt_of_put (s.voidRecord_tickets number i t)] at hv
  rw [State.voidRecord_ticketNumber]
  rcases State.putTicket_ticketAt hv with ⟨rfl, rfl, -⟩ | ⟨hne, hv⟩
  · refine (State.holdsNaming_eq_zero.mpr (fun k hk => ?_)).symm
    exact ((s.voidRecord_pool_get number _ t k _).mp hk).2 hi
  · have hnj : s.ticketNumber j ≠ number := fun e => hne (State.ticketNumber_inj (e.trans hi.symm))
    rw [hs j v hv, State.holdsNaming_eq, State.holdsNaming_eq, State.voidRecord_pool, Table.countP_map]
    congr 1
    funext p
    rw [Bool.eq_iff_iff, beq_iff_eq, beq_iff_eq, Option.filter_eq_some_iff]
    exact ⟨fun hp => ⟨hp, by simpa using hnj⟩, And.left⟩

/-- The numbers dropped from the order are those of the holds that named the ticket. -/
theorem State.holdsListed_void {s : State} {number : Nat} {i : Fin 24} {t : Ticket} (hs : s.holdsListed) :
    (s.voidRecord number i t).holdsListed := by
  obtain ⟨hnodup, hmem⟩ := hs
  refine ⟨?_, fun n => ?_⟩
  · rw [State.voidRecord_holdOrder]
    exact hnodup.filter _
  · rw [State.voidRecord_holdOrder, State.dropHolds, List.mem_filter, hmem n]
    constructor
    · rintro ⟨⟨j, hj, rfl⟩, hkeep⟩
      obtain ⟨m, hm⟩ := Option.isSome_iff_exists.mp hj
      obtain ⟨h, hh, rfl⟩ := State.pool_get_eq_some.mp hm
      rw [State.lookupHold_eq_some.mpr ⟨hh, rfl⟩] at hkeep
      refine ⟨j, ?_, s.voidRecord_holdNumber number i t j⟩
      rw [(s.voidRecord_pool_get number i t j h.ticket).mpr ⟨hm, by simpa using hkeep⟩]
      rfl
    · rintro ⟨j, hj, hjn⟩
      obtain ⟨m, hm⟩ := Option.isSome_iff_exists.mp hj
      obtain ⟨hm, hne⟩ := (s.voidRecord_pool_get number i t j m).mp hm
      obtain ⟨h, hh, rfl⟩ := State.pool_get_eq_some.mp hm
      rw [State.voidRecord_holdNumber] at hjn
      refine ⟨⟨j, by rw [hm]; rfl, hjn⟩, ?_⟩
      rw [State.lookupHold_eq_some.mpr ⟨hh, hjn⟩]
      simpa using hne

theorem State.claimsOk_void {s : State} {i : Fin 24} {number : Nat} {t : Ticket} (h : s.holdsTicket number i t) (hs : s.claimsOk) :
    (s.voidRecord number i t).claimsOk := by
  obtain ⟨-, hnum⟩ := State.lookupTicket_eq_some.mp h
  obtain ⟨hnamed, hcounted, hlisted⟩ := State.holdsOk_iff.mp hs.1
  refine ⟨State.holdsOk_iff.mpr ⟨State.holdsNamed_void hnum hnamed, State.holdsCounted_void hnum hcounted, State.holdsListed_void hlisted⟩,
    State.pendingOk_iff.mpr (fun n hp => ?_)⟩
  rw [State.voidRecord_register] at hp
  obtain ⟨hp, hne⟩ := Register.pends_voidTicket hp
  obtain ⟨k, u, hu, hk, hl⟩ := State.pendingOk_iff.mp hs.2 n hp
  exact ⟨k, u, State.voidRecord_ticketAt_of_other t hnum hu (by rwa [hk]), by rw [State.voidRecord_ticketNumber, hk], hl⟩

/-! ### Every move -/

/-- No change of one record alone touches its holds outstanding, and none settles or voids it. -/
theorem TicketStep.claims {t u : Ticket} (h : TicketStep t u) : u.holds = t.holds ∧ (t.live → u.live) := by
  cases h with
  | edit hst =>
    simp only [Ticket.standing, Prod.mk.injEq] at hst
    exact ⟨hst.2.2.2.2.1, by unfold Ticket.live; rw [hst.1]; exact id⟩
  | unlist n flags => exact ⟨rfl, id⟩
  | close _ => exact ⟨rfl, fun _ => ⟨nofun, nofun⟩⟩
  | pay _ _ _ _ => exact ⟨rfl, fun _ => ⟨nofun, nofun⟩⟩
  | payout _ => exact ⟨rfl, id⟩
  | doubt _ => exact ⟨rfl, fun _ => ⟨nofun, nofun⟩⟩

theorem Ticket.atWarmStart_claims (t : Ticket) :
    t.unlistAtStart.doubtAtStart.holds = t.holds ∧ (t.live → t.unlistAtStart.doubtAtStart.live) := by
  have hl : t.unlistAtStart.state = t.state ∧ t.unlistAtStart.holds = t.holds := by
    unfold Ticket.unlistAtStart
    split <;> exact ⟨rfl, rfl⟩
  unfold Ticket.doubtAtStart
  split
  · exact ⟨hl.2, fun _ => ⟨nofun, nofun⟩⟩
  · exact ⟨hl.2, fun h => by unfold Ticket.live; rwa [hl.1]⟩

theorem Move.claimsOk {s t : State} (hm : Move s t) (hs : s.claimsOk) : t.claimsOk := by
  cases hm with
  | frame h =>
    refine State.claimsOk_of_same hs (congrArg Books.tickets h) ?_ (congrArg Books.holdOrder h) (fun number hp => ?_)
    · exact congrArg (fun b => Table.map _ (Books.holds b)) h
    · have hentries : t.register.entries = s.register.entries := congrArg Books.entries h
      unfold Register.pends at *
      rwa [hentries] at hp
  | ticket h hu =>
    exact State.claimsOk_put hs h rfl rfl rfl (fun _ h => h) hu.claims.1 (fun hc _ => by rw [hu.counting.1, hc]) (fun hl _ => hu.claims.2 hl)
  | opened account cash h => exact State.claimsOk_make h account cash hs
  | priced b step cap h hc =>
    exact State.claimsOk_put hs h rfl rfl rfl (fun _ h => h) rfl (fun _ hne => absurd (Ticket.clearToPrice_iff.mp hc).2.2.1 hne)
      (fun _ _ => ⟨nofun, nofun⟩)
  | settled h hg =>
    obtain ⟨ht, hnum⟩ := State.lookupTicket_eq_some.mp h
    refine State.claimsOk_put hs ht (State.settleTicket_tickets ht _ _) rfl rfl (fun _ hp => (Register.pends_creditTicket hp).1) rfl
      (fun hc _ => ?_) (fun _ hp => absurd hnum (Register.pends_creditTicket hp).2)
    rw [Settler.settling_counting hg] at hc
    cases hc
  | voided h _ => exact State.claimsOk_void h hs
  | collected h hst => exact State.claimsOk_free h hst hs
  | bound minute _ _ h _ _ =>
    exact State.claimsOk_put hs (State.lookupTicket_eq_some.mp h).1 rfl rfl rfl (fun _ h => h) rfl (fun hc _ => hc) (fun hl _ => hl)
  | unbound _ => exact State.claimsOk_of_same hs rfl rfl rfl (fun _ h => h)
  | held cause also entryMade hj h hc => exact State.claimsOk_hold cause also entryMade hj h hc hs
  | resolved expired hj hk => exact State.claimsOk_resolve expired hj hk hs
  | orphaned hj hk =>
    rename_i j h
    obtain ⟨i, u, hu, hn, -⟩ := (State.holdsOk_iff.mp hs.1).1 j h.ticket (by rw [State.pool_get, hj]; rfl)
    exact absurd hn (State.lookupTicket_eq_none.mp hk i u hu)
  | register r h =>
    refine ⟨hs.1, State.pendingOk_iff.mpr (fun number hp => ?_)⟩
    rcases h number hp with hp | ⟨i, u, hu, hc, hn⟩ | ⟨j, hold, hj, rfl⟩
    · exact State.pendingOk_iff.mp hs.2 number hp
    · exact ⟨i, u, hu, hn, Ticket.live_of_counting hc⟩
    · obtain ⟨i, u, hu, hn, hc⟩ := (State.holdsOk_iff.mp hs.1).1 j hold.ticket (by rw [State.pool_get, hj]; rfl)
      exact ⟨i, u, hu, hn, Ticket.live_of_counting hc⟩
  | rebased c =>
    refine State.claimsOk_map (f := Ticket.rebase _) hs rfl ?_ rfl (fun number hp => ?_) (fun _ => ⟨rfl, id, id⟩)
    · unfold State.pool State.rebaseTo
      dsimp only
      rw [Table.map_map]
      simp [Function.comp_def, Hold.rebase]
    · refine Register.pends_update (r := s.register) (fun e he => ?_) hp
      unfold KegEntry.rebase at he
      dsimp only at he
      split at he
      · rw [← he]; assumption
      · cases he
      · cases he
  | dropped p _ => exact State.claimsOk_of_same hs rfl rfl rfl (fun _ h => h)
  | warm kind =>
    exact State.claimsOk_map hs rfl rfl rfl (fun _ h => h)
      (fun u => ⟨u.atWarmStart_claims.1, fun hc => by rw [u.atWarmStart_counting.1, hc], u.atWarmStart_claims.2⟩)
  | cold kind =>
    have hat (j) := State.ticketAt_of_cold s.startVolatile kind j
    refine ⟨State.holdsOk_iff.mpr ⟨fun j number hj => ?_, fun i u hu => ?_, List.nodup_nil, fun number => ?_⟩,
      State.pendingOk_iff.mpr (fun number hp => ?_)⟩
    · simp [State.pool_get, State.coldClear] at hj
    · rw [hat] at hu; cases hu
    · simp [State.pool_get, State.coldClear]
    · obtain ⟨e, he, -⟩ := hp
      cases he

/-- Settles O57: the law of the holds and that of the PENDING entries are kept together by each move of the books. -/
theorem everyStepKeepsHoldsAndPendingEntries : Obligations.EveryStepKeepsHoldsAndPendingEntries :=
  kept_of_moves (fun _ _ hm hs => hm.claimsOk hs)

end Sys2Proof.Machine

namespace Sys2Proof.Machine

open Sys2Proof

/-! ## A request as its handling finds it -/

/-- The state in which a taken request is handled: its link heard, the request at the tail of the outstanding list (R191). -/
def State.received (s : State) (l : Link) (kind tag : Nat) : State := (s.heardDesk l).modifyPort l (Port.enqueue kind tag)

section Received

variable (s : State) (l : Link) (kind tag : Nat)

@[simp] theorem State.received_ticketAt (i : Fin 24) : (s.received l kind tag).ticketAt i = s.ticketAt i := by cases l <;> rfl
@[simp] theorem State.received_lookupTicket (number : Nat) : (s.received l kind tag).lookupTicket number = s.lookupTicket number := by
  cases l <;> rfl
@[simp] theorem State.received_findTicket (number : Nat) : (s.received l kind tag).findTicket number = s.findTicket number := by
  cases l <;> rfl
@[simp] theorem State.received_lookupHold (number : Nat) : (s.received l kind tag).lookupHold number = s.lookupHold number := by
  cases l <;> rfl
@[simp] theorem State.received_freeTicketSlot : (s.received l kind tag).freeTicketSlot = s.freeTicketSlot := by cases l <;> rfl
@[simp] theorem State.received_payingTicket : (s.received l kind tag).payingTicket = s.payingTicket := by cases l <;> rfl
@[simp] theorem State.received_tickets : (s.received l kind tag).tickets = s.tickets := by cases l <;> rfl
@[simp] theorem State.received_tariff : (s.received l kind tag).tariff = s.tariff := by cases l <;> rfl
@[simp] theorem State.received_clock : (s.received l kind tag).clock = s.clock := by cases l <;> rfl
@[simp] theorem State.received_settings : (s.received l kind tag).settings = s.settings := by cases l <;> rfl
@[simp] theorem State.received_arbiter : (s.received l kind tag).arbiter = s.arbiter := by cases l <;> rfl
@[simp] theorem State.received_register : (s.received l kind tag).register = s.register := by cases l <;> rfl
@[simp] theorem State.received_lane (n : Lane) : (s.received l kind tag).lane n = s.lane n := by cases l <;> rfl

/-! The changes a handling makes to the tables are made as well before the request is listed. -/

theorem State.received_putTicket (i : Fin 24) (t : Ticket) : (s.received l kind tag).putTicket i t = (s.putTicket i t).received l kind tag := by
  cases l <;> rfl
theorem State.received_modifyTicket (i : Fin 24) (f : Ticket → Ticket) :
    (s.received l kind tag).modifyTicket i f = (s.modifyTicket i f).received l kind tag := by
  cases l <;> rfl
theorem State.received_makeTicket (i : Fin 24) (account : Nat) (cash : Bool) :
    (s.received l kind tag).makeTicket i account cash = (s.makeTicket i account cash).received l kind tag := by
  cases l <;> rfl
theorem State.received_freeTicket (i : Fin 24) : (s.received l kind tag).freeTicket i = (s.freeTicket i).received l kind tag := by
  cases l <;> rfl

theorem State.received_priceTest (i : Fin 24) : (s.received l kind tag).priceTest i = (s.priceTest i).received l kind tag := by
  cases ht : s.ticketAt i with
  | none => simp [State.priceTest, ht]
  | some t =>
    cases hc : t.clearToPrice with
    | false => simp [State.priceTest, ht, hc]
    | true =>
      rw [State.priceTest_of_clear ht hc, State.priceTest_of_clear (by rw [State.received_ticketAt]; exact ht) hc]
      cases l <;> rfl

theorem State.received_closeTicket (i : Fin 24) : (s.received l kind tag).closeTicket i = (s.closeTicket i).received l kind tag := by
  unfold State.closeTicket
  rw [State.received_modifyTicket, State.received_priceTest]

end Received

theorem State.putTicket_self {s : State} {i : Fin 24} {t : Ticket} (h : s.ticketAt i = some t) : s.putTicket i t = s := by
  have ht : (s.tickets.get i).ticket = some t := h
  have e : (⟨(s.tickets.get i).generation, some t⟩ : TicketSlot) = s.tickets.get i := by rw [← ht]
  unfold State.putTicket State.modifyTicket Table.modify
  simp only [ht, Option.map_some]
  rw [e, Table.set_get_self]

/-- A taken request that its handling answers. -/
theorem State.takeRequest_answered {s u : State} {l : Link} {kind tag : Nat} {f : State → State} {a : Answer} (h : s.canTake l)
    (hf : f (s.received l kind tag) = (u.received l kind tag).reply l a) : s.takeRequest l kind tag f = u.answered l kind tag a := by
  rw [State.takeRequest_of_canTake h]
  exact congrArg (fun v => State.heardLane v l) hf

/-- A taken request that its handling refuses, nothing else changing. -/
theorem State.takeRequest_refused {s : State} {l : Link} {kind tag : Nat} {f : State → State} {r : Result} (h : s.canTake l)
    (hf : f (s.received l kind tag) = (s.received l kind tag).replyCode l r) : s.takeRequest l kind tag f = s.refusedWith l kind tag r :=
  State.takeRequest_answered h hf

/-- A command whose handling raises an office-side operation asks the register (R110). -/
theorem State.asksRegister_of {s : State} {c : Instr} {l : Link} {kind tag : Nat} {op : OfficeOp} {f : State → State}
    (hc : exec c s = .next ((s.keyed c).takeRequest l kind tag f)) (h : (s.keyed c).canTake l) (ha : (s.keyed c).arbiter = s.arbiter)
    (hf : f ((s.keyed c).received l kind tag) = ((s.keyed c).received l kind tag).raiseOrBusy l op) : s.asksRegister c l kind tag op := by
  constructor
  · intro hroom
    rw [hc, State.takeRequest_of_canTake h]
    have hr : ((s.keyed c).received l kind tag).arbiter.officeRoom = true := by simp [ha, Arbiter.officeRoom, hroom]
    have hf' := hf.trans (State.raiseOrBusy_of_room hr l op)
    refine congrArg _ ((congrArg (fun v => State.heardLane v l) hf').trans ?_)
    cases l <;> rfl
  · intro hfull
    rw [hc]
    have hr : ((s.keyed c).received l kind tag).arbiter.officeRoom = false := by simp [ha, Arbiter.officeRoom, hfull]
    exact congrArg _ (State.takeRequest_refused h (hf.trans (State.raiseOrBusy_of_full hr l op)))

/-! ## OPEN (R3 to R5) -/

theorem Tariff.takeRef_active (t : Tariff) : t.takeRef t.active =
    match t.active with
    | .a => { t with refA := t.refA + 1 }
    | .b => { t with refB := t.refB + 1 } := by
  obtain ⟨bankA, bankB, active, refA, refB, armed⟩ := t
  cases active <;> rfl

/-- The record and the reference of a new ticket, written out. -/
theorem State.makeTicket_eq (s : State) (i : Fin 24) (account : Nat) (cash : Bool) : s.makeTicket i account cash =
    { s with
      tickets := s.tickets.set i ⟨((s.tickets.get i).generation + 1) % 256, some
        { state := .opened, account := account, cashAllowed := cash, bank := s.tariff.active, opened := s.clock.minute,
          deadline := (s.clock.minute + s.settings.ticketLife) % 1048576, lanes := LaneSet.empty, counts := Table.fill 64 0,
          scrap := Table.fill 16 0, holds := 0, expired := 0, flags := ⟨false, false, false, false, false⟩, priced := none,
          payout := none, settlement := none }⟩
      tariff := match s.tariff.active with
        | .a => { s.tariff with refA := s.tariff.refA + 1 }
        | .b => { s.tariff with refB := s.tariff.refB + 1 } } := by
  unfold State.makeTicket
  rw [Tariff.takeRef_active]
  rfl

theorem State.handleOpen_of_free {s : State} {l : Link} {kind tag account : Nat} {cash : Bool} {i : Fin 24} (ha : account ≤ 999999)
    (hi : s.freeTicketSlot = some i) : (s.received l kind tag).handleOpen l account cash =
      ((s.makeTicket i account cash).received l kind tag).reply l ⟨.ok, .opened (((s.tickets.get i).generation + 1) % 256 * 256 + (i.val + 1))
        s.tariff.active ((s.clock.minute + s.settings.ticketLife) % 1048576)⟩ := by
  unfold State.handleOpen
  rw [if_neg (by omega), State.received_freeTicketSlot, hi]
  simp only [State.received_makeTicket, State.received_tickets, State.received_tariff, State.received_clock, State.received_settings]
  rfl

theorem State.handleOpen_of_high {s : State} {l : Link} {account : Nat} {cash : Bool} (ha : 999999 < account) :
    s.handleOpen l account cash = s.replyCode l .malformed := by
  unfold State.handleOpen
  rw [if_pos ha]

theorem State.handleOpen_of_full {s : State} {l : Link} {account : Nat} {cash : Bool} (ha : account ≤ 999999)
    (hfull : s.freeTicketSlot = none) : s.handleOpen l account cash = s.replyCode l .tableFull := by
  unfold State.handleOpen
  rw [if_neg (by omega), hfull]

theorem execOpenTicket_kiosk (tag account : Nat) (s : State) : execOpenTicket tag account none s =
    .next (s.takeRequest .k 0x10 tag (fun s => s.handleOpen .k account (account == 0))) := rfl

theorem execOpenTicket_office {tag account cash : Nat} {allowed : Bool} (h : yesNo cash = some allowed) (s : State) :
    execOpenTicket tag account (some cash) s = .next (s.takeRequest .f 0x10 tag (fun s => s.handleOpen .f account allowed)) := by
  unfold execOpenTicket
  simp only [h]

theorem yesNo_toNat (allowed : Bool) : yesNo allowed.toNat = some allowed := by cases allowed <;> rfl

theorem yesNo_of_le {n : Nat} (h : n ≤ 1) : yesNo n = some (n == 1) := by
  rcases Nat.le_one_iff_eq_zero_or_eq_one.mp h with rfl | rfl <;> rfl

theorem yesNo_of_gt {n : Nat} (h : 1 < n) : yesNo n = none := by
  match n, h with
  | _ + 2, _ => rfl

theorem execOpenTicket_badCash {tag account cash : Nat} (h : 1 < cash) (s : State) :
    execOpenTicket tag account (some cash) s = .next (s.takeRequest .f 0x10 tag (fun s => s.replyCode .f .malformed)) := by
  unfold execOpenTicket
  simp only [yesNo_of_gt h]

/-- Settles O9. -/
theorem openMakesATicketOrIsRefused : Obligations.OpenMakesATicketOrIsRefused := by
  have full {s : State} (h : ∀ i, s.ticketAt i ≠ none) : s.freeTicketSlot = none :=
    State.freeTicketSlot_eq_none.mpr (fun i => Option.isSome_iff_ne_none.mpr (h i))
  refine ⟨fun s l tag account cash allowed i htake hcash hacc hfree hlow => ?_, fun s tag account cash => ⟨?_, ?_, ?_, ?_⟩⟩
  · have hslot : s.freeTicketSlot = some i :=
      State.freeTicketSlot_eq_some.mpr ⟨hfree, fun j hj => Option.isSome_iff_ne_none.mpr (hlow j hj)⟩
    intro generation deadline record tariff u
    have hu : s.makeTicket i account allowed = u := State.makeTicket_eq s i account allowed
    rw [← hu]
    rcases hcash with ⟨rfl, rfl, rfl⟩ | ⟨rfl, rfl, rfl⟩
    · exact congrArg _ (State.takeRequest_answered htake (State.handleOpen_of_free hacc hslot))
    · exact (execOpenTicket_office (yesNo_toNat allowed) s).trans
        (congrArg _ (State.takeRequest_answered htake (State.handleOpen_of_free hacc hslot)))
  · intro htake hacc
    exact congrArg _ (State.takeRequest_refused htake (State.handleOpen_of_high hacc))
  · intro htake hbad
    by_cases hc : 1 < cash
    · exact (execOpenTicket_badCash hc s).trans (congrArg _ (State.takeRequest_refused htake rfl))
    · exact (execOpenTicket_office (yesNo_of_le (by omega)) s).trans
        (congrArg _ (State.takeRequest_refused htake (State.handleOpen_of_high (by omega))))
  · intro htake hacc hall
    exact congrArg _ (State.takeRequest_refused htake (State.handleOpen_of_full hacc (by rw [State.received_freeTicketSlot, full hall])))
  · intro htake hacc hc hall
    exact (execOpenTicket_office (yesNo_of_le hc) s).trans
      (congrArg _ (State.takeRequest_refused htake (State.handleOpen_of_full hacc (by rw [State.received_freeTicketSlot, full hall]))))

/-! ## Refusals by number and by state (R1, R2) -/

section Unknown

variable {s : State} {number : Nat} (h : s.lookupTicket number = none)
include h

theorem State.handleClose_of_unknown : s.handleClose number = s.replyCode .f .noSuchTicket := by unfold State.handleClose; rw [h]
theorem State.handleQuote_of_unknown : s.handleQuote number = s.replyCode .k .noSuchTicket := by unfold State.handleQuote; rw [h]
theorem State.handleCollect_of_unknown : s.handleCollect number = s.replyCode .f .noSuchTicket := by unfold State.handleCollect; rw [h]
theorem State.handleConfirmCount_of_unknown : s.handleConfirmCount number = s.replyCode .f .noSuchTicket := by
  unfold State.handleConfirmCount; rw [h]
theorem State.adjustTicket_of_unknown (c : Fin 16) (g : Grade) (o : Ownership) (delta : Int) :
    s.adjustTicket number c g o delta = s.replyCode .f .noSuchTicket := by unfold State.adjustTicket; rw [h]
theorem State.handlePay_of_unknown : s.handlePay number = s.replyCode .k .noSuchTicket := by unfold State.handlePay; rw [h]
theorem State.handleDispensed_of_unknown {d : Nat} (hd : d ≤ maxAmount) : s.handleDispensed number d = s.replyCode .k .noSuchTicket := by
  unfold State.handleDispensed; rw [if_neg (by omega), h]
theorem State.handleResolve_of_unknown {p : Nat} (hp : p ≤ maxAmount) : s.handleResolve true number p = s.replyCode .f .noSuchTicket := by
  unfold State.handleResolve; rw [if_neg (by omega), h]; rfl

end Unknown

section WrongState

variable {s : State} {number : Nat} {i : Fin 24} {t : Ticket} (h : s.lookupTicket number = some (i, t))
include h

theorem State.handleClose_of_wrongState (hs : t.counting = false) : s.handleClose number = s.replyCode .f .wrongState := by
  simp only [Ticket.counting, Bool.or_eq_false_iff, beq_eq_false_iff_ne] at hs
  unfold State.handleClose
  simp only [h, if_neg hs.1, if_neg hs.2]
theorem State.adjustTicket_of_wrongState (hs : t.counting = false) (c : Fin 16) (g : Grade) (o : Ownership) (delta : Int) :
    s.adjustTicket number c g o delta = s.replyCode .f .wrongState := by
  unfold State.adjustTicket
  simp [h, hs]
theorem State.handleConfirmCount_of_wrongState (hs : t.counting = false) : s.handleConfirmCount number = s.replyCode .f .wrongState := by
  unfold State.handleConfirmCount
  simp [h, hs]
theorem State.handleCollect_of_wrongState (hs : t.state ≠ .settled) (hv : t.state ≠ .voided) :
    s.handleCollect number = s.replyCode .f .wrongState := by
  unfold State.handleCollect
  simp [h, hs, hv]
theorem State.handleQuote_of_wrongState (h1 : t.state ≠ .opened) (h2 : t.state ≠ .closing) (h3 : t.state ≠ .priced) :
    s.handleQuote number = s.replyCode .k .wrongState := by
  have hq : quoteAnswer t = ⟨.wrongState, .empty⟩ := by
    unfold quoteAnswer
    split
    · contradiction
    · contradiction
    · rfl
  unfold State.handleQuote State.answerQuote
  simp only [h, if_neg h1, (State.lookupTicket_eq_some.mp h).1, hq]
  rfl
theorem State.handlePay_of_wrongState (hs : t.state ≠ .priced) : s.handlePay number = s.replyCode .k .wrongState := by
  unfold State.handlePay
  simp only [h]
  split
  · contradiction
  · rfl
theorem State.handleDispensed_of_wrongState {d : Nat} (hd : d ≤ maxAmount) (h1 : t.state ≠ .paying) (h2 : t.state ≠ .doubt) :
    s.handleDispensed number d = s.replyCode .k .wrongState := by
  unfold State.handleDispensed
  rw [if_neg (by omega)]
  simp only [h, if_neg h1, if_neg h2]
theorem State.handleResolve_of_wrongState {p : Nat} (hp : p ≤ maxAmount) (hs : t.state ≠ .doubt) :
    s.handleResolve true number p = s.replyCode .f .wrongState := by
  unfold State.handleResolve
  rw [if_neg (by omega)]
  simp [h, hs]

end WrongState

theorem classIndex_of_le {n : Nat} (h : n ≤ 15) : ∃ c, classIndex n = some c := ⟨⟨n, by omega⟩, dif_pos (by omega)⟩

theorem gradeOfCode_of_le {n : Nat} (h : n ≤ 2) : ∃ g, gradeOfCode n = some g := by
  match n, h with
  | 0, _ => exact ⟨_, rfl⟩
  | 1, _ => exact ⟨_, rfl⟩
  | 2, _ => exact ⟨_, rfl⟩

theorem ownershipOfCode_of_le {n : Nat} (h : n ≤ 1) : ∃ o, ownershipOfCode n = some o := by
  match n, h with
  | 0, _ => exact ⟨_, rfl⟩
  | 1, _ => exact ⟨_, rfl⟩

/-- An ADJUST whose fields are in range comes to its ticket. -/
theorem State.handleAdjust_of_good {cls grade ownership : Nat} {delta : Int} (hc : cls ≤ 15) (hg : grade ≤ 2) (ho : ownership ≤ 1)
    (hlow : -65535 ≤ delta) (hhigh : delta ≤ 65535) : ∃ c g o, classIndex cls = some c ∧ gradeOfCode grade = some g
      ∧ ownershipOfCode ownership = some o ∧ ∀ (s : State) (number : Nat), s.handleAdjust number cls grade ownership delta =
        s.adjustTicket number c g o delta := by
  obtain ⟨c, hc⟩ := classIndex_of_le hc
  obtain ⟨g, hg⟩ := gradeOfCode_of_le hg
  obtain ⟨o, ho⟩ := ownershipOfCode_of_le ho
  refine ⟨c, g, o, hc, hg, ho, fun s number => ?_⟩
  unfold State.handleAdjust
  simp only [hc, hg, ho]
  rw [if_pos ⟨hlow, hhigh⟩]

/-- Settles O10. -/
theorem unknownTicketAndWrongStateAreRefused : Obligations.UnknownTicketAndWrongStateAreRefused := by
  refine ⟨fun s tag number cls grade ownership amount delta hno hc hg ho hlow hhigh ha => ⟨fun htake => ?_, fun htake => ?_⟩,
    fun s tag number cls grade ownership amount delta i t ht hc hg ho hlow hhigh ha => ⟨fun htake => ⟨fun hs => ?_, fun hs => ?_, fun hs => ?_⟩,
      fun htake => ⟨fun hs => ?_, fun hs => ?_, fun hs => ?_⟩⟩⟩
  · have hl : s.lookupTicket number = none := State.lookupTicket_eq_none.mpr hno
    have hr (kind : Nat) : (s.received .f kind tag).lookupTicket number = none := by rw [State.received_lookupTicket, hl]
    have hfind (kind : Nat) : (s.received .f kind tag).findTicket number = none := State.findTicket_eq_none.mpr (hr kind)
    obtain ⟨c, g, o, -, -, -, hadjust⟩ := State.handleAdjust_of_good hc hg ho hlow hhigh
    have refused {kind : Nat} {f : State → State} (hf : f (s.received .f kind tag) = (s.received .f kind tag).replyCode .f .noSuchTicket) :
        (.next (s.takeRequest .f kind tag f) : Outcome) = .next (s.refusedWith .f kind tag .noSuchTicket) :=
      congrArg _ (State.takeRequest_refused htake hf)
    refine ⟨refused (State.handleClose_of_unknown (hr _)), refused (by simp only [hfind]), refused (State.handleCollect_of_unknown (hr _)),
      refused (by simp only [hr]), refused ((hadjust _ _).trans (State.adjustTicket_of_unknown (hr _) c g o delta)),
      refused (State.handleConfirmCount_of_unknown (hr _)), refused (by simp only [hfind]), ?_⟩
    exact congrArg _ (State.takeRequest_refused ((State.withKey_canTake s true .f).mpr htake)
      (State.handleResolve_of_unknown (by rw [State.received_lookupTicket]; exact hl) ha))
  · have hl : s.lookupTicket number = none := State.lookupTicket_eq_none.mpr hno
    have hr (kind : Nat) : (s.received .k kind tag).lookupTicket number = none := by rw [State.received_lookupTicket, hl]
    exact ⟨congrArg _ (State.takeRequest_refused htake (State.handleQuote_of_unknown (hr _))),
      congrArg _ (State.takeRequest_refused htake (State.handlePay_of_unknown (hr _))),
      congrArg _ (State.takeRequest_refused htake (State.handleDispensed_of_unknown (hr _) ha))⟩
  · have hr (kind : Nat) : (s.received .f kind tag).lookupTicket number = some (i, t) := by rw [State.received_lookupTicket]; exact ht
    have hnc : t.counting = false := Ticket.counting_eq_false_of (by simp_all) (by simp_all)
    obtain ⟨c, g, o, -, -, -, hadjust⟩ := State.handleAdjust_of_good hc hg ho hlow hhigh
    exact ⟨congrArg _ (State.takeRequest_refused htake (State.handleClose_of_wrongState (hr _) hnc)),
      congrArg _ (State.takeRequest_refused htake ((hadjust _ _).trans (State.adjustTicket_of_wrongState (hr _) hnc c g o delta))),
      congrArg _ (State.takeRequest_refused htake (State.handleConfirmCount_of_wrongState (hr _) hnc))⟩
  · have hr : (s.received .f 0x16 tag).lookupTicket number = some (i, t) := by rw [State.received_lookupTicket]; exact ht
    exact congrArg _ (State.takeRequest_refused htake (State.handleCollect_of_wrongState hr (by simp_all) (by simp_all)))
  · have hr : ((s.withKey true).received .f 0x28 tag).lookupTicket number = some (i, t) := by rw [State.received_lookupTicket]; exact ht
    exact congrArg _ (State.takeRequest_refused ((State.withKey_canTake s true .f).mpr htake) (State.handleResolve_of_wrongState hr ha hs))
  · have hr : (s.received .k 0x11 tag).lookupTicket number = some (i, t) := by rw [State.received_lookupTicket]; exact ht
    exact congrArg _ (State.takeRequest_refused htake (State.handleQuote_of_wrongState hr (by simp_all) (by simp_all) (by simp_all)))
  · have hr : (s.received .k 0x12 tag).lookupTicket number = some (i, t) := by rw [State.received_lookupTicket]; exact ht
    exact congrArg _ (State.takeRequest_refused htake (State.handlePay_of_wrongState hr hs))
  · have hr : (s.received .k 0x13 tag).lookupTicket number = some (i, t) := by rw [State.received_lookupTicket]; exact ht
    exact congrArg _ (State.takeRequest_refused htake (State.handleDispensed_of_wrongState hr ha (by simp_all) (by simp_all)))

end Sys2Proof.Machine

namespace Sys2Proof.Machine

open Sys2Proof

/-! ## CLOSE, QUOTE and the pricing event (R11 to R13) -/

theorem Tariff.dropRef_eq (t : Tariff) (bank : BankId) : t.dropRef bank =
    match bank with
    | .a => { t with refA := t.refA - 1 }
    | .b => { t with refB := t.refB - 1 } := by
  cases bank <;> rfl

/-- The pricing test of a record just written. -/
theorem State.putTicket_priceTest_of_clear {s : State} {i : Fin 24} {t u : Ticket} (h : s.ticketAt i = some t) (hu : u.clearToPrice = true) :
    (s.putTicket i u).priceTest i =
      { s.putTicket i (u.priceWith (s.tariff.bank u.bank) s.settings.cashStep s.settings.cashCap) with tariff := s.tariff.dropRef u.bank } := by
  have hi := State.putTicket_ticketAt_same h (u := u)
  rw [State.priceTest_of_clear hi hu, State.modifyTicket_eq_put hi, State.putTicket_putTicket]
  rfl

theorem State.putTicket_priceTest_of_blocked {s : State} {i : Fin 24} {t u : Ticket} (h : s.ticketAt i = some t) (hu : u.clearToPrice = false) :
    (s.putTicket i u).priceTest i = s.putTicket i u :=
  State.priceTest_of_blocked (State.putTicket_ticketAt_same h) hu

theorem Ticket.clearToPrice_eq_false {t : Ticket} (h : t.lanes.card ≠ 0 ∨ t.holds ≠ 0 ∨ t.flags.recount = true) : t.clearToPrice = false := by
  rcases h with h | h | h <;> simp [Ticket.clearToPrice, h]

theorem State.closeTicket_of_opened {s : State} {i : Fin 24} {t : Ticket} (h : s.ticketAt i = some t) (ho : t.state = .opened) :
    s.closeTicket i = (s.putTicket i { t with state := .closing }).priceTest i := by
  unfold State.closeTicket
  rw [State.modifyTicket_eq_put h, Ticket.toClosing, if_pos ho]

theorem State.handleClose_of_opened {s : State} {number : Nat} {i : Fin 24} {t : Ticket} (h : s.lookupTicket number = some (i, t))
    (ho : t.state = .opened) : s.handleClose number = (s.closeTicket i).reply .f ⟨.ok, .state ((s.closeTicket i).ticketStateAt i)⟩ := by
  unfold State.handleClose
  simp only [h, if_pos ho]

theorem State.handleClose_of_closing {s : State} {number : Nat} {i : Fin 24} {t : Ticket} (h : s.lookupTicket number = some (i, t))
    (hc : t.state = .closing) : s.handleClose number = s.reply .f ⟨.ok, .state .closing⟩ := by
  unfold State.handleClose
  simp [h, hc]

theorem State.handleQuote_of_opened {s : State} {number : Nat} {i : Fin 24} {t : Ticket} (h : s.lookupTicket number = some (i, t))
    (ho : t.state = .opened) : s.handleQuote number = (s.closeTicket i).answerQuote i := by
  unfold State.handleQuote
  simp only [h, if_pos ho]

theorem State.handleQuote_of_closed {s : State} {number : Nat} {i : Fin 24} {t : Ticket} (h : s.lookupTicket number = some (i, t))
    (ho : t.state ≠ .opened) : s.handleQuote number = s.answerQuote i := by
  unfold State.handleQuote
  simp only [h, if_neg ho]

theorem State.answerQuote_of {s : State} {i : Fin 24} {t : Ticket} (h : s.ticketAt i = some t) :
    s.answerQuote i = s.reply .k (quoteAnswer t) := by
  unfold State.answerQuote
  simp only [h]

theorem quoteAnswer_closing {t : Ticket} (h : t.state = .closing) : quoteAnswer t =
    ⟨.wait, .reasons (decide (t.lanes.card ≠ 0)) (decide (t.holds ≠ 0)) t.flags.recount⟩ := by
  unfold quoteAnswer
  rw [h]
  simp [bne, decide_not, BEq.beq]

theorem quoteAnswer_priced {t : Ticket} {p : PricedRecord} (h : t.state = .priced) (hp : t.priced = some p) :
    quoteAnswer t = ⟨.price, .price p⟩ := by
  unfold quoteAnswer
  rw [h, hp]

theorem State.ticketStateAt_of {s : State} {i : Fin 24} {t : Ticket} (h : s.ticketAt i = some t) : s.ticketStateAt i = t.state := by
  unfold State.ticketStateAt
  rw [h]
  rfl

/-- A CLOSE of an OPEN ticket answers the state its closing leaves. -/
theorem State.close_answered {s u : State} {tag number : Nat} {i : Fin 24} {t v : Ticket} (ht : s.holdsTicket number i t)
    (ho : t.state = .opened) (hu : s.closeTicket i = u) (hv : u.ticketAt i = some v) (htake : s.canTake .f) :
    exec (.close tag number) s = .next (u.answered .f 0x14 tag ⟨.ok, .state v.state⟩) := by
  refine congrArg _ (State.takeRequest_answered htake ?_)
  have hr : (s.received .f 0x14 tag).lookupTicket number = some (i, t) := by rw [State.received_lookupTicket]; exact ht
  rw [State.handleClose_of_opened hr ho, State.received_closeTicket, hu,
    State.ticketStateAt_of (by rw [State.received_ticketAt]; exact hv)]

/-- A QUOTE of an OPEN ticket answers for the record its closing leaves. -/
theorem State.quote_answered {s u : State} {tag number : Nat} {i : Fin 24} {t v : Ticket} (ht : s.holdsTicket number i t)
    (ho : t.state = .opened) (hu : s.closeTicket i = u) (hv : u.ticketAt i = some v) (htake : s.canTake .k) :
    exec (.quote tag number) s = .next (u.answered .k 0x11 tag (quoteAnswer v)) := by
  refine congrArg _ (State.takeRequest_answered htake ?_)
  have hr : (s.received .k 0x11 tag).lookupTicket number = some (i, t) := by rw [State.received_lookupTicket]; exact ht
  rw [State.handleQuote_of_opened hr ho, State.received_closeTicket, hu,
    State.answerQuote_of (by rw [State.received_ticketAt]; exact hv)]

/-- A QUOTE of a ticket that is not OPEN answers for the record as it stands. -/
theorem State.quote_standing {s : State} {tag number : Nat} {i : Fin 24} {t : Ticket} (ht : s.holdsTicket number i t)
    (ho : t.state ≠ .opened) (htake : s.canTake .k) :
    exec (.quote tag number) s = .next (s.answered .k 0x11 tag (quoteAnswer t)) := by
  refine congrArg _ (State.takeRequest_answered htake ?_)
  have hr : (s.received .k 0x11 tag).lookupTicket number = some (i, t) := by rw [State.received_lookupTicket]; exact ht
  rw [State.handleQuote_of_closed hr ho, State.answerQuote_of (State.lookupTicket_eq_some.mp hr).1]

/-- Settles O11. -/
theorem closeAndQuoteWait : Obligations.CloseAndQuoteWait := by
  intro s tag number i t p ht reasons
  have hi : s.ticketAt i = some t := (State.lookupTicket_eq_some.mp ht).1
  refine ⟨fun ho hblocked => ?_, fun hc => ⟨fun htake => ?_, fun htake => ?_⟩, fun hp hrecord htake => ?_⟩
  · have hu : s.closeTicket i = s.putTicket i { t with state := .closing } :=
      (State.closeTicket_of_opened hi ho).trans (State.putTicket_priceTest_of_blocked hi (Ticket.clearToPrice_eq_false hblocked))
    have hv := State.putTicket_ticketAt_same hi (u := { t with state := .closing })
    exact ⟨State.close_answered ht ho hu hv, fun htake => by
      rw [State.quote_answered ht ho hu hv htake, quoteAnswer_closing rfl]⟩
  · exact congrArg _ (State.takeRequest_answered htake
      (State.handleClose_of_closing (by rw [State.received_lookupTicket]; exact ht) hc))
  · rw [State.quote_standing ht (by simp [hc]) htake, quoteAnswer_closing hc]
  · rw [State.quote_standing ht (by simp [hp]) htake, quoteAnswer_priced hp hrecord]

theorem Ticket.priceWith_of_closing {t : Ticket} (h : t.flags.recount = false) (b : Bank) (step cap : Nat) :
    ({ t with state := .closing } : Ticket).priceWith b step cap =
      { t with
        state := .priced
        priced := some (priceTicket b step cap t)
        flags := { t.flags with recount := false, totalClamped := t.flags.totalClamped || grossClamped b t } } := by
  rw [← h]
  rfl

theorem Ticket.priceWith_clearRecount (t : Ticket) (b : Bank) (step cap : Nat) : t.clearRecount.priceWith b step cap =
    { t with
      state := .priced
      priced := some (priceTicket b step cap t)
      flags := { t.flags with recount := false, totalClamped := t.flags.totalClamped || grossClamped b t } } := rfl

theorem State.handleConfirmCount_of_counting {s : State} {number : Nat} {i : Fin 24} {t : Ticket} (h : s.lookupTicket number = some (i, t))
    (hc : t.counting = true) :
    s.handleConfirmCount number = ((s.modifyTicket i Ticket.clearRecount).priceTest i).replyCode .f .ok := by
  unfold State.handleConfirmCount
  simp only [h, if_pos hc]

/-- A CONFIRM_COUNT of a counting ticket clears RECOUNT and makes the pricing test. -/
theorem State.confirmCount_answered {s u : State} {tag number : Nat} {i : Fin 24} {t : Ticket} (ht : s.holdsTicket number i t)
    (hc : t.counting = true) (hu : (s.putTicket i t.clearRecount).priceTest i = u) (htake : s.canTake .f) :
    exec (.confirmCount tag number) s = .next (u.answered .f 0x19 tag ⟨.ok, .empty⟩) := by
  refine congrArg _ (State.takeRequest_answered htake ?_)
  have hr : (s.received .f 0x19 tag).lookupTicket number = some (i, t) := by rw [State.received_lookupTicket]; exact ht
  rw [State.handleConfirmCount_of_counting hr hc, State.modifyTicket_eq_put (State.lookupTicket_eq_some.mp hr).1,
    State.received_putTicket, State.received_priceTest, hu]
  rfl

/-- Settles O12. -/
theorem pricingEventPrices : Obligations.PricingEventPrices := by
  intro s tag number i t ht hlanes hholds bank p priced tariff u
  have hi : s.ticketAt i = some t := (State.lookupTicket_eq_some.mp ht).1
  have hu : { s.putTicket i priced with tariff := s.tariff.dropRef t.bank } = u :=
    congrArg (fun r : Tariff => ({ s.putTicket i priced with tariff := r } : State)) (Tariff.dropRef_eq _ _)
  have hv : u.ticketAt i = some priced := State.putTicket_ticketAt_same hi
  refine ⟨fun ho hrecount => ?_, fun hc htake => ?_⟩
  · have hclear : ({ t with state := .closing } : Ticket).clearToPrice = true := by simp [Ticket.clearToPrice, hlanes, hholds, hrecount]
    have hclose : s.closeTicket i = u := by
      rw [State.closeTicket_of_opened hi ho, State.putTicket_priceTest_of_clear hi hclear, Ticket.priceWith_of_closing hrecount, ← hu]
      rfl
    exact ⟨State.close_answered ht ho hclose hv, fun htake => by
      rw [State.quote_answered ht ho hclose hv htake, quoteAnswer_priced (p := p) rfl rfl]⟩
  · have hclear : t.clearRecount.clearToPrice = true := by simp [Ticket.clearToPrice, Ticket.clearRecount, hlanes, hholds, hc]
    refine State.confirmCount_answered ht (by simp [Ticket.counting, hc]) ?_ htake
    rw [State.putTicket_priceTest_of_clear hi hclear, Ticket.priceWith_clearRecount, ← hu]
    rfl

/-! ## ADJUST and CONFIRM_COUNT (R8, R16, R17) -/

theorem classIndex_val (c : Fin 16) : classIndex c.val = some c := dif_pos c.isLt

theorem gradeOfCode_code (g : Grade) : gradeOfCode g.code = some g := by cases g <;> rfl

theorem ownershipOfCode_code (o : Ownership) : ownershipOfCode o.code = some o := by cases o <;> rfl

theorem State.handleAdjust_of_fields {delta : Int} (hlow : -65535 ≤ delta) (hhigh : delta ≤ 65535) (s : State) (number : Nat) (c : Fin 16)
    (g : Grade) (o : Ownership) : s.handleAdjust number c.val g.code o.code delta = s.adjustTicket number c g o delta := by
  unfold State.handleAdjust
  simp only [classIndex_val, gradeOfCode_code, ownershipOfCode_code]
  exact if_pos ⟨hlow, hhigh⟩

theorem classIndex_of_gt {n : Nat} (h : 15 < n) : classIndex n = none := dif_neg (by omega)

theorem gradeOfCode_of_gt {n : Nat} (h : 2 < n) : gradeOfCode n = none := by
  match n, h with
  | _ + 3, _ => rfl

theorem ownershipOfCode_of_gt {n : Nat} (h : 1 < n) : ownershipOfCode n = none := by
  match n, h with
  | _ + 2, _ => rfl

theorem State.handleAdjust_of_bad {cls grade ownership : Nat} {delta : Int}
    (h : 15 < cls ∨ 2 < grade ∨ 1 < ownership ∨ delta < -65535 ∨ 65535 < delta) (s : State) (number : Nat) :
    s.handleAdjust number cls grade ownership delta = s.replyCode .f .malformed := by
  unfold State.handleAdjust
  split
  next c g o hc hg ho =>
    refine if_neg (fun ⟨hlow, hhigh⟩ => ?_)
    rcases h with h | h | h | h | h
    · rw [classIndex_of_gt h] at hc; contradiction
    · rw [gradeOfCode_of_gt h] at hg; contradiction
    · rw [ownershipOfCode_of_gt h] at ho; contradiction
    · omega
    · omega
  next => rfl

theorem adjusted_eq {counter value : Nat} {delta : Int} (h : (value : Int) = max 0 (min 65535 ((counter : Int) + delta))) :
    adjusted counter delta = value := by
  unfold adjusted
  dsimp only
  split
  · omega
  · split <;> omega

theorem State.adjustTicket_of_counting {s : State} {number : Nat} {i : Fin 24} {t : Ticket} (h : s.lookupTicket number = some (i, t))
    (hc : t.counting = true) (c : Fin 16) (g : Grade) (o : Ownership) (delta : Int) :
    s.adjustTicket number c g o delta = (s.putTicket i (t.adjust c g o delta)).reply .f
      ⟨if adjustHeld (t.counter c g o) delta then .clamped else .ok, .counter (adjusted (t.counter c g o) delta)⟩ := by
  unfold State.adjustTicket
  simp only [h, if_pos hc]
  rw [State.modifyTicket_eq_put (State.lookupTicket_eq_some.mp h).1]

@[simp] theorem Ticket.setCounter_flags (t : Ticket) (c : Fin 16) (g : Grade) (o : Ownership) (v : Nat) :
    (t.setCounter c g o v).flags = t.flags := by
  cases g <;> rfl

theorem Ticket.adjust_eq {t : Ticket} {c : Fin 16} {g : Grade} {o : Ownership} {delta : Int} {value : Nat}
    (h : adjusted (t.counter c g o) delta = value) : t.adjust c g o delta = { t.setCounter c g o value with
      flags := { t.flags with countSaturated := t.flags.countSaturated || decide (65535 < (t.counter c g o : Int) + delta) } } := by
  unfold Ticket.adjust
  simp only [h, Ticket.setCounter_flags]

theorem Ticket.addCount_eq (t : Ticket) (c : Fin 16) (g : Grade) (o : Ownership) (q : Nat) : t.addCount c g o q =
    { t.setCounter c g o (min 65535 (t.counter c g o + q)) with
      flags := { t.flags with countSaturated := t.flags.countSaturated || decide (65535 < t.counter c g o + q) } } := by
  unfold Ticket.addCount Ticket.saturates
  simp only [Ticket.setCounter_flags]

theorem Table.getElem?_cells {α : Type} {n : Nat} (t : Table α n) (i : Fin n) : t.cells[i.val]? = some (t.get i) := by
  simp [Table.get, t.size]

theorem lineIndex_code (c : Fin 16) {g : Grade} (hg : g ≠ .scrap) (o : Ownership) :
    4 * c.val + 2 * g.code + o.code = (lineIndex c g o).val := by
  cases g <;> cases o <;> simp_all [lineIndex, Grade.code, Ownership.code]

theorem Ticket.counts_cell (t : Ticket) (c : Fin 16) {g : Grade} (hg : g ≠ .scrap) (o : Ownership) :
    t.counts.cells[4 * c.val + 2 * g.code + o.code]? = some (t.counter c g o) := by
  cases g with
  | scrap => contradiction
  | full => rw [lineIndex_code c (by decide)]; exact Table.getElem?_cells t.counts (lineIndex c .full o)
  | worn => rw [lineIndex_code c (by decide)]; exact Table.getElem?_cells t.counts (lineIndex c .worn o)

/-- Settles O14. -/
theorem countersAreAdjustedAndConfirmed : Obligations.CountersAreAdjustedAndConfirmed := by
  refine ⟨fun s tag number cls grade ownership value delta htake => ⟨?_, fun hbad => ?_⟩, fun s tag number i t htake ht hs => ?_,
    fun t c c' g g' o o' v q => ⟨fun hg => t.counts_cell c hg o, Table.getElem?_cells t.scrap c, fun h => ?_, fun h => ?_, ?_,
      t.addCount_eq c g o q⟩⟩
  · rintro i t c g o ht hs rfl rfl rfl hlow hhigh hvalue above below u
    have hc : t.counting = true := Ticket.counting_iff.mpr (by simpa using hs)
    have hr : (s.received .f 0x18 tag).lookupTicket number = some (i, t) := by rw [State.received_lookupTicket]; exact ht
    have hv := adjusted_eq hvalue
    refine congrArg _ (State.takeRequest_answered htake ?_)
    rw [State.handleAdjust_of_fields hlow hhigh, State.adjustTicket_of_counting hr hc, State.received_putTicket, hv, Ticket.adjust_eq hv,
      adjustHeld, Bool.or_comm (decide _)]
  · exact congrArg _ (State.takeRequest_refused htake (State.handleAdjust_of_bad hbad _ number))
  · have hblocked : t.clearRecount.clearToPrice = false := by
      rcases hs with hs | ⟨-, hs⟩
      · simp [Ticket.clearToPrice, Ticket.clearRecount, hs]
      · rcases hs with hs | hs <;> simp [Ticket.clearToPrice, Ticket.clearRecount, hs]
    exact State.confirmCount_answered ht (Ticket.counting_iff.mpr (hs.imp_right And.left))
      (State.putTicket_priceTest_of_blocked (State.lookupTicket_eq_some.mp ht).1 hblocked) htake
  · rw [Ticket.counter_setCounter, if_pos h]
  · rw [Ticket.counter_setCounter, if_neg h]
  · cases g <;> rfl

/-! ## COLLECT and TICKET_READ (R21, R22) -/

theorem State.handleCollect_of_final {s : State} {number : Nat} {i : Fin 24} {t : Ticket} (h : s.lookupTicket number = some (i, t))
    (hs : t.state = .settled ∨ t.state = .voided) :
    s.handleCollect number = (s.freeTicket i).reply .f ⟨.ok, .ticket number t.final⟩ := by
  unfold State.handleCollect
  simp only [h, if_pos hs]

/-- Settles O15. -/
theorem collectFreesTheSlot : Obligations.CollectFreesTheSlot := by
  intro s tag number i t htake ht
  have hr (kind : Nat) : (s.received .f kind tag).lookupTicket number = some (i, t) := by rw [State.received_lookupTicket]; exact ht
  refine ⟨fun hs => congrArg _ (State.takeRequest_answered htake ?_), congrArg _ (State.takeRequest_answered htake ?_)⟩
  · rw [State.handleCollect_of_final (hr _) (by simpa using hs), State.received_freeTicket]
    rfl
  · rw [hr]

end Sys2Proof.Machine

namespace Sys2Proof.Machine

open Sys2Proof

/-! ## Requests that ask the register (R110) -/

/-- A request whose handling raises an office-side operation asks the register: the case of a command that carries no key. -/
theorem State.asksRegister_of_raise {s : State} {c : Instr} {l : Link} {kind tag : Nat} {op : OfficeOp} {f : State → State}
    (hk : s.keyed c = s) (hc : exec c s = .next (s.takeRequest l kind tag f)) (h : s.canTake l)
    (hf : f (s.received l kind tag) = (s.received l kind tag).raiseOrBusy l op) : s.asksRegister c l kind tag op :=
  State.asksRegister_of (by rw [hk]; exact hc) (by rw [hk]; exact h) (by rw [hk]) (by rw [hk]; exact hf)

theorem State.handleRelease_of_raise {s : State} {hold verdict amended : Nat} {v : Verdict} {am : Option Grade} {j : Fin 64} {h : Hold}
    (hj : s.lookupHold hold = some (j, h)) (hv : releaseVerdict verdict = some v) (ham : amendedGrade amended = some am)
    (hn : releaseNeedsRegister h v am = true) : s.handleRelease hold verdict amended = s.raiseOrBusy .f (.release hold v am) := by
  unfold State.handleRelease
  simp only [hv, ham, hj, if_pos hn]

/-- A RELEASE of a hold that needs the register asks it. -/
theorem State.release_asksRegister {s : State} {tag hold verdict amended : Nat} {v : Verdict} {am : Option Grade} {j : Fin 64} {h : Hold}
    (htake : s.canTake .f) (hj : s.holdsHold hold j h) (hv : releaseVerdict verdict = some v) (ham : amendedGrade amended = some am)
    (hn : releaseNeedsRegister h v am = true) : s.asksRegister (.release tag hold verdict amended) .f 0x20 tag (.release hold v am) :=
  State.asksRegister_of_raise rfl rfl htake (State.handleRelease_of_raise (by rw [State.received_lookupHold]; exact hj) hv ham hn)

theorem releaseNeedsRegister_accept {h : Hold} (hs : h.serial ≠ 0) {am : Option Grade} (hg : resultingGrade h .accept am ≠ .scrap) :
    releaseNeedsRegister h .accept am = true := by
  simp [releaseNeedsRegister, hs, hg]

theorem releaseNeedsRegister_entryMade {h : Hold} (hs : h.serial ≠ 0) (he : h.entryMade = true) (v : Verdict) (am : Option Grade) :
    releaseNeedsRegister h v am = true := by
  simp [releaseNeedsRegister, hs, he]

theorem State.payingTicket_eq_none {s : State} (h : ∀ j u, s.ticketAt j = some u → u.state ≠ .paying) : s.payingTicket = none := by
  unfold State.payingTicket
  refine List.find?_eq_none.mpr (fun j _ => ?_)
  split
  next u hu => simpa using h j u hu
  next => simp

/-- A PAY with a cash quote of 0 raises the settle walk (R163). -/
theorem State.handlePay_of_noCash {s : State} {number : Nat} {i : Fin 24} {t : Ticket} {p : PricedRecord}
    (h : s.lookupTicket number = some (i, t)) (ht : t.state = .priced) (hp : t.priced = some p) (hcash : p.cash = 0)
    (hfree : s.payingTicket = none) : s.handlePay number = s.raiseOrBusy .k (.settle (.pay number)) := by
  unfold State.handlePay State.payPriced
  simp [h, ht, hp, hcash, hfree]

theorem State.handleResolve_of_doubt {s : State} {number amount : Nat} {i : Fin 24} {t : Ticket} (h : s.lookupTicket number = some (i, t))
    (ht : t.state = .doubt) (ha : amount ≤ 99999999) :
    s.handleResolve true number amount = s.raiseOrBusy .f (.settle (.resolve number amount)) := by
  have hm : ¬ maxAmount < amount := by unfold maxAmount; omega
  unfold State.handleResolve
  simp [h, ht, hm]

/-- Settles O16. -/
theorem registerRequestsWaitOrAreRefused : Obligations.RegisterRequestsWaitOrAreRefused := by
  refine ⟨fun s tag number amount cls serials => ⟨fun htake => ⟨fun i t ht => ⟨?_, ?_, fun hs ha => ?_⟩, fun hne hlen h0 => ?_, fun hn => ?_,
      ?_, fun j h hj hs => ⟨fun hg => ?_, fun hc => ?_, fun he => ⟨?_, ?_⟩⟩⟩, fun htake i t p ht hs hp hcash hnone => ?_⟩,
    fun s tag serials htake => ⟨fun hbad => ?_, ?_, ?_⟩⟩
  · refine State.asksRegister_of_raise rfl rfl htake ?_
    simp only [State.received_findTicket, State.findTicket_of_lookup ht]
  · refine State.asksRegister_of_raise rfl rfl htake ?_
    simp only [State.received_findTicket, State.findTicket_of_lookup ht]
  · exact State.asksRegister_of rfl ((State.withKey_canTake s true .f).mpr htake) rfl
      (State.handleResolve_of_doubt (by rw [State.received_lookupTicket]; exact ht) hs ha)
  · refine State.asksRegister_of_raise rfl rfl htake (if_neg ?_)
    simp only [List.length_eq_zero_iff, List.contains_iff_mem]
    rintro (h | h | h)
    · exact hne h
    · omega
    · exact h0 h
  · exact State.asksRegister_of_raise rfl rfl htake (if_neg hn)
  · exact State.asksRegister_of rfl ((State.withKey_canTake s true .f).mpr htake) rfl rfl
  · refine State.release_asksRegister htake hj rfl rfl ?_
    rcases hg with hg | he
    · exact releaseNeedsRegister_accept hs hg
    · exact releaseNeedsRegister_entryMade hs he _ _
  · rcases Nat.le_one_iff_eq_zero_or_eq_one.mp hc with rfl | rfl
    · exact State.release_asksRegister htake hj rfl rfl (releaseNeedsRegister_accept hs (by simp [resultingGrade]))
    · exact State.release_asksRegister htake hj rfl rfl (releaseNeedsRegister_accept hs (by simp [resultingGrade]))
  · exact State.release_asksRegister htake hj rfl rfl (releaseNeedsRegister_entryMade hs he _ _)
  · exact State.release_asksRegister htake hj rfl rfl (releaseNeedsRegister_entryMade hs he _ _)
  · exact State.asksRegister_of_raise rfl rfl htake (State.handlePay_of_noCash (by rw [State.received_lookupTicket]; exact ht) hs hp hcash
      (by rw [State.received_payingTicket]; exact State.payingTicket_eq_none hnone))
  · refine congrArg _ (State.takeRequest_refused htake ?_)
    refine if_pos ?_
    simpa only [List.length_eq_zero_iff, List.contains_iff_mem] using hbad
  · refine congrArg _ (State.takeRequest_refused htake ?_)
    exact if_pos rfl
  · exact congrArg _ (State.takeRequest_refused ((State.withKey_canTake s false .f).mpr htake) rfl)

/-! ## The settle walk (R116) -/

/-- The state in which a requester's walk finds its ticket. -/
def Settler.needs : Settler → TicketState
  | .toAccount _ => .priced
  | .pay _ => .priced
  | .dispensed _ => .paying
  | .resolve _ _ => .doubt

/-- The refusal of a walk whose ticket is gone (R20, R163, R167, R172; log 35). -/
def Settler.gone : Settler → Result
  | .dispensed _ => .wrongState
  | _ => .noSuchTicket

theorem Settler.settling_of_wrongState (w : Settler) {t : Ticket} (h : t.state ≠ w.needs) : w.settling t = none := by
  unfold Settler.settling
  split
  · rfl
  · cases w with
    | toAccount n => exact if_neg h
    | pay n => exact if_neg h
    | dispensed n =>
      dsimp only
      split
      · contradiction
      · rfl
    | resolve n a =>
      dsimp only
      split
      · contradiction
      · rfl

/-- The state after a settle walk that settles its ticket. -/
def State.settledBy (s : State) (number : Nat) (i : Fin 24) (t : Ticket) (g : Settling) : State :=
  { s.putTicket i (t.toSettled g.record) with
    register := s.register.creditTicket s.clock.minute number
    till := s.till.pay g.reservation g.record.cash }

theorem Register.creditTicket_eq (r : Register) (minute number : Nat) : r.creditTicket minute number =
    { r with entries := r.entries.map (fun e => if e.state = .pending number then { e with state := .credited minute } else e) } := by
  have he (e : KegEntry) : ({ (if e.pendingOn number then { e with state := .credited minute } else e) with serial := e.serial } : KegEntry) =
      if e.state = .pending number then { e with state := .credited minute } else e := by
    by_cases h : e.state = .pending number
    · simp [KegEntry.pendingOn, h]
    · simp [KegEntry.pendingOn, h]
  unfold Register.creditTicket Register.update
  simp only [he]

section Walk

variable {s : State} {w : Settler} (hs : s.arbiter.serving = some (.office (.settle w)))
include hs

theorem execSettleWalk_of_serving : execSettleWalk s = .next ((s.carrySettle w).1.finished w.link w.kind (s.carrySettle w).2) := by
  unfold execSettleWalk
  simp only [hs]
  rfl

/-- A walk whose ticket is as its requester needs it settles it. -/
theorem execSettleWalk_settles {i : Fin 24} {t : Ticket} {g : Settling} (ht : s.lookupTicket w.ticket = some (i, t))
    (hg : w.settling t = some g) : execSettleWalk s =
      .next ((s.settledBy w.ticket i t g).finished w.link w.kind ⟨g.result, .paid g.record.cash g.record.credit⟩) := by
  have hc : s.carrySettle w = (s.settledBy w.ticket i t g, ⟨g.result, .paid g.record.cash g.record.credit⟩) := by
    unfold State.carrySettle State.settleTicket
    simp only [ht, hg]
    rw [State.modifyTicket_eq_put (State.lookupTicket_eq_some.mp ht).1]
    rfl
  rw [execSettleWalk_of_serving hs, hc]

theorem execSettleWalk_of_gone (hgone : ∀ j u, s.ticketAt j = some u → s.ticketNumber j ≠ w.ticket) :
    execSettleWalk s = .next (s.finished w.link w.kind ⟨w.gone, .empty⟩) := by
  have hc : s.carrySettle w = (s, ⟨w.gone, .empty⟩) := by
    unfold State.carrySettle
    rw [State.lookupTicket_eq_none.mpr hgone]
    cases w <;> rfl
  rw [execSettleWalk_of_serving hs, hc]

theorem execSettleWalk_of_wrongState {i : Fin 24} {t : Ticket} (ht : s.holdsTicket w.ticket i t) (hw : t.state ∉ [w.needs]) :
    execSettleWalk s = .next (s.finished w.link w.kind ⟨.wrongState, .empty⟩) := by
  have hl : s.lookupTicket w.ticket = some (i, t) := ht
  have hc : s.carrySettle w = (s, ⟨.wrongState, .empty⟩) := by
    unfold State.carrySettle
    simp only [hl, w.settling_of_wrongState (by simpa using hw)]
  rw [execSettleWalk_of_serving hs, hc]

end Walk

/-- Settles O19. -/
theorem settleWalkSettlesOrIsRefused : Obligations.SettleWalkSettlesOrIsRefused := by
  refine ⟨?_, fun s number a i t => ⟨fun hs => ⟨fun hg => ?_, fun ho => ?_⟩, fun hs => ⟨fun hg => ?_, fun ho => ?_⟩, fun hs => ?_,
    fun hs => ⟨fun hg => ?_, fun ho => ?_⟩⟩⟩
  · intro s number a d i t p o ht hp settled
    have hsettled (g : Settling) : s.settledBy number i t g = settled g.record g.reservation := by
      unfold State.settledBy
      rw [Register.creditTicket_eq]
      rfl
    have walk {w : Settler} {g : Settling} (hw : w.ticket = number) (hs : s.arbiter.serving = some (.office (.settle w)))
        (hg : w.settling t = some g) : exec .settleWalk s =
          .next ((settled g.record g.reservation).finished w.link w.kind ⟨g.result, .paid g.record.cash g.record.credit⟩) := by
      rw [← hsettled, ← hw]
      exact execSettleWalk_settles hs (by rw [hw]; exact ht) hg
    refine ⟨fun hstate hs => walk (g := ⟨⟨0, p.net, false, none⟩, 0, .ok⟩) rfl hs ?_,
      fun hstate hs => walk (g := ⟨⟨0, p.net, false, none⟩, 0, .result⟩) rfl hs ?_,
      fun hstate ho hd hs => walk (g := ⟨⟨min d o.reservation, p.net - min d o.reservation, decide (o.reservation < d), none⟩,
        o.reservation, .result⟩) rfl hs ?_,
      fun hstate ho hs => walk (g := ⟨⟨min a o.reservation, p.net - min a o.reservation, false, o.claim⟩, o.reservation,
        if o.reservation < a then .clamped else .ok⟩) rfl hs ?_⟩
    · simp [Settler.settling, hp, hstate]
    · simp [Settler.settling, hp, hstate]
    · simp [Settler.settling, hp, hstate, ho, hd]
    · simp [Settler.settling, hp, hstate, ho]
  · exact execSettleWalk_of_gone hs hg
  · exact execSettleWalk_of_wrongState hs ho.1 ho.2
  · exact execSettleWalk_of_gone hs hg
  · exact execSettleWalk_of_wrongState hs ho.1 ho.2
  · rintro (hg | ho)
    · exact execSettleWalk_of_gone hs hg
    · exact execSettleWalk_of_wrongState hs ho.1 ho.2
  · exact execSettleWalk_of_gone hs hg
  · exact execSettleWalk_of_wrongState hs ho.1 ho.2

/-! ## A RELEASE carried out as it is taken (R83 to R85) -/

theorem State.received_freeHold (s : State) (l : Link) (kind tag : Nat) (j : Fin 64) :
    (s.received l kind tag).freeHold j = (s.freeHold j).received l kind tag := by
  cases l <;> rfl

theorem State.freeHold_eq {s : State} {number : Nat} {j : Fin 64} {h : Hold} (hj : s.lookupHold number = some (j, h)) : s.freeHold j =
    { s with
      holds := s.holds.set j ⟨(s.holds.get j).generation, none⟩
      holdOrder := s.holdOrder.filter (fun n => n != number) } := by
  rw [← (State.lookupHold_eq_some.mp hj).2]
  rfl

theorem State.resolveHold_of_ticket {s : State} {j : Fin 64} {h : Hold} {i : Fin 24} {t : Ticket}
    (ht : s.lookupTicket h.ticket = some (i, t)) (expired : Bool) : s.resolveHold j h expired = ((s.freeHold j).putTicket i
      { t with holds := t.holds - 1, expired := if expired then min 64 (t.expired + 1) else t.expired }).priceTest i := by
  have hf : (s.freeHold j).findTicket h.ticket = some i := State.findTicket_of_lookup ht
  have hi : (s.freeHold j).ticketAt i = some t := (State.lookupTicket_eq_some.mp ht).1
  unfold State.resolveHold
  simp only [hf, bump_eq_min]
  rw [State.modifyTicket_eq_put hi]

theorem State.resolveHold_of {s : State} {j : Fin 64} {h : Hold} {i : Fin 24} {t : Ticket} (ht : s.lookupTicket h.ticket = some (i, t)) :
    s.resolveHold j h false = ((s.freeHold j).putTicket i { t with holds := t.holds - 1 }).priceTest i :=
  State.resolveHold_of_ticket ht false

/-- The pricing test changes no holds outstanding. -/
theorem State.priceTest_keepsHolds (s : State) (i j : Fin 24) :
    ((s.priceTest i).ticketAt j).map Ticket.holds = (s.ticketAt j).map Ticket.holds := by
  cases ht : s.ticketAt i with
  | none => simp [State.priceTest, ht]
  | some t =>
    cases hc : t.clearToPrice with
    | false => rw [State.priceTest_of_blocked ht hc]
    | true =>
      rw [State.priceTest_of_clear ht hc]
      change ((s.modifyTicket i _).ticketAt j).map Ticket.holds = _
      rw [State.modifyTicket_ticketAt]
      split
      · simp [Option.map_map, Function.comp_def, Ticket.priceWith]
      · rfl

theorem State.holdsOutstanding_of {s : State} {i : Fin 24} {n : Nat} (h : (s.ticketAt i).map Ticket.holds = some n) :
    s.holdsOutstanding (s.ticketNumber i) = n := by
  obtain ⟨t, ht, rfl⟩ := Option.map_eq_some_iff.mp h
  have hl : s.lookupTicket (s.ticketNumber i) = some (i, t) := State.lookupTicket_eq_some.mpr ⟨ht, rfl⟩
  unfold State.holdsOutstanding
  rw [hl]

/-- The holds outstanding that the answer of a resolved hold carries. -/
theorem State.resolveHold_holdsOutstanding {s : State} {j : Fin 64} {h : Hold} {i : Fin 24} {t : Ticket}
    (ht : s.lookupTicket h.ticket = some (i, t)) : (s.resolveHold j h false).holdsOutstanding h.ticket = t.holds - 1 := by
  obtain ⟨hi, hn⟩ := State.lookupTicket_eq_some.mp ht
  have hi' : (s.freeHold j).ticketAt i = some t := hi
  rw [State.resolveHold_of ht]
  have hnumber : (((s.freeHold j).putTicket i { t with holds := t.holds - 1 }).priceTest i).ticketNumber i = h.ticket := by
    rw [State.priceTest_ticketNumber, State.putTicket_ticketNumber]
    exact hn
  rw [← hnumber]
  refine State.holdsOutstanding_of ?_
  rw [State.priceTest_keepsHolds, State.putTicket_ticketAt_same hi']
  rfl

/-- The state after a release at once, the ticket's record counted as given. -/
def State.releasedAs (s : State) (j : Fin 64) (i : Fin 24) (u : Ticket) : State :=
  ((s.freeHold j).putTicket i { u with holds := u.holds - 1 }).priceTest i

theorem State.carryRelease_refuse {s : State} {j : Fin 64} {h : Hold} {i : Fin 24} {t : Ticket} (ht : s.lookupTicket h.ticket = some (i, t))
    (he : h.entryMade = false) (am : Option Grade) :
    s.carryRelease j h .refuse am = (s.releasedAs j i t, ⟨.ok, .released h.ticket (t.holds - 1)⟩) := by
  have hr : releaseRegister s.register s.clock.minute h .refuse am = .ok s.register := by simp [releaseRegister, he]
  unfold State.carryRelease
  simp only [hr]
  rw [State.resolveHold_holdsOutstanding ht, State.resolveHold_of ht]
  rfl

@[simp] theorem Ticket.addCount_holds (t : Ticket) (c : Fin 16) (g : Grade) (o : Ownership) (q : Nat) :
    (t.addCount c g o q).holds = t.holds := by
  cases g <;> rfl

theorem State.carryRelease_accept {s : State} {j : Fin 64} {h : Hold} {i : Fin 24} {t : Ticket} (ht : s.lookupTicket h.ticket = some (i, t))
    {am : Option Grade} (hr : releaseRegister s.register s.clock.minute h .accept am = .ok s.register) :
    s.carryRelease j h .accept am = (s.releasedAs j i (t.addCount h.judged (resultingGrade h .accept am) h.ownership h.quantity),
      ⟨if 65535 < t.counter h.judged (resultingGrade h .accept am) h.ownership + h.quantity then .clamped else .ok,
        .released h.ticket (t.holds - 1)⟩) := by
  obtain ⟨hi, hn⟩ := State.lookupTicket_eq_some.mp ht
  have hcounted : (s.putTicket i (t.addCount h.judged (resultingGrade h .accept am) h.ownership h.quantity)).lookupTicket h.ticket =
      some (i, t.addCount h.judged (resultingGrade h .accept am) h.ownership h.quantity) :=
    State.lookupTicket_eq_some.mpr ⟨State.putTicket_ticketAt_same hi, by rw [State.putTicket_ticketNumber]; exact hn⟩
  unfold State.carryRelease
  simp only [hr, ht, State.findTicket_of_lookup ht]
  change ((s.modifyTicket i _).resolveHold j h false, _) = _
  rw [State.modifyTicket_eq_put hi, State.resolveHold_holdsOutstanding hcounted, State.resolveHold_of hcounted]
  refine Prod.ext ?_ (by simp [Ticket.saturates])
  exact congrArg (fun u => State.priceTest u i) (State.putTicket_putTicket (s.freeHold j) i _ _)

theorem State.received_releasedAs (s : State) (l : Link) (kind tag : Nat) (j : Fin 64) (i : Fin 24) (u : Ticket) :
    (s.received l kind tag).releasedAs j i u = (s.releasedAs j i u).received l kind tag := by
  unfold State.releasedAs
  rw [State.received_freeHold, State.received_putTicket, State.received_priceTest]

theorem State.handleRelease_of_unknown {s : State} {hold verdict amended : Nat} (hv : verdict ∈ [0, 2]) (ham : amended ∈ [0, 1, 2, 255])
    (hnone : s.lookupHold hold = none) : s.handleRelease hold verdict amended = s.replyCode .f .noSuchHold := by
  obtain ⟨v, hv⟩ : ∃ v, releaseVerdict verdict = some v := by
    fin_cases hv <;> exact ⟨_, rfl⟩
  obtain ⟨am, ham⟩ : ∃ am, amendedGrade amended = some am := by
    fin_cases ham <;> exact ⟨_, rfl⟩
  unfold State.handleRelease
  simp only [hv, ham, hnone]

theorem State.handleRelease_of_bad {verdict amended : Nat} (h : verdict ∉ [0, 2] ∨ amended ∉ [0, 1, 2, 255]) (s : State) (hold : Nat) :
    s.handleRelease hold verdict amended = s.replyCode .f .malformed := by
  unfold State.handleRelease
  split
  next v am hv ham =>
    exfalso
    rcases h with h | h
    · unfold releaseVerdict at hv
      split at hv <;> simp_all
    · unfold amendedGrade at ham
      split at ham <;> simp_all
  next => rfl

/-- A RELEASE that does not need the register is answered with what its carrying out leaves. -/
theorem State.handleRelease_at_once {s u : State} {hold verdict amended : Nat} {v : Verdict} {am : Option Grade} {j : Fin 64} {h : Hold} {a : Answer}
    (hj : s.lookupHold hold = some (j, h)) (hv : releaseVerdict verdict = some v) (ham : amendedGrade amended = some am)
    (hn : releaseNeedsRegister h v am = false) (hu : s.carryRelease j h v am = (u, a)) :
    s.handleRelease hold verdict amended = u.reply .f a := by
  unfold State.handleRelease
  simp only [hv, ham, hj, hn, hu]
  rfl

theorem resultingGrade_of_code {h : Hold} {amended : Nat} {g : Grade} (hg : amended = g.code ∨ (amended = 255 ∧ g = h.grade)) :
    ∃ am, amendedGrade amended = some am ∧ resultingGrade h .accept am = g := by
  rcases hg with rfl | ⟨rfl, rfl⟩
  · exact ⟨some g, by cases g <;> rfl, rfl⟩
  · exact ⟨none, rfl, rfl⟩

/-- Settles O26. -/
theorem releaseAtOnceResolvesTheHold : Obligations.ReleaseAtOnceResolvesTheHold := by
  intro s tag number verdict amended j h i t g htake freed after
  refine ⟨fun hbad => ?_, fun hv ham hnone => ?_, fun hj ht => ?_⟩
  · exact congrArg _ (State.takeRequest_refused htake (State.handleRelease_of_bad hbad _ number))
  · exact congrArg _ (State.takeRequest_refused htake
      (State.handleRelease_of_unknown hv ham (by rw [State.received_lookupHold]; exact hnone)))
  · have hafter (u : Ticket) : s.releasedAs j i u = after u := by
      unfold State.releasedAs
      rw [State.freeHold_eq hj]
    have hj' : (s.received .f 0x20 tag).lookupHold number = some (j, h) := by rw [State.received_lookupHold]; exact hj
    have ht' : (s.received .f 0x20 tag).lookupTicket h.ticket = some (i, t) := by rw [State.received_lookupTicket]; exact ht
    refine ⟨fun he ham => ?_, fun hg hn hs => ?_⟩
    · obtain ⟨am, ham⟩ : ∃ am, amendedGrade amended = some am := by
        fin_cases ham <;> exact ⟨_, rfl⟩
      refine congrArg _ (State.takeRequest_answered htake ?_)
      rw [State.handleRelease_at_once hj' rfl ham (by simp [releaseNeedsRegister, he]) (State.carryRelease_refuse ht' he am),
        State.received_releasedAs, hafter]
    · obtain ⟨am, ham, rfl⟩ := resultingGrade_of_code hg
      have he : h.entryMade = false := hn.elim hs And.right
      have hn' : releaseNeedsRegister h .accept am = false := by
        rcases hn with hn | hn <;> simp [releaseNeedsRegister, hn, he]
      have hr : releaseRegister (s.received .f 0x20 tag).register (s.received .f 0x20 tag).clock.minute h .accept am =
          .ok (s.received .f 0x20 tag).register := by
        rcases hn with hn | hn <;> simp [releaseRegister, hn, he]
      refine congrArg _ (State.takeRequest_answered htake ?_)
      rw [State.handleRelease_at_once hj' rfl ham hn' (State.carryRelease_accept ht' hr), State.received_releasedAs, hafter]

end Sys2Proof.Machine

namespace Sys2Proof.Machine

open Sys2Proof

/-! ## The window rule and the tests of one slot (R14, R86, R138) -/

theorem atOrAfter_iff {a b : Nat} : atOrAfter a b = true ↔ (a + (1048576 - b % 1048576)) % 1048576 < 524288 := by
  unfold atOrAfter minuteDiff minuteMod
  exact decide_eq_true_iff

theorem State.deadlineTest_of_free {s : State} {i : Fin 24} (h : s.ticketAt i = none) : s.deadlineTest i = s := by
  unfold State.deadlineTest
  rw [h]

theorem State.deadlineTest_of_fires {s : State} {i : Fin 24} {t : Ticket} (h : s.ticketAt i = some t) (hf : t.firesAt s.clock.minute = true) :
    s.deadlineTest i = ((s.putTicket i t.forceClose).closeBatches t.lanes.members .deadline).closeTicket i := by
  unfold State.deadlineTest
  simp only [h, if_pos hf]
  rw [State.modifyTicket_eq_put h]

theorem State.deadlineTest_of_quiet {s : State} {i : Fin 24} {t : Ticket} (h : s.ticketAt i = some t)
    (hf : ¬ t.firesAt s.clock.minute = true) : s.deadlineTest i = s := by
  unfold State.deadlineTest
  simp only [h, if_neg hf]

theorem Ticket.firesAt_iff {t : Ticket} {minute : Nat} : t.firesAt minute = true ↔
    t.state ∈ [.opened, .closing] ∧ t.flags.forcedClose = false ∧ atOrAfter minute t.deadline = true := by
  simp [Ticket.firesAt, Ticket.counting, and_assoc]

theorem State.expireAtTest_of_free {s : State} {j : Fin 64} (h : (s.holds.get j).hold = none) : s.expireAtTest j = s := by
  unfold State.expireAtTest
  rw [h]

/-- A hold expires at the test when its deadline is reached and it made no entry. -/
def Hold.expiresAt (h : Hold) (minute : Nat) : Bool := atOrAfter minute h.deadline && !h.entryMade

theorem State.expireAtTest_of_expires {s : State} {j : Fin 64} {h : Hold} (hj : (s.holds.get j).hold = some h)
    (he : h.expiresAt s.clock.minute = true) : s.expireAtTest j = s.resolveHold j h true := by
  unfold State.expireAtTest
  simp only [hj]
  exact if_pos he

theorem State.expireAtTest_of_stands {s : State} {j : Fin 64} {h : Hold} (hj : (s.holds.get j).hold = some h)
    (he : ¬ h.expiresAt s.clock.minute = true) : s.expireAtTest j = s := by
  unfold State.expireAtTest
  simp only [hj]
  exact if_neg he

/-- The pool after the tests of a list of slots: what stood there, without the holds that expire at the test. -/
theorem State.expireSlots_hold (j : Fin 64) (js : List (Fin 64)) (s : State) : ((js.foldl State.expireAtTest s).holds.get j).hold =
    if j ∈ js then (s.holds.get j).hold.filter (fun h => !h.expiresAt s.clock.minute) else (s.holds.get j).hold := by
  induction js generalizing s with
  | nil => simp
  | cons k ks ih =>
    have hk : ((s.expireAtTest k).holds.get j).hold =
        if k = j then (s.holds.get j).hold.filter (fun h => !h.expiresAt s.clock.minute) else (s.holds.get j).hold :=
      s.expireAtTest_hold k j
    rw [List.foldl_cons, ih, hk, State.expireAtTest_clock]
    by_cases e : k = j
    · subst e
      simp [Option.filter_filter]
    · have e' : ¬ j = k := fun h => e h.symm
      simp [e, e']

theorem State.expireHolds_hold {s : State} {j : Fin 64} {h : Hold} : (s.expireHolds.holds.get j).hold = some h ↔
    (s.holds.get j).hold = some h ∧ (atOrAfter s.clock.minute h.deadline = true → h.entryMade = true) := by
  unfold State.expireHolds
  rw [State.expireSlots_hold, if_pos (List.mem_finRange j), Option.filter_eq_some_iff]
  simp only [Hold.expiresAt, Bool.not_and, Bool.not_not, Bool.or_eq_true, Bool.not_eq_true', and_congr_right_iff]
  intro _
  cases atOrAfter s.clock.minute h.deadline <;> simp

theorem State.reachedTest_eq (s : State) : s.reachedTest =
    match s.tariff.armed with
    | none => s
    | some stamp => if atOrAfter s.clock.minute stamp then s.swap else s := rfl

/-! ## Expiries and the sweep at the register (R86, R124) -/

/-- An operation of the sweep position waits or is served. -/
def Arbiter.carries (a : Arbiter) (op : SweepOp) : Prop := op ∈ a.sweeps ∨ a.serving = some (.sweep op)

theorem Arbiter.serve_carries {a : Arbiter} {op : SweepOp} (h : op ∈ a.sweeps) (p : Position) : (a.serve p).carries op := by
  cases p with
  | lane n => exact .inl h
  | office =>
    cases ho : a.office with
    | nil => simpa [Arbiter.carries, Arbiter.serve, ho] using h
    | cons first rest => simpa [Arbiter.carries, Arbiter.serve, ho] using h
  | sweep =>
    cases hs : a.sweeps with
    | nil => rw [hs] at h; cases h
    | cons first rest =>
      rw [hs] at h
      simpa [Arbiter.carries, Arbiter.serve, hs, eq_comm, or_comm] using h

theorem Arbiter.rotate_carries {a : Arbiter} {op : SweepOp} (h : op ∈ a.sweeps) : a.rotate.carries op := by
  unfold Arbiter.rotate
  split
  · exact Arbiter.serve_carries h _
  · exact .inl h

theorem Arbiter.settle_carries {a : Arbiter} {op : SweepOp} (h : a.carries op) : a.settle.carries op := by
  rcases h with h | h
  · unfold Arbiter.settle
    split
    · exact Arbiter.rotate_carries h
    · exact .inl h
  · rw [Arbiter.settle_of_serving (by rw [h]; rfl)]
    exact .inr h

theorem Arbiter.raiseSweeps_carries {a : Arbiter} {op : SweepOp} {ops : List SweepOp} (h : a.carries op ∨ op ∈ ops) :
    (a.raiseSweeps ops).carries op := by
  refine Arbiter.settle_carries ?_
  rcases h with (h | h) | h
  · exact .inl (List.mem_append_left _ h)
  · exact .inr h
  · exact .inl (List.mem_append_right _ h)

theorem State.raiseSweep_carries {s : State} {op : SweepOp} (h : s.arbiter.carries op ∨ op = .sweep) : s.raiseSweep.arbiter.carries op := by
  unfold State.raiseSweep
  split
  next hc =>
    rcases h with h | rfl
    · exact h
    · exact .inl (List.contains_iff_mem.mp hc)
  next => exact Arbiter.raiseSweeps_carries (h.imp_right (by simp [·]))

theorem State.mem_orderedExpiries {s : State} {op : SweepOp} : op ∈ s.orderedExpiries ↔ op ∈ s.dueExpiries := by
  unfold State.orderedExpiries
  exact (List.perm_insertionSort _ _).mem_iff

/-- Every expiry to raise and a sweep wait or are served after the raising, in whichever order it is made. -/
theorem State.raiseExpiriesAndSweep_carries {s : State} {op : SweepOp} (h : op ∈ s.dueExpiries ∨ op = .sweep) :
    s.raiseExpiriesAndSweep.arbiter.carries op := by
  rw [← State.mem_orderedExpiries] at h
  unfold State.raiseExpiriesAndSweep
  split
  next hnone =>
    rw [hnone] at h
    exact State.raiseSweep_carries (.inr (h.resolve_left List.not_mem_nil))
  next due hdue =>
    split
    · exact Arbiter.raiseSweeps_carries (h.symm.imp_left (fun hop => State.raiseSweep_carries (.inr hop)))
    · exact State.raiseSweep_carries (h.imp_left (fun hop => Arbiter.raiseSweeps_carries (.inr hop)))

theorem State.raiseExpiriesAndSweep_of_none {s : State} (h : s.dueExpiries = []) : s.raiseExpiriesAndSweep = s.raiseSweep := by
  have ho : s.orderedExpiries = [] := List.eq_nil_iff_forall_not_mem.mpr (fun op hop => by
    rw [State.mem_orderedExpiries, h] at hop
    cases hop)
  unfold State.raiseExpiriesAndSweep
  rw [ho]

theorem State.raiseSweep_rest (s : State) : { s.raiseSweep with arbiter := s.arbiter } = s := by
  unfold State.raiseSweep
  split <;> rfl

theorem State.raiseExpiriesAndSweep_rest (s : State) :
    { s.raiseExpiriesAndSweep with arbiter := s.arbiter, freeIndex := s.freeIndex } = s := by
  have hs (u : State) (a : Arbiter) (n : Nat) : { u.raiseSweep with arbiter := a, freeIndex := n } = { u with arbiter := a, freeIndex := n } :=
    congrArg (fun v : State => { v with arbiter := a, freeIndex := n }) u.raiseSweep_rest
  unfold State.raiseExpiriesAndSweep
  split
  · exact hs s _ _
  · split
    · exact hs s _ _
    · exact hs _ _ _

theorem State.mem_dueExpiries {s : State} {number : Nat} : SweepOp.expiry number ∈ s.dueExpiries ↔
    (∃ j h, (s.holds.get j).hold = some h ∧ s.holdNumber j = number ∧ h.entryMade = true ∧ atOrAfter s.clock.minute h.deadline = true)
      ∧ SweepOp.expiry number ∉ s.arbiter.sweeps ∧ s.arbiter.serving ≠ some (.sweep (.expiry number)) := by
  have hraised : s.arbiter.expiryRaised number = false ↔
      SweepOp.expiry number ∉ s.arbiter.sweeps ∧ s.arbiter.serving ≠ some (.sweep (.expiry number)) := by
    simp [Arbiter.expiryRaised]
  unfold State.dueExpiries
  rw [← hraised]
  simp only [List.mem_map, List.mem_filter, List.mem_finRange, true_and, SweepOp.expiry.injEq]
  constructor
  · rintro ⟨j, hj, rfl⟩
    split at hj
    · cases hj
    next h hh =>
      simp only [Bool.and_eq_true, Bool.not_eq_true'] at hj
      obtain ⟨⟨hd, he⟩, hr⟩ := hj
      exact ⟨⟨j, h, hh, rfl, he, hd⟩, hr⟩
  · rintro ⟨⟨j, h, hh, rfl, he, hd⟩, hr⟩
    exact ⟨j, by simp [hh, he, hd, hr], rfl⟩

/-- Settles O35. -/
theorem boundaryTestsAreMade : Obligations.BoundaryTestsAreMade := by
  intro s i k t u j h number reached fires freed swapped
  have hreached (stamp : Nat) : atOrAfter s.clock.minute stamp = true ↔ reached stamp := atOrAfter_iff
  have hfires : t.firesAt s.clock.minute = true ↔ fires := by rw [Ticket.firesAt_iff, hreached]
  have hexpires : h.expiresAt s.clock.minute = true ↔ reached h.deadline ∧ h.entryMade = false := by
    rw [Hold.expiresAt, Bool.and_eq_true, hreached, Bool.not_eq_true']
  refine ⟨⟨rfl, rfl⟩, State.deadlineTest_of_free, State.expireAtTest_of_free, ?_, fun ht => ⟨fun hf => ?_, fun hf => ?_⟩,
    fun hj hk => ⟨fun hd he => ?_, fun hstands => ?_⟩, ?_, ?_, fun hnone => ?_, fun hdue => ?_, ?_, s.raiseExpiriesAndSweep_rest⟩
  · rw [State.expireHolds_hold, hreached]
  · exact State.deadlineTest_of_fires ht (hfires.mpr hf)
  · exact State.deadlineTest_of_quiet ht (mt hfires.mp hf)
  · exact (State.expireAtTest_of_expires hj (hexpires.mpr ⟨hd, he⟩)).trans (State.resolveHold_of_ticket hk true)
  · refine State.expireAtTest_of_stands hj (mt hexpires.mp (fun ⟨hd, he⟩ => ?_))
    rcases hstands with hs | hs
    · exact hs hd
    · rw [hs] at he; cases he
  · simp only [State.mem_dueExpiries, hreached]
  · have hswap : s.swap = swapped := rfl
    rw [State.reachedTest_eq, hswap]
    cases s.tariff.armed with
    | none => rfl
    | some stamp => exact if_congr (hreached stamp) rfl rfl
  · rw [State.raiseExpiriesAndSweep_of_none hnone]
    exact if_congr List.contains_iff_mem rfl rfl
  · exact State.raiseExpiriesAndSweep_carries (.inl hdue)
  · exact State.raiseExpiriesAndSweep_carries (.inr rfl)

end Sys2Proof.Machine

namespace Sys2Proof.Machine

open Sys2Proof

/-! ## BIND and UNBIND (R37 to R39) -/

theorem State.received_modifyLane (s : State) (l : Link) (kind tag : Nat) (n : Lane) (f : Intake → Intake) :
    (s.received l kind tag).modifyLane n f = (s.modifyLane n f).received l kind tag := by
  cases l <;> rfl

theorem LaneState.counts_iff {st : LaneState} : st.counts = true ↔ st ∈ [.counting, .sensed, .muted] := by
  cases st <;> decide

section BindTests

variable {s : State} {n : Lane} {number : Nat}

theorem State.handleBind_of_notCounting (h : ¬ (s.lane n).state.counts = true) : s.handleBind n number = s.replyCode (.lane n) .notCounting := by
  unfold State.handleBind
  exact if_neg h

theorem State.handleBind_of_busy {b : Batch} (h : (s.lane n).state.counts = true) (hb : (s.lane n).batch = some b)
    (hbusy : b.reason ≠ none ∨ b.ticket ≠ number) : s.handleBind n number = s.replyCode (.lane n) .busy := by
  unfold State.handleBind
  simp only [if_pos h, hb]
  split
  · rfl
  next hactive =>
    refine if_neg (hbusy.resolve_left (not_not.mpr ?_))
    simpa [Batch.active] using hactive

theorem State.handleBind_of_same {b : Batch} (h : (s.lane n).state.counts = true) (hb : (s.lane n).batch = some b)
    (hr : b.reason = none) (ht : b.ticket = number) : s.handleBind n number = s.reply (.lane n) ⟨.bound, .bound number⟩ := by
  unfold State.handleBind
  simp [h, hb, hr, ht, Batch.active]

theorem State.handleBind_of_free (h : (s.lane n).state.counts = true) (hb : (s.lane n).batch = none) :
    s.handleBind n number = s.bindTicket n number := by
  unfold State.handleBind
  simp only [if_pos h, hb]

theorem State.bindTicket_of_unknown (h : s.lookupTicket number = none) : s.bindTicket n number = s.replyCode (.lane n) .noSuchTicket := by
  unfold State.bindTicket
  rw [h]

variable {k : Fin 24} {t : Ticket} (h : s.lookupTicket number = some (k, t))
include h

theorem State.bindTicket_of_wrongState (ht : t.state ≠ .opened) : s.bindTicket n number = s.replyCode (.lane n) .wrongState := by
  unfold State.bindTicket
  simp only [h, if_pos ht]

theorem State.bindTicket_of_busy (ht : t.state = .opened) (hl : 2 ≤ t.lanes.card) :
    s.bindTicket n number = s.replyCode (.lane n) .ticketBusy := by
  unfold State.bindTicket
  simp [h, ht, hl]

/-- A BIND that passes its tests joins the lane to the ticket and makes the batch record (R38). -/
theorem State.bindTicket_joins (ht : t.state = .opened) (hl : t.lanes.card < 2) : s.bindTicket n number =
    ((s.putTicket k { t with lanes := t.lanes.add n }).modifyLane n
      (fun i => { i with batch := some ⟨number, i.resolved, s.clock.minute, 0, 0, false, none⟩ })).reply (.lane n) ⟨.bound, .bound number⟩ := by
  unfold State.bindTicket
  simp only [h, if_neg (not_not.mpr ht), if_neg (Nat.not_le.mpr hl)]
  rw [State.modifyTicket_eq_put (State.lookupTicket_eq_some.mp h).1]
  rfl

end BindTests

section UnbindTests

variable {s : State} {n : Lane}

theorem State.handleUnbind_of_notCounting (h : ¬ (s.lane n).state.counts = true) : s.handleUnbind n = s.replyCode (.lane n) .notCounting := by
  unfold State.handleUnbind
  exact if_neg h

variable (h : (s.lane n).state.counts = true)
include h

theorem State.handleUnbind_of_unbound (hb : (s.lane n).batch = none) : s.handleUnbind n = s.replyCode (.lane n) .wrongState := by
  unfold State.handleUnbind
  simp only [if_pos h, hb]

theorem State.handleUnbind_of_closed {b : Batch} (hb : (s.lane n).batch = some b) (hr : b.reason ≠ none) :
    s.handleUnbind n = s.replyCode (.lane n) .ok := by
  have ha : ¬ b.active = true := by simpa [Batch.active] using hr
  unfold State.handleUnbind
  simp only [if_pos h, hb, if_neg ha]

theorem State.handleUnbind_of_active {b : Batch} (hb : (s.lane n).batch = some b) (hr : b.reason = none) :
    s.handleUnbind n = (s.replyCode (.lane n) .ok).closeBatch n .unbind := by
  have ha : b.active = true := by simp [Batch.active, hr]
  unfold State.handleUnbind
  simp only [if_pos h, hb, if_pos ha]

end UnbindTests

/-- Settles O41. -/
theorem bindJoinsAndUnbindCloses : Obligations.BindJoinsAndUnbindCloses := by
  refine ⟨fun s n tag number b k t htake => ?_, fun s n tag b htake => ?_⟩
  · intro i counting req refused bound
    have hcounts : ((s.received (.lane n) 0x03 tag).lane n).state.counts = true ↔ counting := by
      rw [State.received_lane]; exact LaneState.counts_iff
    have refuse {r : Result} (hf : (s.received (.lane n) 0x03 tag).handleBind n number = (s.received (.lane n) 0x03 tag).replyCode (.lane n) r) :
        req = .next (refused r) := congrArg _ (State.takeRequest_refused htake hf)
    have free (hc : counting) (hb : i.batch = none) :
        (s.received (.lane n) 0x03 tag).handleBind n number = (s.received (.lane n) 0x03 tag).bindTicket n number :=
      State.handleBind_of_free (hcounts.mpr hc) (by rw [State.received_lane]; exact hb)
    refine ⟨fun hc => refuse ?_, fun hc hb hbusy => refuse ?_, fun hc hb hr ht => ?_, fun hc hb => ⟨fun hgone => refuse ?_, fun hk => ?_⟩⟩
    · exact State.handleBind_of_notCounting (mt hcounts.mp hc)
    · exact State.handleBind_of_busy (hcounts.mpr hc) (by rw [State.received_lane]; exact hb) hbusy
    · exact congrArg _ (State.takeRequest_answered htake
        (State.handleBind_of_same (hcounts.mpr hc) (by rw [State.received_lane]; exact hb) hr ht))
    · refine (free hc hb).trans (State.bindTicket_of_unknown ?_)
      rw [State.received_lookupTicket]; exact State.lookupTicket_eq_none.mpr hgone
    · have hk' : (s.received (.lane n) 0x03 tag).lookupTicket number = some (k, t) := by rw [State.received_lookupTicket]; exact hk
      refine ⟨fun hstate => refuse ?_, fun hstate hl => refuse ?_, fun hstate hl => congrArg _ (State.takeRequest_answered htake ?_)⟩
      · exact (free hc hb).trans (State.bindTicket_of_wrongState hk' hstate)
      · exact (free hc hb).trans (State.bindTicket_of_busy hk' hstate hl)
      · rw [free hc hb, State.bindTicket_joins hk' hstate hl, State.received_putTicket, State.received_modifyLane, State.received_clock]
  · intro i counting req
    have hcounts : ((s.received (.lane n) 0x04 tag).lane n).state.counts = true ↔ counting := by
      rw [State.received_lane]; exact LaneState.counts_iff
    have hbatch {o : Option Batch} (hb : i.batch = o) : ((s.received (.lane n) 0x04 tag).lane n).batch = o := by
      rw [State.received_lane]; exact hb
    refine ⟨fun hc => ?_, fun hc hb => ?_, fun hc hb hr => ?_, fun hc hb hr => ?_⟩
    · exact congrArg _ (State.takeRequest_refused htake (State.handleUnbind_of_notCounting (mt hcounts.mp hc)))
    · exact congrArg _ (State.takeRequest_refused htake (State.handleUnbind_of_unbound (hcounts.mpr hc) (hbatch hb)))
    · exact congrArg _ (State.takeRequest_answered htake (State.handleUnbind_of_closed (hcounts.mpr hc) (hbatch hb) hr))
    · refine congrArg _ ((State.takeRequest_of_canTake htake _ _ _).trans ?_)
      exact congrArg (fun v => State.heardLane v (.lane n)) (State.handleUnbind_of_active (hcounts.mpr hc) (hbatch hb) hr)

end Sys2Proof.Machine

namespace Sys2Proof.Machine

open Sys2Proof

/-! ## The close of a batch (R40, R41) -/

theorem Intake.activeBatch_of_active {i : Intake} {b : Batch} (hb : i.batch = some b) (hr : b.reason = none) : i.activeBatch = some b := by
  simp [Intake.activeBatch, hb, Batch.active, hr]

theorem Intake.activeBatch_of_closed {i : Intake} {b : Batch} (hb : i.batch = some b) (hr : b.reason ≠ none) : i.activeBatch = none := by
  simpa [Intake.activeBatch, hb, Batch.active, Option.isSome_iff_ne_none] using hr

theorem Entry.ofBatch_iff {number : Nat} {e : Entry} : e.ofBatch number = true ↔ e.ticket = some number := by
  simp [Entry.ofBatch]

theorem Intake.holdsEntryOf_iff {i : Intake} {number : Nat} : i.holdsEntryOf number = true ↔
    (∃ e ∈ i.queue, e.ticket = some number) ∨ ∃ e ∈ i.landing, e.ticket = some number := by
  simp [Intake.holdsEntryOf, Entry.ofBatch_iff, Option.any_eq_true]

theorem State.closeBatch_of_closed {s : State} {n : Lane} {b : Batch} (hb : (s.lane n).batch = some b) (hr : b.reason ≠ none)
    (why : CloseReason) : s.closeBatch n why = s := by
  unfold State.closeBatch
  rw [Intake.activeBatch_of_closed hb hr]

/-- The reason of a close written in the batch record (R40). -/
def State.withReason (s : State) (n : Lane) (b : Batch) (why : CloseReason) : State :=
  s.modifyLane n (fun i => { i with batch := some { b with reason := some why } })

section Close

variable {s : State} {n : Lane} {b : Batch} (hb : (s.lane n).batch = some b) (hr : b.reason = none) (why : CloseReason)
include hb hr

theorem State.closeBatch_of_waiting (hw : (s.lane n).holdsEntryOf b.ticket = true) :
    s.closeBatch n why = (s.withReason n b why).modifyLane n (fun i => i.markBatchEnd b.ticket) := by
  unfold State.closeBatch
  simp only [Intake.activeBatch_of_active hb hr, if_pos hw]
  rfl

theorem State.closeBatch_of_idle (hw : ¬ (s.lane n).holdsEntryOf b.ticket = true) :
    s.closeBatch n why = (s.withReason n b why).releaseBatch n false := by
  unfold State.closeBatch
  simp only [Intake.activeBatch_of_active hb hr, if_neg hw]
  rfl

end Close

theorem Intake.markBatchEnd_landing {i : Intake} {e : Entry} {number : Nat} (hl : i.landing = some e) (he : e.ticket = some number) :
    i.markBatchEnd number = { i with landing := some { e with batchEnd := true } } := by
  simp [Intake.markBatchEnd, hl, Entry.ofBatch_iff.mpr he]

/-- The mark is put on the last entry that passes the test. -/
theorem markLast_append {test : Entry → Bool} {e : Entry} (he : test e = true) {after : List Entry} (ha : ∀ x ∈ after, test x = false)
    (before : List Entry) : markLast test (before ++ e :: after) = before ++ { e with batchEnd := true } :: after := by
  induction before with
  | nil =>
    have hnone : after.any test = false := by simpa using ha
    simp [markLast, hnone, he]
  | cons x xs ih => simp [markLast, ih, he]

theorem Intake.markBatchEnd_queue {i : Intake} {e : Entry} {number : Nat} {before after : List Entry}
    (hl : ∀ e ∈ i.landing, ¬ e.ticket = some number) (hq : i.queue = before ++ e :: after) (he : e.ticket = some number)
    (ha : ∀ x ∈ after, ¬ x.ticket = some number) :
    i.markBatchEnd number = { i with queue := before ++ { e with batchEnd := true } :: after } := by
  have hlanding : ¬ i.landing.any (Entry.ofBatch number) = true := by
    simpa [Option.any_eq_true, Entry.ofBatch_iff] using hl
  have hafter (x : Entry) (hx : x ∈ after) : Entry.ofBatch number x = false :=
    Bool.not_eq_true _ ▸ mt Entry.ofBatch_iff.mp (ha x hx)
  unfold Intake.markBatchEnd
  rw [if_neg hlanding, hq, markLast_append (Entry.ofBatch_iff.mpr he) hafter]

/-! ## The release of a batch (R43, R44) -/

/-- What a failed reconciliation is, for a batch closed for a reason (R44). -/
theorem reconcileFails_closed {b : Batch} {why : CloseReason} (hr : b.reason = some why) (tolerance : Nat) : reconcileFails tolerance b =
    decide (b.frames + (if b.mode = some .tally then 0 else tolerance) < b.gate
      ∨ b.gate + (if b.mode = some .tally then 0 else tolerance) < b.frames ∨ b.gap = true ∨ why = .down ∨ why = .refused) := by
  rw [Bool.eq_iff_iff, decide_eq_true_iff]
  simp only [reconcileFails, hr, Bool.or_eq_true, decide_eq_true_iff, beq_iff_eq, Option.some.injEq, or_assoc]
  refine or_congr ?_ (or_congr ?_ Iff.rfl) <;> omega

section Release

variable {s : State} {n : Lane} {number : Nat}

theorem State.ticketRelease_of_gone (h : s.lookupTicket number = none) (failed : Bool) : s.ticketRelease n number failed = s := by
  unfold State.ticketRelease
  rw [h]

theorem State.ticketRelease_of_unlisted {k : Fin 24} {t : Ticket} (h : s.lookupTicket number = some (k, t)) (hl : t.lanes.mem n = false)
    (failed : Bool) : s.ticketRelease n number failed = s := by
  unfold State.ticketRelease
  simp [h, hl]

theorem State.ticketRelease_of_listed {k : Fin 24} {t : Ticket} (h : s.lookupTicket number = some (k, t)) (hl : t.lanes.mem n = true)
    (failed : Bool) : s.ticketRelease n number failed = (s.putTicket k
      { t with lanes := t.lanes.drop n, flags := { t.flags with recount := t.flags.recount || failed } }).priceTest k := by
  unfold State.ticketRelease
  simp only [h, if_pos hl]
  rw [State.modifyTicket_eq_put (State.lookupTicket_eq_some.mp h).1]

theorem State.ticketRelease_lane (s : State) (n m : Lane) (number : Nat) (failed : Bool) : (s.ticketRelease n number failed).lane m = s.lane m := by
  simp [State.lane]

variable {b : Batch} {why : CloseReason} {lost : Bool} (hb : (s.lane n).batch = some b) (hr : b.reason = some why)
include hb hr

/-- A release that sends no UNBOUND (R43). -/
theorem State.releaseBatch_silent (hs : why = .down ∨ lost = true ∨ (s.lane n).state = .down) :
    s.releaseBatch n lost = (s.ticketRelease n b.ticket (reconcileFails s.settings.tolerance b)).modifyLane n
      (fun i => { i with batch := none }) := by
  unfold State.releaseBatch
  simp only [hb, hr]
  refine congrArg (fun u => State.modifyLane u n _) ?_
  split
  · contradiction
  · rfl
  next r hne heq =>
    obtain rfl : why = r := Option.some.inj heq
    have hs : lost = true ∨ (s.lane n).state = .down := hs.resolve_left (fun h => hne (h ▸ rfl))
    split
    · rfl
    next hl => exact State.sendOwn_of_down (by rw [State.ticketRelease_lane]; exact hs.resolve_left hl) _

/-- A release that sends its UNBOUND (R43). -/
theorem State.releaseBatch_sends (hw : why ≠ .down) (hl : lost = false) (hs : (s.lane n).state ≠ .down) :
    s.releaseBatch n lost = ((s.ticketRelease n b.ticket (reconcileFails s.settings.tolerance b)).sentOrLost n
      (.unbound b.ticket why b.boundAt b.gate b.frames (reconcileFails s.settings.tolerance b))).modifyLane n
        (fun i => { i with batch := none }) := by
  unfold State.releaseBatch
  simp only [hb, hr]
  refine congrArg (fun u => State.modifyLane u n _) ?_
  exact (if_neg (by simp [hl])).trans (State.sendOwn_of_up (by rw [State.ticketRelease_lane]; exact hs) _)

end Release

/-! ## The removal of a head (R33, R34, R41) -/

section Flow

variable {s : State} {n : Lane}

theorem State.flowAfterInsertion_of_quiet (h : ¬ ((s.lane n).state ≠ .down ∧ (s.lane n).slow = false
    ∧ s.settings.highMark ≤ (s.lane n).queue.length)) : s.flowAfterInsertion n = s := by
  unfold State.flowAfterInsertion
  exact if_neg h

theorem State.flowAfterInsertion_of_slows (h : (s.lane n).state ≠ .down ∧ (s.lane n).slow = false
    ∧ s.settings.highMark ≤ (s.lane n).queue.length) :
    s.flowAfterInsertion n = (s.sentOrLost n (.flow true)).modifyLane n (fun i => { i with slow := true }) := by
  unfold State.flowAfterInsertion
  dsimp only
  rw [if_pos h, State.sendOwn_of_up h.1]

theorem State.flowAfterRemoval_of_quiet (h : ¬ ((s.lane n).state ≠ .down ∧ (s.lane n).slow = true
    ∧ (s.lane n).queue.length + 4 ≤ s.settings.highMark)) : s.flowAfterRemoval n = s := by
  unfold State.flowAfterRemoval
  exact if_neg h

theorem State.flowAfterRemoval_of_goes (h : (s.lane n).state ≠ .down ∧ (s.lane n).slow = true
    ∧ (s.lane n).queue.length + 4 ≤ s.settings.highMark) :
    s.flowAfterRemoval n = (s.sentOrLost n (.flow false)).modifyLane n (fun i => { i with slow := false }) := by
  unfold State.flowAfterRemoval
  dsimp only
  rw [if_pos h, State.sendOwn_of_up h.1]

end Flow

/-- The flow tests after a removal: an insertion by the landing entry first (R33, R34). -/
def State.pacedRemoval (s : State) (n : Lane) : State :=
  (if (s.lane n).landing.isSome then (s.modifyLane n Intake.removeHead).flowAfterInsertion n
    else s.modifyLane n Intake.removeHead).flowAfterRemoval n

theorem State.removeHead_eq (s : State) (n : Lane) (e : Entry) :
    s.removeHead n e = if e.batchEnd then (s.pacedRemoval n).releaseBatch n e.lostLink else s.pacedRemoval n := rfl

section Paced

variable {s : State} {n : Lane}

/-- An insertion fills the lane: the queue reaches the high mark by the landing entry (R33). -/
def Intake.slows (i : Intake) (highMark : Nat) : Prop := i.landing ≠ none ∧ i.slow = false ∧ highMark ≤ i.removeHead.queue.length

/-- A removal clears the lane: the queue is four below the high mark (R34). -/
def Intake.goes (i : Intake) (highMark : Nat) : Prop := i.slow = true ∧ i.removeHead.queue.length + 4 ≤ highMark

theorem State.flowAfterInsertion_of_not_slows (h : (s.lane n).state = .down ∨ ¬ (s.lane n).slows s.settings.highMark)
    (hl : (s.lane n).landing.isSome = true) :
    (s.modifyLane n Intake.removeHead).flowAfterInsertion n = s.modifyLane n Intake.removeHead := by
  refine State.flowAfterInsertion_of_quiet ?_
  rw [State.modifyLane_lane_same]
  rintro ⟨hup, hslow, hmark⟩
  exact h.elim hup (fun h => h ⟨Option.isSome_iff_ne_none.mp hl, hslow, hmark⟩)

theorem State.pacedRemoval_of_not_slows (h : (s.lane n).state = .down ∨ ¬ (s.lane n).slows s.settings.highMark) :
    s.pacedRemoval n = (s.modifyLane n Intake.removeHead).flowAfterRemoval n := by
  unfold State.pacedRemoval
  split
  next hl => rw [State.flowAfterInsertion_of_not_slows h hl]
  next => rfl

theorem State.pacedRemoval_quiet (h : (s.lane n).state = .down ∨ (¬ (s.lane n).slows s.settings.highMark ∧ ¬ (s.lane n).goes s.settings.highMark)) :
    s.pacedRemoval n = s.modifyLane n Intake.removeHead := by
  rw [State.pacedRemoval_of_not_slows (h.imp_right And.left)]
  refine State.flowAfterRemoval_of_quiet ?_
  rw [State.modifyLane_lane_same]
  rintro ⟨hup, hslow, hmark⟩
  exact h.elim hup (fun h => h.2 ⟨hslow, hmark⟩)

theorem State.pacedRemoval_goes (hup : (s.lane n).state ≠ .down) (h : (s.lane n).goes s.settings.highMark) : s.pacedRemoval n =
    ((s.modifyLane n Intake.removeHead).sentOrLost n (.flow false)).modifyLane n (fun i => { i with slow := false }) := by
  obtain ⟨hslow, hmark⟩ := h
  rw [State.pacedRemoval_of_not_slows (.inr (fun hs => Bool.false_ne_true (hs.2.1.symm.trans hslow)))]
  refine State.flowAfterRemoval_of_goes ?_
  rw [State.modifyLane_lane_same]
  exact ⟨hup, hslow, hmark⟩

theorem State.pacedRemoval_slows (hup : (s.lane n).state ≠ .down) (h : (s.lane n).slows s.settings.highMark) : s.pacedRemoval n =
    ((s.modifyLane n Intake.removeHead).sentOrLost n (.flow true)).modifyLane n (fun i => { i with slow := true }) := by
  obtain ⟨hl, hslow, hmark⟩ := h
  have hfills : (s.modifyLane n Intake.removeHead).flowAfterInsertion n =
      ((s.modifyLane n Intake.removeHead).sentOrLost n (.flow true)).modifyLane n (fun i => { i with slow := true }) := by
    refine State.flowAfterInsertion_of_slows ?_
    rw [State.modifyLane_lane_same]
    exact ⟨hup, hslow, hmark⟩
  unfold State.pacedRemoval
  rw [if_pos (Option.isSome_iff_ne_none.mpr hl), hfills]
  refine State.flowAfterRemoval_of_quiet (fun ⟨_, _, hclear⟩ => ?_)
  have hq : ((((s.modifyLane n Intake.removeHead).sentOrLost n (.flow true)).modifyLane n (fun i => { i with slow := true })).lane n).queue =
      (s.lane n).removeHead.queue := by simp [State.sentOrLost]
  rw [hq] at hclear
  exact absurd (hclear.trans hmark) (by omega)

end Paced

/-- Settles O42. -/
theorem batchIsReleasedAtItsEnd : Obligations.BatchIsReleasedAtItsEnd := by
  refine ⟨?_, ?_⟩
  · intro s n why b k t lost e before after hb i ofBatch waits tolerance fails closed dropped gone unbound marked
    have hbatch : (closed.lane n).batch = some { b with reason := some why } := by simp [closed]
    have hstate : (closed.lane n).state = i.state := by simp [closed, i]
    have hwaits : i.holdsEntryOf b.ticket = true ↔ waits := Intake.holdsEntryOf_iff
    have hfails (c : Batch) (hc : c = { b with reason := some why }) : reconcileFails s.settings.tolerance c = fails := by
      subst hc; exact reconcileFails_closed rfl _
    have hsame (hr : b.reason = some why) : b = { b with reason := some why } := by rw [← hr]
    have listed (hk : s.holdsTicket b.ticket k t) (hl : t.lanes.mem n = true) : s.ticketRelease n b.ticket fails = dropped s :=
      State.ticketRelease_of_listed hk hl _
    have unlisted (hgone : s.lookupTicket b.ticket = none ∨ (s.holdsTicket b.ticket k t ∧ t.lanes.mem n = false)) :
        s.ticketRelease n b.ticket fails = s := by
      rcases hgone with hgone | ⟨hk, hl⟩
      · exact State.ticketRelease_of_gone hgone _
      · exact State.ticketRelease_of_unlisted hk hl _
    have closedListed (hk : s.holdsTicket b.ticket k t) (hl : t.lanes.mem n = true) : closed.ticketRelease n b.ticket fails = dropped closed :=
      State.ticketRelease_of_listed (s := closed) hk hl _
    refine ⟨fun hr => State.closeBatch_of_closed hb hr why, fun hr hl he => ?_, fun hr hl hq he ha => ?_,
      fun hr hw hk hl => ⟨fun hs => ?_, fun hdown hup => ?_⟩, fun hr hk hl => ⟨fun hs => ?_, fun hdown hlost hup => ?_⟩,
      fun hr hgone => ⟨fun hs => ?_, fun hdown hlost hup => ?_⟩⟩
    · rw [State.closeBatch_of_waiting hb hr why (hwaits.mpr (.inr ⟨e, hl, he⟩))]
      refine State.modifyLane_congr (Intake.markBatchEnd_landing ?_ he)
      simpa [State.withReason] using hl
    · rw [State.closeBatch_of_waiting hb hr why (hwaits.mpr (.inl ⟨e, by simp [hq], he⟩))]
      refine State.modifyLane_congr (Intake.markBatchEnd_queue ?_ ?_ he ha)
      · simpa [State.withReason] using hl
      · simpa [State.withReason] using hq
    · rw [State.closeBatch_of_idle hb hr why (mt hwaits.mp hw)]
      have hs' : why = .down ∨ false = true ∨ (closed.lane n).state = .down := hs.imp_right (fun h => .inr (hstate.trans h))
      exact (State.releaseBatch_silent hbatch rfl hs').trans (congrArg gone (by rw [← closedListed hk hl, ← hfails _ rfl]; rfl))
    · rw [State.closeBatch_of_idle hb hr why (mt hwaits.mp hw)]
      exact (State.releaseBatch_sends hbatch rfl hdown rfl (hstate ▸ hup)).trans
        (congrArg gone (by rw [← closedListed hk hl]; simp only [unbound, ← hfails _ rfl]; rfl))
    · rw [State.releaseBatch_silent hb hr hs, hfails b (hsame hr), listed hk hl]
    · rw [State.releaseBatch_sends hb hr hdown hlost hup, hfails b (hsame hr), listed hk hl]
    · rw [State.releaseBatch_silent hb hr hs, hfails b (hsame hr), unlisted hgone]
    · rw [State.releaseBatch_sends hb hr hdown hlost hup, hfails b (hsame hr), unlisted hgone]
  · intro s n e i queue moved paced flow slows goes
    have hpaced {u : State} (h : s.pacedRemoval n = u) : paced u := by rw [← h]; exact s.removeHead_eq n e
    have hmoved : s.modifyLane n Intake.removeHead = moved := State.modifyLane_congr rfl
    exact ⟨fun h => hpaced ((State.pacedRemoval_quiet h).trans hmoved),
      fun hup h => hpaced ((State.pacedRemoval_slows hup h).trans (by rw [hmoved])),
      fun hup h => hpaced ((State.pacedRemoval_goes hup h).trans (by rw [hmoved]))⟩

end Sys2Proof.Machine

namespace Sys2Proof.Machine

open Sys2Proof

/-! ## A HOLD claims its record (R75 to R82) -/

/-- The record a HOLD makes, and the ticket it counts on, written out. -/
theorem State.makeHold_eq {s : State} {c : Case} {t : Ticket} (h : s.ticketAt c.slot = some t) (j : Fin 64) (cause : Cause) (also : List Cause)
    (entryMade : Bool) : s.makeHold j c cause also entryMade =
      { s.putTicket c.slot { t with holds := t.holds + 1 } with
        holds := s.holds.set j ⟨((s.holds.get j).generation + 1) % 256, some
          { ticket := c.number, lane := c.lane, sequence := c.entry.item.sequence, cls := c.entry.item.cls, judged := c.cls, grade := c.grade
            quantity := c.entry.item.quantity, owner := c.entry.item.owner, ownership := c.ownership, serial := c.entry.item.serial
            cause := cause, also := also, entryMade := entryMade, held := s.clock.minute
            deadline := (s.clock.minute + s.settings.holdTime) % 1048576 }⟩
        holdOrder := s.holdOrder ++ [((s.holds.get j).generation + 1) % 256 * 256 + j.val] } := by
  rw [← State.modifyTicket_eq_put h (fun t => { t with holds := t.holds + 1 })]
  rfl

section Judge

variable {s : State} {c : Case} {cause : Cause} {j : Fin 64}

/-- The number of the hold a HOLD makes in a slot (R81). -/
def State.nextHoldNumber (s : State) (j : Fin 64) : Nat := ((s.holds.get j).generation + 1) % 256 * 256 + j.val

theorem State.judgeHold_of_full (h : s.freeHoldSlot = none) (also : List Cause) :
    s.judgeHold c cause also = (s, c.frame .refuse (some .holdPoolFull) (also ++ [.holdPoolFull]) 0xFFFF) := by
  unfold State.judgeHold
  rw [h]
  rfl

variable (h : s.freeHoldSlot = some j) (also : List Cause)
include h

theorem State.judgeHold_of_noEntry (he : ¬ (cause = .watchHold ∧ itemInRegister c.entry.item = true ∧ c.found = none)) :
    s.judgeHold c cause also = (s.makeHold j c cause also false, c.frame .hold (some cause) also (s.nextHoldNumber j)) := by
  unfold State.judgeHold
  simp only [h]
  exact if_neg he

theorem State.judgeHold_of_entry {r : Register} (he : cause = .watchHold ∧ itemInRegister c.entry.item = true ∧ c.found = none)
    (hr : s.register.insert s.clock.minute c.keg = some r) : s.judgeHold c cause also =
      (({ s with register := r } : State).makeHold j c cause also true, c.frame .hold (some cause) also (s.nextHoldNumber j)) := by
  unfold State.judgeHold
  simp only [h, if_pos he, hr]
  rfl

theorem State.judgeHold_of_registerFull (he : cause = .watchHold ∧ itemInRegister c.entry.item = true ∧ c.found = none)
    (hr : s.register.insert s.clock.minute c.keg = none) : s.judgeHold c cause also =
      (s.makeHold j c cause (also ++ [.registerFull]) false,
        c.frame .hold (some cause) (also ++ [.registerFull]) (s.nextHoldNumber j)) := by
  unfold State.judgeHold
  simp only [h, if_pos he, hr]
  rfl

end Judge

/-- Settles O49. -/
theorem holdClaimsARecord : Obligations.HoldClaimsARecord := by
  intro s c cause also j t r ht it generation number record held enters inserted
  have henters : (cause = .watchHold ∧ itemInRegister c.entry.item = true ∧ c.found = none) ↔ enters := by
    rw [itemInRegister_iff, and_assoc]
  refine ⟨fun hfree hlow => ?_, fun hfull => ?_⟩
  · have hslot : s.freeHoldSlot = some j :=
      State.freeHoldSlot_eq_some.mpr ⟨hfree, fun k hk => Option.isSome_iff_ne_none.mpr (hlow k hk)⟩
    have hheld (also : List Cause) (entryMade : Bool) (r : Register) :
        (({ s with register := r } : State).makeHold j c cause also entryMade, c.frame .hold (some cause) also (s.nextHoldNumber j)) =
          held also entryMade r :=
      congrArg (·, _) (State.makeHold_eq (s := { s with register := r }) ht j cause also entryMade)
    exact ⟨fun he => (State.judgeHold_of_noEntry hslot also (mt henters.mp he)).trans (hheld also false s.register),
      fun he hr => (State.judgeHold_of_entry hslot also (henters.mpr he) hr).trans (hheld also true r),
      fun he hr => (State.judgeHold_of_registerFull hslot also (henters.mpr he) hr).trans (hheld _ false s.register)⟩
  · exact State.judgeHold_of_full (State.freeHoldSlot_eq_none.mpr (fun k => Option.isSome_iff_ne_none.mpr (hfull k))) also

/-! ## Power-on (R204 to R213) -/

/-- The settings that a start loads (R210). -/
def Image.live (i : Image) : Settings := if i.valid then i.values else Settings.default

theorem State.loadSettings_eq (s : State) : s.loadSettings =
    { s with settings := s.image.live, edges := { s.edges with settingsDefault := s.edges.settingsDefault || !s.image.valid } } := by
  unfold State.loadSettings
  cases hv : s.image.valid with
  | true => simp [Image.load, Image.live]
  | false =>
    simp only [Bool.not_false, Bool.or_true]
    rfl

/-- A start from a state in which nothing is cut short. -/
def State.startUncut (s : State) : State :=
  let s1 := s.loadSettings.startVolatile
  if s1.retained then { s1.warmFixups with clock := { s1.clock with unpowered := 0 }, phase := .starting .warm }
  else { s1.coldClear with phase := .starting (.cold s1.batteryFall) }

theorem exec_powerOnReset (s : State) : exec .powerOnReset s = .next s.cutShort.startUncut := rfl

theorem State.retained_loaded (s : State) : s.loadSettings.startVolatile.retained = s.retained := by
  rw [State.loadSettings_eq]
  rfl

theorem State.retained_eq_true {s : State} :
    s.retained = true ↔ s.retentionMark = true ∧ s.batteryFall = false ∧ s.clock.unpowered < 262144 := by
  simp [State.retained, and_assoc]

theorem State.startUncut_warm {s : State} (h : s.retained = true) : s.startUncut =
    { s.loadSettings.startVolatile.warmFixups with clock := { s.clock with unpowered := 0 }, phase := .starting .warm } := by
  unfold State.startUncut
  dsimp only
  rw [if_pos (s.retained_loaded.trans h), State.loadSettings_eq]
  rfl

theorem State.startUncut_cold {s : State} (h : ¬ s.retained = true) : s.startUncut =
    { s.loadSettings.startVolatile.coldClear with phase := .starting (.cold s.batteryFall) } := by
  unfold State.startUncut
  dsimp only
  rw [if_neg (fun hr => h (s.retained_loaded.symm.trans hr)), State.loadSettings_eq]
  rfl

/-- The phase in which the supply rises makes no difference to the start. -/
theorem State.startUncut_phase (s : State) (p : Phase) : ({ s with phase := p } : State).startUncut = s.startUncut := by
  cases hr : s.retained with
  | true =>
    rw [State.startUncut_warm hr, State.startUncut_warm (s := { s with phase := p }) hr, State.loadSettings_eq, State.loadSettings_eq]
    rfl
  | false =>
    have hr' : ¬ s.retained = true := by simp [hr]
    rw [State.startUncut_cold hr', State.startUncut_cold (s := { s with phase := p }) hr', State.loadSettings_eq, State.loadSettings_eq]
    rfl

theorem State.cutStart_of_other {s : State} (h : ∀ latch, s.phase ≠ .starting (.cold latch)) : s.cutStart = s := by
  unfold State.cutStart
  split
  next latch hp => exact absurd hp (h latch)
  next => rfl

theorem State.cutShort_of_none {s : State} (hs : s.saving = none) (hp : ∀ latch, s.phase ≠ .starting (.cold latch)) : s.cutShort = s := by
  unfold State.cutShort
  rw [State.cutSave_of_none s hs, State.cutStart_of_other hp]

theorem State.cutStart_of_cold {s : State} {latch : Bool} (h : s.phase = .starting (.cold latch)) : s.cutStart =
    { s with
      retentionMark := s.retentionMark && Config.clearingDone s.freeIndex
      batteryFall := if Config.clearingDone s.freeIndex then s.batteryFall else latch
      freeIndex := s.freeIndex + 1 } := by
  unfold State.cutStart
  rw [h]
  cases Config.clearingDone s.freeIndex <;> simp

theorem PayoutRecord.afterStart_eq (o : PayoutRecord) : o.afterStart = if o.report = none then o else ⟨o.reservation, none, o.report⟩ := by
  unfold PayoutRecord.afterStart
  cases hr : o.report with
  | none => rfl
  | some d => simp

theorem LaneSet.card_eq_zero_iff_empty {l : LaneSet} : l.card = 0 ↔ l = LaneSet.empty := by
  obtain ⟨a, b, c⟩ := l
  cases a <;> cases b <;> cases c <;> decide

theorem Ticket.unlistAtStart_eq (t : Ticket) : t.unlistAtStart =
    { t with lanes := LaneSet.empty, flags := { t.flags with recount := t.flags.recount || decide (t.lanes ≠ LaneSet.empty) } } := by
  unfold Ticket.unlistAtStart
  by_cases h : t.lanes = LaneSet.empty
  · rw [if_pos (LaneSet.card_eq_zero_iff_empty.mpr h), ← h]
    simp
  · rw [if_neg (mt LaneSet.card_eq_zero_iff_empty.mp h)]
    simp [h]

theorem Ticket.doubtAtStart_eq (t : Ticket) : t.doubtAtStart =
    { t with
      state := if t.state = .paying then .doubt else t.state
      payout := if t.state = .paying then t.payout.map PayoutRecord.afterStart else t.payout } := by
  unfold Ticket.doubtAtStart
  split <;> rfl

/-- Settles O50. -/
theorem powerOnStartsColdOrWarm : Obligations.PowerOnStartsColdOrWarm := by
  refine ⟨?_, ?_, ?_, ?_⟩
  · intro s hs hp hcheck live
    have hr : ¬ s.retained = true := by
      rw [State.retained_eq_true]
      rintro ⟨hm, hb, hu⟩
      rcases hcheck with h | h | h
      · simp [hm] at h
      · simp [hb] at h
      · omega
    refine congrArg _ ((congrArg State.startUncut (State.cutShort_of_none hs hp)).trans ((State.startUncut_cold hr).trans ?_))
    rw [State.loadSettings_eq]
    rfl
  · intro s latch hs hp
    have hcut : s.cutShort = s.cutStart := congrArg State.cutStart (State.cutSave_of_none s hs)
    rw [exec_powerOnReset, exec_powerOnReset, hcut, State.cutStart_of_cold hp]
    refine congrArg _ ((State.startUncut_phase _ .off).symm.trans (congrArg State.startUncut (Eq.symm ?_)))
    exact State.cutShort_of_none (by exact hs) (fun _ => Phase.noConfusion)
  · intro s hs hp hm hb hu live claimed fixed
    have hfixed (t : Ticket) : t.unlistAtStart.doubtAtStart = fixed t := by
      rw [Ticket.doubtAtStart_eq, Ticket.unlistAtStart_eq, funext PayoutRecord.afterStart_eq]
    have hr : s.retained = true := State.retained_eq_true.mpr ⟨hm, hb, hu⟩
    refine congrArg _ ((congrArg State.startUncut (State.cutShort_of_none hs hp)).trans ((State.startUncut_warm hr).trans ?_))
    rw [State.loadSettings_eq, State.warmFixups, funext hfixed]
    rfl
  · exact fun level filter speed => ⟨rfl, rfl, rfl⟩

/-! ## The state right after reset -/

theorem LaneSet.mem_empty (n : Lane) : LaneSet.empty.mem n = false := by cases n <;> rfl

@[simp] theorem State.reset_ticketAt (i : Fin 24) : State.reset.ticketAt i = none := by simp [State.ticketAt, State.reset]

@[simp] theorem State.reset_hold (j : Fin 64) : (State.reset.holds.get j).hold = none := by simp [State.reset]

@[simp] theorem State.reset_lane (n : Lane) : State.reset.lane n = Intake.start false 10 := by cases n <;> rfl

@[simp] theorem State.reset_port (l : Link) : State.reset.port l = Port.start 57600 := by
  cases l with
  | lane n => cases n <;> rfl
  | k => rfl
  | f => rfl

theorem State.reset_arbiter : State.reset.arbiter = Arbiter.start := rfl

theorem State.reset_holdOrder : State.reset.holdOrder = [] := rfl

theorem Settings.default_ok : Settings.default.ok := by
  refine ⟨fun l => ?_, fun n => ?_, by decide⟩
  · cases l with
    | lane n => cases n <;> decide
    | k => decide
    | f => decide
  · cases n <;> decide

/-- Settles O52. -/
theorem resetIsLawful : Obligations.ResetIsLawful := by
  refine ⟨?_, ?_, ?_, ?_, ?_, ?_, ?_, ?_, ?_, ?_, ?_⟩
  · simp [State.reset, Register.cold, Register.ok]
  · refine ⟨by decide, by decide, by decide, fun i j t ht => ?_⟩
    simp at ht
  · intro bank
    cases bank <;> decide
  · exact ⟨fun l => by simp [Port.start, Port.ok], fun n => by simp [Intake.start, Intake.ok], by decide⟩
  · exact ⟨Settings.default_ok, fun _ => Settings.default_ok, fun v hv => by cases hv⟩
  · exact ⟨by decide, by decide, by decide, fun c hc => by cases hc⟩
  · refine ⟨fun _ => ⟨rfl, rfl, rfl, rfl⟩, fun h => absurd h (by decide), by decide, fun n => ⟨?_, ?_, ?_⟩⟩
    · simp [State.verdictRaised, State.reset_arbiter, Arbiter.start, Intake.start, LaneSet.mem_empty]
    · simp [State.reset_arbiter, Arbiter.start]
    · simp [Intake.start]
  · exact ⟨fun i t ht => by simp at ht, fun i j t ht => by simp at ht, fun _ i t ht => by simp at ht⟩
  · refine ⟨fun j h hh => by simp at hh, fun i t ht => by simp at ht, by decide, fun number => ?_⟩
    simp [State.reset_holdOrder]
  · intro e he
    cases he
  · intro i t ht
    simp at ht

end Sys2Proof.Machine

/-! PROOFS. The limits of queues, lists, buffers, settings and clock (R27, R110, R176, R187, R188, R205): what each operation does to them, and
that every command keeps them. -/

namespace Sys2Proof.Machine

open Sys2Proof

/-! ## Changes that keep the limits -/

/-- The part of the state that the limits speak of. -/
structure Bounded where
  lanes : PerLane Intake
  ports : PerLink Port
  office : List OfficeOp
  settings : Settings
  image : Image
  saving : Option Save
  clock : Clock
  setPending : Option ClockSet

/-- What the limits speak of in a state. -/
def State.bounded (s : State) : Bounded :=
  ⟨s.lanes, s.ports, s.arbiter.office, s.settings, s.image, s.saving, s.clock, s.setPending⟩

/-- A change of the state that keeps the limits of queues, lists and buffers, and the ranges of settings and clock. -/
structure Within (s t : State) : Prop where
  bounds : s.boundsOk → t.boundsOk
  values : s.settingsOk ∧ s.clockOk → t.settingsOk ∧ t.clockOk

theorem Within.refl (s : State) : Within s s := ⟨id, id⟩

theorem Within.trans {s t u : State} (h : Within s t) (h' : Within t u) : Within s u :=
  ⟨fun hs => h'.bounds (h.bounds hs), fun hs => h'.values (h.values hs)⟩

/-- A change of nothing that the limits speak of keeps them. -/
theorem Within.of_same {s t : State} (h : t.bounded = s.bounded) : Within s t := by
  simp only [State.bounded, Bounded.mk.injEq] at h
  obtain ⟨hl, hp, ho, hs, hi, hv, hc, hset⟩ := h
  constructor
  · unfold State.boundsOk State.port State.lane
    rw [hl, hp, ho]; exact id
  · unfold State.settingsOk State.clockOk
    rw [hs, hi, hv, hc, hset]; exact id

/-- A change of nothing that the limits speak of, before one that keeps them. -/
theorem Within.after {s t u : State} (h : Within t u) (same : t.bounded = s.bounded) : Within s u := (Within.of_same same).trans h

theorem Within.port {s : State} {l : Link} {f : Port → Port} (h : (s.port l).ok → (f (s.port l)).ok) : Within s (s.modifyPort l f) := by
  refine ⟨fun ⟨hp, hl, ho⟩ => ⟨fun m => ?_, hl, ho⟩, id⟩
  rw [State.modifyPort_port]
  split
  · rename_i e; subst e; exact h (hp m)
  · exact hp m

theorem Within.lane {s : State} {n : Lane} {f : Intake → Intake} (h : (s.lane n).ok → (f (s.lane n)).ok) : Within s (s.modifyLane n f) := by
  refine ⟨fun ⟨hp, hl, ho⟩ => ⟨hp, fun m => ?_, ho⟩, id⟩
  rw [State.modifyLane_lane]
  split
  · rename_i e; subst e; exact h (hl m)
  · exact hl m

theorem Within.arbiter {s : State} {f : Arbiter → Arbiter} (h : s.arbiter.office.length ≤ 16 → (f s.arbiter).office.length ≤ 16) :
    Within s (s.modifyArbiter f) :=
  ⟨fun ⟨hp, hl, ho⟩ => ⟨hp, hl, h ho⟩, id⟩

theorem Within.lanes {s : State} {f : Intake → Intake} (h : ∀ i : Intake, i.ok → (f i).ok) : Within s { s with lanes := s.lanes.map f } := by
  refine ⟨fun ⟨hp, hl, ho⟩ => ⟨hp, fun m => ?_, ho⟩, id⟩
  simpa [State.lane] using h _ (hl m)

/-! ## Ports -/

theorem bump_le (top n : Nat) : bump top n ≤ top := by unfold bump; split <;> omega

@[simp] theorem length_answerLast (a : Answer) : ∀ rs : List Request, (answerLast a rs).length = rs.length
  | [] => rfl
  | [_] => rfl
  | _ :: r :: rs => by simp [answerLast, length_answerLast a (r :: rs)]

@[simp] theorem length_answerOldest (kind : Nat) (a : Answer) : ∀ rs : List Request, (answerOldest kind a rs).length = rs.length
  | [] => rfl
  | r :: rs => by
    unfold answerOldest
    split
    · rfl
    · simp [length_answerOldest kind a rs]

section Ports

variable {p : Port}

theorem Port.enqueue_ok (h : p.ok) (room : p.outstanding.length < 32) (kind tag : Nat) : (p.enqueue kind tag).ok := by
  obtain ⟨_, hrest⟩ := h
  exact ⟨by simpa [Port.enqueue] using room, hrest⟩

theorem Port.reply_ok (h : p.ok) (a : Answer) : (p.reply a).ok := by
  obtain ⟨ho, hrest⟩ := h
  exact ⟨by simpa [Port.reply, Port.refresh] using ho, hrest⟩

theorem Port.replyOldest_ok (h : p.ok) (kind : Nat) (a : Answer) : (p.replyOldest kind a).ok := by
  obtain ⟨ho, hrest⟩ := h
  exact ⟨by simpa [Port.replyOldest, Port.refresh] using ho, hrest⟩

theorem Port.lose_ok (h : p.ok) : ({ p with lost := bump 65535 p.lost } : Port).ok := by
  obtain ⟨ho, hu, hover, _, hrest⟩ := h
  exact ⟨ho, hu, hover, bump_le _ _, hrest⟩

theorem Port.join_ok (h : p.ok) (room : p.unsolicited.length < 16) (f : OwnFrame) :
    ({ p with unsolicited := p.unsolicited ++ [f], order := p.order ++ [.own] } : Port).ok := by
  obtain ⟨ho, _, hrest⟩ := h
  exact ⟨ho, by simpa using room, hrest⟩

theorem Port.sendOwn_ok (h : p.ok) (f : OwnFrame) : (p.sendOwn f).ok := by
  unfold Port.sendOwn
  split
  · rename_i room; exact Port.join_ok h (by omega) f
  · exact Port.lose_ok h

theorem Port.sendJudged_ok (h : p.ok) (f : OwnFrame) : (p.sendJudged f).ok := by
  unfold Port.sendJudged
  split
  · rename_i room; exact Port.join_ok h room f
  · exact Port.lose_ok h

theorem Port.overflow_ok (h : p.ok) : ({ p with overflow := bump 65535 p.overflow } : Port).ok := by
  obtain ⟨ho, hu, _, hrest⟩ := h
  exact ⟨ho, hu, bump_le _ _, hrest⟩

theorem Port.answerSent_ok (h : p.ok) : p.answerSent.ok := by
  obtain ⟨ho, hrest⟩ := h
  refine ⟨?_, hrest⟩
  simp only [Port.answerSent, List.length_tail]
  omega

theorem Port.ownSent_ok (h : p.ok) : p.ownSent.ok := by
  obtain ⟨ho, hu, hrest⟩ := h
  refine ⟨ho, ?_, hrest⟩
  simp only [Port.ownSent, List.length_tail]
  omega

theorem Port.start_ok (speed : Nat) : (Port.start speed).ok := by simp [Port.start, Port.ok]

/-- A port's lists and counts, whatever it assembles. -/
theorem Port.ok_of_lists {q : Port} (h : p.ok) (ho : q.outstanding = p.outstanding) (hu : q.unsolicited = p.unsolicited)
    (hover : q.overflow = p.overflow) (hlost : q.lost = p.lost) (hlen : q.buffer.length ≤ 122)
    (hassembly : match q.assembly with
      | .hunt => q.buffer = [] ∧ q.gap = none
      | .length => q.buffer = [syncByte] ∧ q.gap = some 20
      | .body => 2 ≤ q.buffer.length ∧ q.buffer.length < q.len + 2 ∧ 2 ≤ q.len ∧ q.len ≤ 118 ∧ q.gap = some 20
      | .check => (q.buffer.length = q.len + 2 ∨ q.buffer.length = q.len + 3) ∧ 2 ≤ q.len ∧ q.len ≤ 118 ∧ q.gap = some 20) : q.ok := by
  obtain ⟨h1, h2, h3, h4, _⟩ := h
  unfold Port.ok
  rw [ho, hu, hover, hlost]
  exact ⟨h1, h2, h3, h4, hlen, hassembly⟩

theorem Port.toHunt_ok (h : p.ok) : p.toHunt.ok := Port.ok_of_lists h rfl rfl rfl rfl (Nat.zero_le _) ⟨rfl, rfl⟩

theorem Port.sync_ok (h : p.ok) : p.sync.ok := Port.ok_of_lists h rfl rfl rfl rfl (by simp [Port.sync]) ⟨rfl, rfl⟩

theorem goodLen_iff {b : Byte} : goodLen b = true ↔ 2 ≤ b.toNat ∧ b.toNat ≤ 118 := by simp [goodLen]

/-- A good LEN byte is kept and the body begins (R188). -/
theorem Port.keepLen_ok (h : p.ok) (ha : p.assembly = .length) {b : Byte} (hb : goodLen b = true) :
    ({ p.keep b with assembly := .body } : Port).ok := by
  rw [goodLen_iff] at hb
  have hbuffer : p.buffer = [syncByte] := by
    obtain ⟨_, _, _, _, _, hassembly⟩ := h
    rw [ha] at hassembly
    exact hassembly.1
  refine Port.ok_of_lists h rfl rfl rfl rfl ?_ ?_
  · simp [Port.keep, hbuffer]
  · have hlen : ({ p.keep b with assembly := .body } : Port).len = b.toNat := by simp [Port.len, Port.keep, hbuffer]
    dsimp only
    rw [hlen]
    refine ⟨?_, ?_, hb.1, hb.2, rfl⟩
    · simp [Port.keep, hbuffer]
    · simp [Port.keep, hbuffer]; omega

/-- A byte kept behind LEN leaves the frame's length as it is. -/
theorem Port.keep_len (h : 2 ≤ p.buffer.length) (b : Byte) : (p.keep b).len = p.len := by
  simp only [Port.len, Port.keep, List.getD_eq_getElem?_getD]
  rw [List.getElem?_append_left (by omega)]

/-- A body byte is kept, and the last of them brings the CHECK state (R188). -/
theorem Port.keepBody_ok (h : p.ok) (ha : p.assembly = .body) (b : Byte) : (p.keepBody b).ok := by
  have hbody : 2 ≤ p.buffer.length ∧ p.buffer.length < p.len + 2 ∧ 2 ≤ p.len ∧ p.len ≤ 118 ∧ p.gap = some 20 := by
    obtain ⟨_, _, _, _, _, hassembly⟩ := h
    rwa [ha] at hassembly
  obtain ⟨hlow, hhigh, hlen, hmax, _⟩ := hbody
  have hkept : (p.keepBody b).buffer.length = p.buffer.length + 1 := by simp [Port.keepBody, Port.keep]
  have hsame : (p.keepBody b).len = p.len := Port.keep_len hlow b
  have hstate : (p.keepBody b).assembly = if p.buffer.length + 1 = p.len + 2 then .check else .body := by
    simp [Port.keepBody, Port.keep]
  refine Port.ok_of_lists h rfl rfl rfl rfl (by omega) ?_
  rw [hstate, hkept, hsame]
  by_cases hlast : p.buffer.length + 1 = p.len + 2
  · rw [if_pos hlast]; exact ⟨.inl hlast, hlen, hmax, rfl⟩
  · rw [if_neg hlast]; exact ⟨by omega, by omega, hlen, hmax, rfl⟩

/-- The first CHECK byte is kept (R188). -/
theorem Port.keepCheck_ok (h : p.ok) (ha : p.assembly = .check) (hfirst : p.buffer.length = p.len + 2) (b : Byte) : (p.keep b).ok := by
  have hcheck : (p.buffer.length = p.len + 2 ∨ p.buffer.length = p.len + 3) ∧ 2 ≤ p.len ∧ p.len ≤ 118 ∧ p.gap = some 20 := by
    obtain ⟨_, _, _, _, _, hassembly⟩ := h
    rwa [ha] at hassembly
  obtain ⟨_, hlen, hmax, _⟩ := hcheck
  have hkept : (p.keep b).buffer.length = p.buffer.length + 1 := by simp [Port.keep]
  have hsame : (p.keep b).len = p.len := Port.keep_len (by omega) b
  have hstate : (p.keep b).assembly = .check := ha
  refine Port.ok_of_lists h rfl rfl rfl rfl (by omega) ?_
  rw [hstate, hkept, hsame]
  exact ⟨.inr (by omega), hlen, hmax, rfl⟩

end Ports

/-! ## Intakes -/

section Intakes

variable {i : Intake}

/-- An intake whose queue and landing slot hold as many entries as one in its limits. -/
theorem Intake.ok_of_load {j : Intake} (h : i.ok) (hq : j.queue.length = i.queue.length) (hl : j.landing.isSome = i.landing.isSome) :
    j.ok := by
  unfold Intake.ok at *
  rwa [hq, hl]

@[simp] theorem length_markLast (test : Entry → Bool) : ∀ es : List Entry, (markLast test es).length = es.length
  | [] => rfl
  | e :: es => by
    unfold markLast
    split
    · simp [length_markLast test es]
    · split <;> rfl

theorem Intake.markBatchEnd_ok (h : i.ok) (ticket : Nat) : (i.markBatchEnd ticket).ok := by
  unfold Intake.markBatchEnd
  split
  · exact Intake.ok_of_load h rfl (by simp)
  · exact Intake.ok_of_load h (by simp) rfl

theorem Intake.goDown_ok (h : i.ok) : i.goDown.ok := Intake.ok_of_load h (by simp [Intake.goDown]) (by simp [Intake.goDown])

/-- The landing entry takes the place the head leaves (R33). -/
theorem Intake.removeHead_ok (h : i.ok) : i.removeHead.ok := by
  obtain ⟨hq, hl⟩ := h
  refine ⟨?_, by simp [Intake.removeHead]⟩
  simp only [Intake.removeHead, List.length_append, List.length_tail]
  cases hland : i.landing with
  | none => simp; omega
  | some e =>
    have := hl (by simp [hland])
    simp; omega

/-- An entry joins a queue that has a place, so the landing slot is empty (R27, R32). -/
theorem Intake.join_ok (h : i.ok) (room : i.queue.length < 16) (e : Entry) : ({ i with queue := i.queue ++ [e] } : Intake).ok := by
  obtain ⟨_, hl⟩ := h
  refine ⟨by simpa using room, fun hland => ?_⟩
  have := hl hland
  omega

/-- An entry lands beside a full queue (R32). -/
theorem Intake.land_ok (h : i.ok) (full : ¬ i.queue.length < 16) (e : Entry) : ({ i with landing := some e } : Intake).ok := by
  obtain ⟨hq, _⟩ := h
  exact ⟨hq, fun _ => by dsimp only; omega⟩

theorem Intake.start_ok (level : Bool) (filter : Nat) : (Intake.start level filter).ok := by simp [Intake.start, Intake.ok]

end Intakes

/-! ## The office-side queue -/

theorem Arbiter.serve_office (a : Arbiter) (p : Position) : (a.serve p).office.length ≤ a.office.length := by
  cases p with
  | lane n => exact Nat.le_refl _
  | office =>
    simp only [Arbiter.serve]
    split
    · exact Nat.le_refl _
    · rename_i h; simp [h]
  | sweep =>
    simp only [Arbiter.serve]
    split <;> exact Nat.le_refl _

theorem Arbiter.rotate_office (a : Arbiter) : a.rotate.office.length ≤ a.office.length := by
  unfold Arbiter.rotate
  split
  · exact a.serve_office _
  · exact Nat.le_refl _

theorem Arbiter.settle_office (a : Arbiter) : a.settle.office.length ≤ a.office.length := by
  unfold Arbiter.settle
  split
  · exact a.rotate_office
  · exact Nat.le_refl _

theorem Arbiter.raiseVerdict_office (n : Lane) (a : Arbiter) : (a.raiseVerdict n).office.length ≤ a.office.length :=
  Arbiter.settle_office { a with lanes := a.lanes.add n }

theorem Arbiter.raiseSweeps_office (ops : List SweepOp) (a : Arbiter) : (a.raiseSweeps ops).office.length ≤ a.office.length :=
  Arbiter.settle_office { a with sweeps := a.sweeps ++ ops }

theorem Arbiter.raiseOffice_office {a : Arbiter} (room : a.officeRoom = true) (op : OfficeOp) : (a.raiseOffice op).office.length ≤ 16 := by
  have hroom : a.office.length < 16 := by simpa [Arbiter.officeRoom] using room
  have hsettle := Arbiter.settle_office { a with office := a.office ++ [op] }
  simp only [List.length_append, List.length_singleton] at hsettle
  exact Nat.le_trans hsettle (by omega)

/-! ## Shared operations -/

theorem State.reply_within (s : State) (l : Link) (a : Answer) : Within s (s.reply l a) := .port (fun h => Port.reply_ok h a)

theorem State.replyCode_within (s : State) (l : Link) (r : Result) : Within s (s.replyCode l r) := s.reply_within l _

theorem State.replyOldest_within (s : State) (l : Link) (kind : Nat) (a : Answer) : Within s (s.replyOldest l kind a) :=
  .port (fun h => Port.replyOldest_ok h kind a)

theorem Within.reply {s t : State} (h : Within s t) (l : Link) (a : Answer) : Within s (t.reply l a) := h.trans (t.reply_within l a)

theorem Within.answered {s t : State} {l : Link} {a : Answer} (same : t.bounded = s.bounded) : Within s (t.reply l a) :=
  .after (t.reply_within l a) same

theorem State.raiseLaneFault_within (s : State) : Within s s.raiseLaneFault := .of_same rfl

theorem State.raiseCheckError_within (s : State) : Within s s.raiseCheckError := .of_same rfl

theorem State.raiseSaveFailed_within (s : State) : Within s s.raiseSaveFailed := .of_same rfl

theorem State.raiseStrayItems_within (s : State) : Within s s.raiseStrayItems := .of_same rfl

theorem State.sendOwn_within (s : State) (n : Lane) (f : OwnFrame) : Within s (s.sendOwn n f) := by
  refine .port (fun h => ?_)
  split
  · exact h
  · exact Port.sendOwn_ok h f

theorem State.refuseAtOnce_within (s : State) (n : Lane) (q : Nat) (why : Cause) : Within s (s.refuseAtOnce n q why) := s.sendOwn_within n _

theorem State.sendVerdict_within (s : State) (n : Lane) (e : Entry) (v : VerdictFrame) : Within s (s.sendVerdict n e v) := by
  refine .port (fun h => ?_)
  split
  · exact h
  · exact Port.sendJudged_ok h _

theorem State.overflow_within (s : State) (l : Link) : Within s (s.overflow l) :=
  (Within.port (fun h => Port.overflow_ok h)).trans (.of_same rfl)

theorem State.heardDesk_within (s : State) (l : Link) : Within s (s.heardDesk l) := by
  cases l with
  | lane n => exact .refl s
  | k => exact .port id
  | f => exact .port id

theorem State.heardLane_within (s : State) (l : Link) : Within s (s.heardLane l) := by
  cases l with
  | lane n =>
    refine .lane (fun h => ?_)
    split <;> exact h
  | k => exact .refl s
  | f => exact .refl s

theorem State.completeOperation_within (s : State) : Within s s.completeOperation := by
  unfold State.completeOperation
  split
  · exact .arbiter id
  · exact .arbiter (fun h => Nat.le_trans (Arbiter.rotate_office _) h)

theorem Within.completed {s t : State} (h : Within s t) : Within s t.completeOperation := h.trans t.completeOperation_within

theorem Within.finished {s t : State} (h : Within s t) (l : Link) (kind : Nat) (a : Answer) :
    Within s (t.replyOldest l kind a).completeOperation :=
  (h.trans (t.replyOldest_within l kind a)).completed

theorem State.raiseOrBusy_within (s : State) (l : Link) (op : OfficeOp) : Within s (s.raiseOrBusy l op) := by
  unfold State.raiseOrBusy
  split
  · rename_i room; exact .arbiter (fun _ => Arbiter.raiseOffice_office room op)
  · exact s.replyCode_within l .busy

theorem State.raiseSweeps_within (s : State) (ops : List SweepOp) : Within s (s.modifyArbiter (Arbiter.raiseSweeps ops)) :=
  .arbiter (fun h => Nat.le_trans (Arbiter.raiseSweeps_office ops _) h)

theorem State.raiseSweep_within (s : State) : Within s s.raiseSweep := by
  unfold State.raiseSweep
  split
  · exact .refl s
  · exact s.raiseSweeps_within _

theorem State.raiseExpiriesAndSweep_within (s : State) : Within s s.raiseExpiriesAndSweep := by
  unfold State.raiseExpiriesAndSweep
  split
  · exact s.raiseSweep_within
  · split
    · exact (s.raiseSweep_within.trans (State.raiseSweeps_within _ _)).trans (.of_same rfl)
    · exact ((s.raiseSweeps_within _).trans (State.raiseSweep_within _)).trans (.of_same rfl)

theorem State.reachedTest_within (s : State) : Within s s.reachedTest := .of_same (by simp [State.bounded])

/-- A request keeps the limits when its handling does: it joins a list that has room (R191). -/
theorem State.takeRequest_within (s : State) (l : Link) (kind tag : Nat) {handle : State → State} (h : ∀ u : State, Within u (handle u)) :
    Within s (s.takeRequest l kind tag handle) := by
  unfold State.takeRequest
  split
  · split
    · rename_i room
      have hroom : ((s.heardDesk l).port l).outstanding.length < 32 := by
        have hsame : ((s.heardDesk l).port l).outstanding = (s.port l).outstanding := by
          cases l <;> rfl
        simpa [State.hasRoom, hsame] using room
      have listed : Within s ((s.heardDesk l).modifyPort l (Port.enqueue kind tag)) :=
        (s.heardDesk_within l).trans (.port (fun hp => Port.enqueue_ok hp hroom kind tag))
      exact (listed.trans (h _)).trans (State.heardLane_within _ l)
    · exact s.overflow_within l
  · exact .refl s

theorem State.takeKeyed_within (s : State) (key : Bool) (l : Link) (kind tag : Nat) {handle : State → State}
    (h : ∀ u : State, Within u (handle u)) : Within s ((s.withKey key).takeRequest l kind tag handle) :=
  .after (State.takeRequest_within _ l kind tag h) rfl

/-! ## Lanes -/

theorem State.releaseBatch_within (s : State) (n : Lane) (lost : Bool) : Within s (s.releaseBatch n lost) := by
  unfold State.releaseBatch
  split
  · exact .refl s
  · rename_i b _
    dsimp only
    have freed : Within s (s.ticketRelease n b.ticket (reconcileFails s.settings.tolerance b)) := .of_same (by simp [State.bounded])
    refine Within.trans ?_ (.lane id)
    split
    · exact freed
    · exact freed
    · split
      · exact freed
      · exact freed.trans (State.sendOwn_within _ n _)

theorem State.closeBatch_within (s : State) (n : Lane) (why : CloseReason) : Within s (s.closeBatch n why) := by
  unfold State.closeBatch
  split
  · exact .refl s
  · rename_i b _
    have closed : Within s (s.modifyLane n (fun i => { i with batch := some { b with reason := some why } })) := .lane id
    dsimp only
    split
    · exact closed.trans (.lane (fun h => Intake.markBatchEnd_ok h _))
    · exact closed.trans (State.releaseBatch_within _ n false)

theorem Within.foldl {α : Type} {f : State → α → State} (h : ∀ s a, Within s (f s a)) : ∀ (as : List α) (s : State), Within s (as.foldl f s)
  | [], s => .refl s
  | a :: as, s => (h s a).trans (Within.foldl h as (f s a))

theorem State.closeBatches_within (s : State) (ns : List Lane) (why : CloseReason) : Within s (s.closeBatches ns why) :=
  Within.foldl (fun s n => s.closeBatch_within n why) ns s

theorem State.enterDown_within (s : State) (n : Lane) : Within s (s.enterDown n) :=
  ((s.closeBatch_within n .down).trans (.lane Intake.goDown_ok)).trans (.of_same rfl)

theorem State.enterRefused_within (s : State) (n : Lane) (why : RefusalReason) : Within s (s.enterRefused n why) :=
  (Within.lane id).trans (State.raiseLaneFault_within _)

theorem State.flowAfterInsertion_within (s : State) (n : Lane) : Within s (s.flowAfterInsertion n) := by
  unfold State.flowAfterInsertion
  dsimp only
  split
  · exact (s.sendOwn_within n _).trans (.lane id)
  · exact .refl s

theorem State.flowAfterRemoval_within (s : State) (n : Lane) : Within s (s.flowAfterRemoval n) := by
  unfold State.flowAfterRemoval
  dsimp only
  split
  · exact (s.sendOwn_within n _).trans (.lane id)
  · exact .refl s

theorem State.removeHead_within (s : State) (n : Lane) (e : Entry) : Within s (s.removeHead n e) := by
  have moved : Within s (s.modifyLane n Intake.removeHead) := .lane Intake.removeHead_ok
  have paced : Within s (s.pacedRemoval n) := by
    unfold State.pacedRemoval
    split
    · exact (moved.trans (State.flowAfterInsertion_within _ n)).trans (State.flowAfterRemoval_within _ n)
    · exact moved.trans (State.flowAfterRemoval_within _ n)
  rw [State.removeHead_eq]
  split
  · exact paced.trans (State.releaseBatch_within _ n _)
  · exact paced

theorem State.overrun_within (s : State) (n : Lane) (old new : Entry) (full : ¬ (s.lane n).queue.length < 16) :
    Within s (s.overrun n old new) := by
  unfold State.overrun
  dsimp only
  have landed : Within s ((if old.lostLink = true then s else s.refuseAtOnce n old.item.sequence .overrun).modifyLane n
      (fun i => { i with landing := some new })) := by
    split
    · exact .lane (fun h => Intake.land_ok h full new)
    · exact (s.refuseAtOnce_within n _ _).trans (.lane (fun h => Intake.land_ok h full new))
  split
  · split
    · exact landed
    · split
      · exact landed.trans (.lane (fun h => Intake.ok_of_load h (by simp) rfl))
      · exact landed.trans (State.releaseBatch_within _ n _)
  · exact landed

theorem State.placeEntry_within (s : State) (n : Lane) (e : Entry) : Within s (s.placeEntry n e) := by
  unfold State.placeEntry
  split
  · rename_i room
    exact (Within.lane (fun h => Intake.join_ok h room e)).trans (State.flowAfterInsertion_within _ n)
  · rename_i full
    split
    · exact .lane (fun h => Intake.land_ok h full e)
    · exact s.overrun_within n _ e full

theorem State.itemBurst_within (s : State) (n : Lane) : Within s (s.itemBurst n) := by
  unfold State.itemBurst
  dsimp only
  split
  · exact .lane id
  · split
    · exact (Within.lane id).trans (State.raiseLaneFault_within _)
    · exact .lane id

theorem State.handleItem_within (s : State) (n : Lane) (it : Item) : Within s (s.handleItem n it) := by
  unfold State.handleItem
  dsimp only
  split
  · exact (s.itemBurst_within n).trans (State.refuseAtOnce_within _ n _ _)
  · have counted (gap : Bool) : Within s ((s.itemBurst n).modifyLane n (fun i => i.countItem it.sequence gap)) :=
      (s.itemBurst_within n).trans (.lane id)
    split
    · exact (counted _).trans (State.refuseAtOnce_within _ n _ _)
    · exact (counted _).trans (State.placeEntry_within _ n _)

theorem State.senseItem_within (s : State) (n : Lane) (it : Item) : Within s (s.senseItem n it) := by
  unfold State.senseItem
  split
  · exact (Within.lane id).trans (State.handleItem_within _ n it)
  · exact (s.enterRefused_within n _).trans (State.refuseAtOnce_within _ n _ _)

theorem State.checkSensed_within (s : State) (n : Lane) (it : Item) : Within s (s.checkSensed n it) := by
  unfold State.checkSensed
  split
  · exact (Within.lane id).trans (State.handleItem_within _ n it)
  · exact ((s.closeBatch_within n .refused).trans (State.enterRefused_within _ n _)).trans (State.refuseAtOnce_within _ n _ _)

theorem State.itemByState_within (s : State) (n : Lane) (it : Item) : Within s (s.itemByState n it) := by
  have refused : Within s (s.refuseAtOnce n it.sequence .notCounting) := s.refuseAtOnce_within n _ _
  unfold State.itemByState
  split
  · exact .refl s
  · exact s.senseItem_within n it
  · exact refused
  · exact refused
  · exact refused
  · exact s.handleItem_within n it
  · exact s.handleItem_within n it
  · split
    · exact s.checkSensed_within n it
    · exact s.handleItem_within n it

theorem State.takeItem_within (s : State) (n : Lane) (it : Item) : Within s (s.takeItem n it) := by
  unfold State.takeItem
  split
  · split
    · exact (s.itemByState_within n it).trans (State.heardLane_within _ _)
    · exact s.overflow_within _
  · exact .refl s

theorem State.refuseOffer_within (s : State) (n : Lane) (o : LaneOffer) : Within s (s.refuseOffer n o) :=
  (s.enterRefused_within n _).trans (.lane id)

theorem State.listenOffer_within (s : State) (n : Lane) (o : LaneOffer) : Within s (s.listenOffer n o) := by
  unfold State.listenOffer
  split
  · exact s.refuseOffer_within n o
  · exact .lane id

theorem State.offeringOffer_within (s : State) (n : Lane) (o : LaneOffer) : Within s (s.offeringOffer n o) := by
  unfold State.offeringOffer
  split
  · exact s.refuseOffer_within n o
  · split <;> exact .lane id

theorem State.ackingOffer_within (s : State) (n : Lane) (o : LaneOffer) (ack : Bool) : Within s (s.ackingOffer n o ack) := by
  unfold State.ackingOffer
  dsimp only
  split
  · exact s.refuseOffer_within n o
  · split
    · split
      · exact .lane id
      · exact .refl s
    · exact .lane id

theorem State.handleOffer_within (s : State) (n : Lane) (o : LaneOffer) (ack : Bool) : Within s (s.handleOffer n o ack) := by
  have relisten (f : Intake → Intake) (hf : ∀ i : Intake, i.ok → (f i).ok) :
      Within s (((s.modifyLane n f).listenOffer n o).answerOffer n) :=
    ((Within.lane (hf _)).trans (State.listenOffer_within _ n o)).reply _ _
  have renegotiate : Within s (if (s.lane n).batch.isSome = true then s.replyCode (.lane n) .busy
      else ((s.modifyLane n Intake.leaveCounting).listenOffer n o).answerOffer n) := by
    split
    · exact s.replyCode_within _ _
    · exact relisten _ (fun _ h => h)
  unfold State.handleOffer
  split
  · exact .refl s
  · exact (s.listenOffer_within n o).reply _ _
  · exact (s.offeringOffer_within n o).reply _ _
  · exact (s.ackingOffer_within n o ack).reply _ _
  · exact s.replyCode_within _ _
  · exact renegotiate
  · exact renegotiate
  · split
    · exact s.reply_within _ _
    · exact relisten _ (fun _ h => h)

theorem State.handleBind_within (s : State) (n : Lane) (number : Nat) : Within s (s.handleBind n number) := by
  have bound : Within s (s.bindTicket n number) := by
    unfold State.bindTicket
    split
    · exact s.replyCode_within _ _
    · split
      · exact s.replyCode_within _ _
      · split
        · exact s.replyCode_within _ _
        · refine .trans ?_ (State.reply_within _ _ _)
          exact .after (.lane id) rfl
  unfold State.handleBind
  split
  · split
    · split
      · exact s.replyCode_within _ _
      · split <;> exact s.reply_within _ _
    · exact bound
  · exact s.replyCode_within _ _

theorem State.handleUnbind_within (s : State) (n : Lane) : Within s (s.handleUnbind n) := by
  unfold State.handleUnbind
  split
  · split
    · exact s.replyCode_within _ _
    · split
      · exact (s.replyCode_within _ _).trans (State.closeBatch_within _ n .unbind)
      · exact s.replyCode_within _ _
  · exact s.replyCode_within _ _

theorem Intake.gateChange_ok {i : Intake} (h : i.ok) (powered : Bool) (filter : Nat) (broken : Bool) :
    (i.gateChange powered filter broken).ok := by
  unfold Intake.gateChange
  split
  · exact h
  · dsimp only
    split
    · split <;> exact h
    · exact h

theorem State.recogniseGate_within (s : State) (n : Lane) : Within s (s.recogniseGate n) := by
  have edge (u : State) : Within u (u.countEdge n) := by
    unfold State.countEdge
    split
    · exact .lane id
    · exact (Within.lane id).trans (State.raiseStrayItems_within _)
  unfold State.recogniseGate
  split
  · exact .refl s
  · dsimp only
    split
    · exact (Within.lane id).trans (edge _)
    · exact .lane id

/-! ## Verdicts and holds -/

theorem State.judgeHold_bounded (s : State) (c : Case) (cause : Cause) (also : List Cause) :
    (s.judgeHold c cause also).1.bounded = s.bounded := by
  unfold State.judgeHold
  split
  · rfl
  · dsimp only
    split
    · split <;> rfl
    · rfl

theorem State.judgeCauses_bounded (s : State) (c : Case) (also : List Cause) : (s.judgeCauses c also).1.bounded = s.bounded := by
  unfold State.judgeCauses
  split
  · unfold State.judgeAccept
    split
    · split
      · rfl
      · exact s.judgeHold_bounded c _ _
    · rfl
  · split
    · exact s.judgeHold_bounded c _ _
    · rfl

/-- The evaluation of an entry touches no queue, no list, no setting and not the clock (R67). -/
theorem State.judgeEntry_bounded (s : State) (n : Lane) (e : Entry) : (s.judgeEntry n e).1.bounded = s.bounded := by
  unfold State.judgeEntry
  dsimp only
  split
  · rfl
  · split
    · rfl
    · unfold State.judgeLive
      dsimp only
      rw [State.judgeCauses_bounded]
      simp [State.bounded]

theorem State.completeHead_within (s : State) (n : Lane) (e : Entry) : Within s (s.completeHead n e) :=
  ((Within.of_same (s.judgeEntry_bounded n e)).trans (State.sendVerdict_within _ n e _)).trans (State.removeHead_within _ n e)

theorem State.takeInHand_within (s : State) (n : Lane) : Within s (s.takeInHand n) := by
  unfold State.takeInHand
  split
  · exact .refl s
  · split
    · exact .refl s
    · split
      · exact .refl s
      · split
        · exact (Within.lane id).trans (.arbiter (fun h => Nat.le_trans (Arbiter.raiseVerdict_office n _) h))
        · exact s.completeHead_within n _

theorem State.carryRelease_within (s : State) (j : Fin 64) (h : Hold) (v : Verdict) (am : Option Grade) :
    Within s (s.carryRelease j h v am).1 := by
  unfold State.carryRelease
  split
  · exact .refl s
  · refine .of_same ?_
    dsimp only
    split <;> simp [State.bounded]

theorem State.handleRelease_within (s : State) (hold verdict amended : Nat) : Within s (s.handleRelease hold verdict amended) := by
  unfold State.handleRelease
  split
  · split
    · exact s.replyCode_within _ _
    · split
      · exact s.raiseOrBusy_within _ _
      · exact (s.carryRelease_within _ _ _ _).reply _ _
  · exact s.replyCode_within _ _

/-! ## Tickets and the till -/

theorem State.closeTicket_within (s : State) (i : Fin 24) : Within s (s.closeTicket i) := .of_same (by simp [State.bounded])

theorem State.handleOpen_within (s : State) (l : Link) (account : Nat) (cash : Bool) : Within s (s.handleOpen l account cash) := by
  unfold State.handleOpen
  split
  · exact s.replyCode_within _ _
  · split
    · exact s.replyCode_within _ _
    · exact .answered rfl

theorem State.answerQuote_within (s : State) (i : Fin 24) : Within s (s.answerQuote i) := by
  unfold State.answerQuote
  split <;> exact s.reply_within _ _

theorem State.handleQuote_within (s : State) (number : Nat) : Within s (s.handleQuote number) := by
  unfold State.handleQuote
  split
  · exact s.replyCode_within _ _
  · split
    · exact (s.closeTicket_within _).trans (State.answerQuote_within _ _)
    · exact s.answerQuote_within _

theorem State.handleClose_within (s : State) (number : Nat) : Within s (s.handleClose number) := by
  unfold State.handleClose
  split
  · exact s.replyCode_within _ _
  · split
    · exact (s.closeTicket_within _).reply _ _
    · split <;> exact s.reply_within _ _

theorem State.handleAdjust_within (s : State) (number cls grade ownership : Nat) (delta : Int) :
    Within s (s.handleAdjust number cls grade ownership delta) := by
  unfold State.handleAdjust
  split
  · split
    · unfold State.adjustTicket
      split
      · exact s.replyCode_within _ _
      · split
        · exact .answered rfl
        · exact s.replyCode_within _ _
    · exact s.replyCode_within _ _
  · exact s.replyCode_within _ _

theorem State.handleConfirmCount_within (s : State) (number : Nat) : Within s (s.handleConfirmCount number) := by
  unfold State.handleConfirmCount
  split
  · exact s.replyCode_within _ _
  · split
    · exact .answered (by simp [State.bounded])
    · exact s.replyCode_within _ _

theorem State.carryVoid_within (s : State) (number : Nat) : Within s (s.carryVoid number).1 := by
  unfold State.carryVoid
  split
  · exact .refl s
  · rename_i i t _
    split
    · unfold State.voidTicket
      dsimp only
      have voided : Within s ((({ s.modifyTicket i Ticket.toVoid with
          register := (s.modifyTicket i Ticket.toVoid).register.voidTicket number } : State).dropHolds number).closeBatches
            t.lanes.members .voided) :=
        .after (State.closeBatches_within _ _ _) rfl
      split
      · exact voided.trans (.of_same rfl)
      · exact voided
    · exact .refl s

theorem State.carrySettle_within (s : State) (w : Settler) : Within s (s.carrySettle w).1 := by
  unfold State.carrySettle
  split
  · exact .refl s
  · split <;> exact .of_same rfl

theorem State.handleCollect_within (s : State) (number : Nat) : Within s (s.handleCollect number) := by
  unfold State.handleCollect
  split
  · exact s.replyCode_within _ _
  · split
    · exact .answered rfl
    · exact s.replyCode_within _ _

theorem State.handlePay_within (s : State) (number : Nat) : Within s (s.handlePay number) := by
  unfold State.handlePay
  split
  · exact s.replyCode_within _ _
  · split
    · split
      · exact s.replyCode_within _ _
      · unfold State.payPriced
        split
        · exact s.raiseOrBusy_within _ _
        · dsimp only
          split
          · exact s.replyCode_within _ _
          · exact .answered rfl
    · exact s.replyCode_within _ _

theorem State.takeReport_within (s : State) (number : Nat) (i : Fin 24) (d : Nat) : Within s (s.takeReport number i d) := by
  unfold State.takeReport
  split
  · rename_i room
    exact .after (.arbiter (fun _ => Arbiter.raiseOffice_office room _)) rfl
  · exact s.replyCode_within _ _

theorem State.handleDispensed_within (s : State) (number d : Nat) : Within s (s.handleDispensed number d) := by
  unfold State.handleDispensed
  split
  · exact s.replyCode_within _ _
  · split
    · exact s.replyCode_within _ _
    · split
      · split
        · exact s.replyCode_within _ _
        · exact s.takeReport_within _ _ _
      · split
        · exact .answered rfl
        · exact s.replyCode_within _ _

theorem State.handleResolve_within (s : State) (key : Bool) (number amount : Nat) : Within s (s.handleResolve key number amount) := by
  unfold State.handleResolve
  split
  · exact s.replyCode_within _ _
  · split
    · exact s.replyCode_within _ _
    · split
      · exact s.replyCode_within _ _
      · split
        · exact s.raiseOrBusy_within _ _
        · exact s.replyCode_within _ _

theorem State.handleTillLoad_within (s : State) (key : Bool) (amount : Nat) : Within s (s.handleTillLoad key amount) := by
  unfold State.handleTillLoad
  (repeat' split) <;> exact .answered rfl

theorem State.handleTillCount_within (s : State) (key : Bool) (balance : Nat) : Within s (s.handleTillCount key balance) := by
  unfold State.handleTillCount
  (repeat' split) <;> exact .answered rfl

/-! ## Settings -/

theorem largestNotAbove_mem (least : Nat) (allowed : List Nat) (v : Nat) : largestNotAbove least allowed v ∈ least :: allowed := by
  unfold largestNotAbove
  induction allowed generalizing least with
  | nil => simp
  | cons a as ih =>
    rw [List.foldl_cons]
    split
    · exact List.mem_cons_of_mem _ (ih a)
    · rcases List.mem_cons.mp (ih least) with h | h
      · rw [h]; exact List.mem_cons_self
      · exact List.mem_cons_of_mem _ (List.mem_cons_of_mem _ h)

theorem clampTo_le {low high : Nat} (h : low ≤ high) (v : Nat) : low ≤ clampTo low high v ∧ clampTo low high v ≤ high := by
  unfold clampTo
  omega

theorem clampFilter_ok (v : Nat) : 2 ≤ clampFilter v ∧ clampFilter v ≤ 40 ∧ clampFilter v % 2 = 0 := by
  have := clampTo_le (low := 2) (high := 40) (by omega) v
  unfold clampFilter
  dsimp only
  omega

theorem ModeSet.ofCode_isEmpty {v : Nat} (h : v ≠ 0) (h' : v ≤ 7) : (ModeSet.ofCode v).isEmpty = false := by
  have : ∀ v : Fin 8, v.val ≠ 0 → (ModeSet.ofCode v.val).isEmpty = false := by decide
  exact this ⟨v, by omega⟩ h

/-! ## Settings -/

/-- A change of settings, image, save and clock alone keeps the limits when it keeps the ranges. -/
theorem Within.of_values {s t : State} (lanes : t.lanes = s.lanes) (ports : t.ports = s.ports) (office : t.arbiter.office = s.arbiter.office)
    (values : s.settingsOk → s.clockOk → t.settingsOk ∧ t.clockOk) : Within s t := by
  refine ⟨?_, fun ⟨hs, hc⟩ => values hs hc⟩
  unfold State.boundsOk State.port State.lane
  rw [lanes, ports, office]; exact id

/-- A change of settings, image and save alone. -/
theorem Within.of_settings {s t : State} (lanes : t.lanes = s.lanes) (ports : t.ports = s.ports) (office : t.arbiter.office = s.arbiter.office)
    (clock : t.clock = s.clock) (setPending : t.setPending = s.setPending) (settings : s.settingsOk → t.settingsOk) : Within s t := by
  refine .of_values lanes ports office (fun hs hc => ⟨settings hs, ?_⟩)
  unfold State.clockOk
  rw [clock, setPending]; exact hc

/-- A write stores only values in range, and leaves the other settings (R205, R207). -/
theorem Settings.write_ok {st st' : Settings} {identifier index value stored : Nat} (h : st.ok)
    (hw : st.write identifier index value = some (st', stored)) : st'.ok := by
  obtain ⟨speed, modes, silence, burst, filter, tolerance, high, own, life, hold, lockout, retention, pay, step, cap, low⟩ := h
  have hrange (least most : Nat) (hle : least ≤ most) : least ≤ clampTo least most value ∧ clampTo least most value ≤ most :=
    clampTo_le hle value
  unfold Settings.write at hw
  split at hw
  case h_1 =>
    split at hw
    · rename_i l _
      cases hw
      refine ⟨fun m => ?_, modes, silence, burst, filter, tolerance, high, own, life, hold, lockout, retention, pay, step, cap, low⟩
      rw [PerLink.get_modify]
      split
      · exact largestNotAbove_mem _ _ _
      · exact speed m
    · cases hw
  case h_2 =>
    split at hw
    · rename_i n _
      split at hw
      · cases hw
      · rename_i hmax
        cases hw
        refine ⟨speed, fun m => ?_, silence, burst, filter, tolerance, high, own, life, hold, lockout, retention, pay, step, cap, low⟩
        dsimp only
        rw [PerLane.get_modify]
        split
        · split
          · rfl
          · rename_i hzero; exact ModeSet.ofCode_isEmpty hzero (by omega)
        · exact modes m
    · cases hw
  case h_3 =>
    cases hw
    exact ⟨speed, modes, hrange 1 30 (by omega), burst, filter, tolerance, high, own, life, hold, lockout, retention, pay, step, cap, low⟩
  case h_4 =>
    cases hw
    exact ⟨speed, modes, silence, hrange 8 120 (by omega), filter, tolerance, high, own, life, hold, lockout, retention, pay, step, cap, low⟩
  case h_5 =>
    cases hw
    exact ⟨speed, modes, silence, burst, clampFilter_ok _, tolerance, high, own, life, hold, lockout, retention, pay, step, cap, low⟩
  case h_6 =>
    cases hw
    exact ⟨speed, modes, silence, burst, filter, (hrange 0 3 (by omega)).2, high, own, life, hold, lockout, retention, pay, step, cap, low⟩
  case h_7 =>
    cases hw
    exact ⟨speed, modes, silence, burst, filter, tolerance, largestNotAbove_mem _ _ _, own, life, hold, lockout, retention, pay, step, cap, low⟩
  case h_8 =>
    cases hw
    exact ⟨speed, modes, silence, burst, filter, tolerance, high, hrange 1 255 (by omega), life, hold, lockout, retention, pay, step, cap, low⟩
  case h_9 =>
    cases hw
    exact ⟨speed, modes, silence, burst, filter, tolerance, high, own, hrange 10 1440 (by omega), hold, lockout, retention, pay, step, cap, low⟩
  case h_10 =>
    cases hw
    exact ⟨speed, modes, silence, burst, filter, tolerance, high, own, life, hrange 5 1440 (by omega), lockout, retention, pay, step, cap, low⟩
  case h_11 =>
    cases hw
    have := hrange 60 20160 (by omega)
    refine ⟨speed, modes, silence, burst, filter, tolerance, high, own, life, hold, ?_, ?_, pay, step, cap, low⟩ <;> dsimp only <;> omega
  case h_12 =>
    cases hw
    refine ⟨speed, modes, silence, burst, filter, tolerance, high, own, life, hold, lockout, ?_, pay, step, cap, low⟩
    dsimp only; omega
  case h_13 =>
    cases hw
    exact ⟨speed, modes, silence, burst, filter, tolerance, high, own, life, hold, lockout, retention, hrange 5 120 (by omega), step, cap, low⟩
  case h_14 =>
    cases hw
    exact ⟨speed, modes, silence, burst, filter, tolerance, high, own, life, hold, lockout, retention, pay, largestNotAbove_mem _ _ _, cap, low⟩
  case h_15 =>
    cases hw
    exact ⟨speed, modes, silence, burst, filter, tolerance, high, own, life, hold, lockout, retention, pay, step,
      (hrange 0 1000000 (by omega)).2, low⟩
  case h_16 =>
    cases hw
    exact ⟨speed, modes, silence, burst, filter, tolerance, high, own, life, hold, lockout, retention, pay, step, cap,
      (hrange 0 10000000 (by omega)).2⟩
  case h_17 => cases hw

theorem State.afterWrite_within (s : State) (identifier : Nat) : Within s (s.afterWrite identifier) := by
  unfold State.afterWrite
  split
  · exact s.raiseSweep_within
  · exact .refl s

theorem State.handleSettingsWrite_within (s : State) (identifier index value : Nat) : Within s (s.handleSettingsWrite identifier index value) := by
  unfold State.handleSettingsWrite
  split
  · exact s.replyCode_within _ _
  · rename_i st stored hw
    have written : Within s ({ s with settings := st } : State) :=
      .of_settings rfl rfl rfl rfl rfl (fun ⟨live, image, saving⟩ => ⟨Settings.write_ok live hw, image, saving⟩)
    exact (written.trans (State.afterWrite_within _ _)).reply _ _

theorem Image.erased_valid (i : Image) : i.erased.valid = false := by
  simp [Image.valid, Image.erased, goodSignature]

/-- The copy of a save and the image before it are in range as the live settings and the image were (R209). -/
theorem State.beginSave_within (s : State) : Within s { s with saving := some ⟨s.settings, s.image⟩, image := s.image.erased } := by
  refine .of_settings rfl rfl rfl rfl rfl (fun ⟨live, image, _⟩ => ⟨live, fun h => ?_, fun v hv => ?_⟩)
  · rw [Image.erased_valid] at h; cases h
  · cases hv; exact ⟨live, image⟩

/-- The end of a save leaves an image whose values are in range when it is valid (R209). -/
theorem State.endSave_within {s : State} {save : Save} (hs : s.saving = some save) {i : Image}
    (hi : i = Image.of save.copy ∨ i = s.image ∨ i = save.former) :
    Within s { s with saving := none, image := i } := by
  refine .of_settings rfl rfl rfl rfl rfl (fun ⟨live, image, saving⟩ => ⟨live, ?_, fun v hv => by cases hv⟩)
  obtain ⟨copy, former⟩ := saving save hs
  rcases hi with rfl | rfl | rfl
  · exact fun _ => copy
  · exact image
  · exact former

theorem State.cutSave_within (s : State) : Within s s.cutSave := by
  unfold State.cutSave
  split
  · exact .refl s
  · rename_i save hs
    refine (State.endSave_within hs (i := if Config.saveWritten s.freeIndex then Image.of save.copy
      else if Config.saveErased s.freeIndex then s.image else save.former) ?_).trans (.of_same rfl)
    split
    · exact .inl rfl
    · split
      · exact .inr (.inl rfl)
      · exact .inr (.inr rfl)

theorem execSaveComplete_within (same : Bool) (s : State) : ∀ t, execSaveComplete same s = .next t → Within s t := by
  intro t ht
  cases ht
  split
  · exact .refl s
  · rename_i save hs
    split
    · exact (State.endSave_within hs (.inl rfl)).trans (State.replyOldest_within _ _ _ _)
    · have failed : Within s ({ s with saving := none } : State) := State.endSave_within hs (i := s.image) (.inr (.inl rfl))
      exact (failed.trans (State.raiseSaveFailed_within _)).trans (State.replyOldest_within _ _ _ _)

/-! ## Starts -/

theorem State.cutStart_within (s : State) : Within s s.cutStart := by
  refine .of_same ?_
  unfold State.cutStart
  split
  · split <;> rfl
  · rfl

theorem State.cutShort_within (s : State) : Within s s.cutShort := s.cutSave_within.trans (State.cutStart_within _)

theorem Image.load_ok {i : Image} (h : i.valid = true → i.values.ok) : i.load.ok := by
  unfold Image.load
  split
  · rename_i hv; exact h hv
  · exact Settings.default_ok

theorem State.loadSettings_within (s : State) : Within s s.loadSettings := by
  have loaded : Within s ({ s with settings := s.image.load } : State) :=
    .of_settings rfl rfl rfl rfl rfl (fun ⟨_, image, saving⟩ => ⟨Image.load_ok image, image, saving⟩)
  unfold State.loadSettings
  dsimp only
  split
  · exact loaded
  · exact loaded.trans (.of_same rfl)

/-- A state that holds the start values of what supply keeps alive is in the limits (R203, R210 step 2). -/
theorem State.boundsOk_of_start {s : State} (ports : ∀ l, ∃ speed, s.port l = Port.start speed)
    (lanes : ∀ n, ∃ level filter, s.lane n = Intake.start level filter) (arbiter : s.arbiter = Arbiter.start) : s.boundsOk := by
  refine ⟨fun l => ?_, fun n => ?_, ?_⟩
  · obtain ⟨speed, h⟩ := ports l
    rw [h]; exact Port.start_ok speed
  · obtain ⟨level, filter, h⟩ := lanes n
    rw [h]; exact Intake.start_ok level filter
  · rw [arbiter]; exact Nat.zero_le _

theorem State.startVolatile_within (s : State) : Within s s.startVolatile := by
  refine ⟨fun _ => State.boundsOk_of_start (fun l => ⟨s.settings.speed.get l, ?_⟩) (fun n => ⟨(s.lane n).gateLevel, s.settings.gateFilter, ?_⟩) rfl,
    fun ⟨hs, minute, second, unpowered, _⟩ => ⟨hs, minute, second, unpowered, fun c hc => by cases hc⟩⟩
  · rcases l with (_ | _ | _) | _ | _ <;> rfl
  · exact PerLane.get_map _ _ n

theorem State.dropVolatile_within (s : State) : Within s s.dropVolatile := by
  refine ⟨fun _ => State.boundsOk_of_start (fun l => ⟨(s.port l).speed, ?_⟩) (fun n => ⟨(s.lane n).gateLevel, s.settings.gateFilter, ?_⟩) rfl,
    fun ⟨hs, minute, second, unpowered, _⟩ => ⟨hs, minute, second, unpowered, fun c hc => by cases hc⟩⟩
  · rcases l with (_ | _ | _) | _ | _ <;> rfl
  · exact PerLane.get_map _ _ n

theorem State.startAtPowerOn_within (s : State) : Within s s.startAtPowerOn := by
  have started : Within s s.cutShort.loadSettings.startVolatile :=
    (s.cutShort_within.trans (State.loadSettings_within _)).trans (State.startVolatile_within _)
  unfold State.startAtPowerOn
  dsimp only
  split
  · exact started.trans (.of_values rfl rfl rfl (fun hs ⟨minute, second, _, pending⟩ => ⟨hs, minute, second, Nat.zero_le _, pending⟩))
  · exact started.trans (.of_values rfl rfl rfl (fun hs ⟨_, _, _, pending⟩ =>
      ⟨hs, (by decide : 0 < minuteMod), Nat.zero_le _, Nat.zero_le _, pending⟩))

theorem State.startAtReset_within (s : State) : Within s s.startAtReset :=
  ((s.cutSave_within.trans (State.loadSettings_within _)).trans (State.startVolatile_within _)).trans (.of_same rfl)

theorem State.holdReset_within (s : State) (powerOn : Bool) : Within s (s.holdReset powerOn) :=
  (s.cutShort_within.trans (State.dropVolatile_within _)).trans (.of_same rfl)

theorem State.openLinks_within (s : State) : Within s s.openLinks := by
  refine .trans (Within.lanes (s := s) (f := fun i => { i with breakTimer := seconds 2 }) (fun _ h => h)) (.of_same rfl)

/-! ## The clock -/

theorem minuteAdd_lt (a b : Nat) : minuteAdd a b < minuteMod := Nat.mod_lt _ (by decide)

theorem State.deadlineTest_within (s : State) (i : Fin 24) : Within s (s.deadlineTest i) := by
  unfold State.deadlineTest
  split
  · exact .refl s
  · split
    · have forced : Within s (s.modifyTicket i Ticket.forceClose) := .of_same rfl
      exact (forced.trans (State.closeBatches_within _ _ _)).trans (State.closeTicket_within _ i)
    · exact .refl s

theorem State.expireAtTest_within (s : State) (i : Fin 64) : Within s (s.expireAtTest i) := by
  unfold State.expireAtTest
  split
  · exact .refl s
  · split
    · exact .of_same (by simp [State.bounded])
    · exact .refl s

theorem State.handBoundary_within (s : State) : Within s s.handBoundary := by
  have closed : Within s s.deadlineTests := Within.foldl State.deadlineTest_within _ s
  have expired : Within s s.deadlineTests.expireHolds := closed.trans (Within.foldl State.expireAtTest_within _ _)
  exact (expired.trans (State.reachedTest_within _)).trans (State.raiseExpiriesAndSweep_within _)

theorem State.minuteBoundary_within (s : State) : Within s s.minuteBoundary := by
  have stepped : Within s ({ s with clock := s.clock.minuteStep } : State) :=
    .of_values rfl rfl rfl (fun hs ⟨_, _, unpowered, pending⟩ => ⟨hs, minuteAdd_lt _ _, Nat.zero_le _, unpowered, pending⟩)
  unfold State.minuteBoundary
  dsimp only
  split
  · exact stepped.trans (State.handBoundary_within _)
  · exact stepped.trans (.of_values rfl rfl rfl (fun hs ⟨minute, second, _, pending⟩ => ⟨hs, minute, second, bump_le _ _, pending⟩))
  · exact stepped
  · exact stepped

theorem State.clockSecond_within (s : State) :
    Within s (if s.clock.second < 59 then { s with clock := { s.clock with second := s.clock.second + 1 } } else s.minuteBoundary) := by
  split
  · rename_i h
    exact .of_values rfl rfl rfl (fun hs ⟨minute, _, unpowered, pending⟩ => ⟨hs, minute, h, unpowered, pending⟩)
  · exact s.minuteBoundary_within

/-- A set that is refused MALFORMED otherwise is in the ranges of R181. -/
theorem State.handleSetClock_within (s : State) (minute second : Nat) : Within s (s.handleSetClock minute second) := by
  unfold State.handleSetClock
  split
  · exact s.replyCode_within _ _
  · rename_i hrange
    push Not at hrange
    obtain ⟨hminute, hsecond⟩ := hrange
    split
    · exact s.replyCode_within _ _
    · have waiting : Within s ({ s with setPending := some ⟨minute, second⟩ } : State) :=
        .of_values rfl rfl rfl (fun hs ⟨m, sec, unpowered, _⟩ => ⟨hs, m, sec, unpowered, fun c hc => by cases hc; exact ⟨hminute, hsecond⟩⟩)
      refine waiting.trans (.arbiter (fun h => ?_))
      unfold Arbiter.raiseRebase
      split <;> exact h

theorem State.rebaseTo_within {s : State} {c : ClockSet} (hc : s.setPending = some c) : Within s (s.rebaseTo c) := by
  have moved : Within s ({ s with lanes := s.lanes.map (fun i => { i with
      batch := i.batch.map (Batch.rebase (minuteDiff c.minute s.clock.minute)) }) } : State) := .lanes (fun _ h => h)
  refine moved.trans (.of_values rfl rfl rfl (fun hs ⟨_, _, unpowered, pending⟩ => ?_))
  obtain ⟨minute, second⟩ := pending c hc
  exact ⟨hs, minute, second, unpowered, fun c hc => by cases hc⟩

/-! ## Links -/

theorem Port.flag_ok {p : Port} (h : p.ok) (why : DiscardReason) : (p.flag why).ok := h

theorem State.discard_within (s : State) (l : Link) (why : DiscardReason) : Within s (s.discard l why) := by
  unfold State.discard
  split
  · have dropped : Within s (s.modifyPort l (fun p => p.toHunt.flag why)) :=
      .port (fun h => Port.flag_ok (Port.toHunt_ok h) why)
    exact dropped.trans (State.raiseCheckError_within _)
  · exact .port Port.toHunt_ok

theorem State.discardLength_within (s : State) (l : Link) (len : Byte) : Within s (s.discardLength l len) := by
  unfold State.discardLength
  split
  · exact (s.discard_within l _).trans (.port Port.sync_ok)
  · exact s.discard_within l _

theorem State.clearErrors_within (s : State) : Within s s.clearErrors := by
  refine ⟨fun ⟨hp, hl, ho⟩ => ⟨fun l => ?_, hl, ho⟩, id⟩
  have hsame : s.clearErrors.port l = { s.port l with error := false } := by
    rcases l with (_ | _ | _) | _ | _ <;> rfl
  rw [hsame]
  exact hp l

theorem State.answerFrameSent_within (s : State) (l : Link) : Within s (s.answerFrameSent l) := by
  unfold State.answerFrameSent
  split
  · exact .refl s
  · split
    · exact .port id
    · have sent : Within s (s.modifyPort l Port.answerSent) := .port Port.answerSent_ok
      dsimp only
      split
      · exact sent.trans (State.startAtReset_within _)
      · exact sent

/-! ## Every command -/

/-- A command that keeps the limits wherever it goes. -/
def WithinTo (s : State) (o : Outcome) : Prop := ∀ t, o = .next t → Within s t

theorem WithinTo.next {s t : State} (h : Within s t) : WithinTo s (.next t) := fun _ e => by cases e; exact h

theorem execKeepalive_within (l : Link) (tag : Nat) (s : State) : WithinTo s (execKeepalive l tag s) := by
  refine .next ?_
  split
  · exact s.takeRequest_within _ _ _ (fun u => u.reply_within _ _)
  · exact s.takeRequest_within _ _ _ (fun u => u.replyCode_within _ _)

theorem execOpenTicket_within (tag account : Nat) (cash : Option Nat) (s : State) : WithinTo s (execOpenTicket tag account cash s) := by
  refine .next ?_
  split
  · exact s.takeRequest_within _ _ _ (fun u => u.handleOpen_within _ _ _)
  · refine s.takeRequest_within _ _ _ (fun u => ?_)
    split
    · exact u.handleOpen_within _ _ _
    · exact u.replyCode_within _ _

theorem execVoid_within (tag number : Nat) (s : State) : WithinTo s (execVoid tag number s) := by
  refine .next (s.takeRequest_within _ _ _ (fun u => ?_))
  split
  · exact u.replyCode_within _ _
  · exact u.raiseOrBusy_within _ _

theorem execSettleToAccount_within (tag number : Nat) (s : State) : WithinTo s (execSettleToAccount tag number s) := by
  refine .next (s.takeRequest_within _ _ _ (fun u => ?_))
  split
  · exact u.replyCode_within _ _
  · exact u.raiseOrBusy_within _ _

theorem execVoidWalk_within (s : State) : WithinTo s (execVoidWalk s) := by
  refine .next ?_
  split
  · exact (s.carryVoid_within _).finished _ _ _
  · exact .refl s

theorem execSettleWalk_within (s : State) : WithinTo s (execSettleWalk s) := by
  refine .next ?_
  split
  · exact (s.carrySettle_within _).finished _ _ _
  · exact .refl s

theorem execTicketRead_within (tag number : Nat) (s : State) : WithinTo s (execTicketRead tag number s) := by
  refine .next (s.takeRequest_within _ _ _ (fun u => ?_))
  split <;> exact u.reply_within _ _

theorem execPayTimeout_within (s : State) : WithinTo s (execPayTimeout s) := by
  refine .next ?_
  split
  · exact .refl s
  · dsimp only
    split <;> exact .of_same rfl

theorem execReleaseOperation_within (s : State) : WithinTo s (execReleaseOperation s) := by
  refine .next ?_
  split
  · refine Within.completed ?_
    split
    · exact s.replyOldest_within _ _ _
    · exact (s.carryRelease_within _ _ _ _).trans (State.replyOldest_within _ _ _ _)
  · exact .refl s

theorem execHoldRead_within (tag selector number : Nat) (s : State) : WithinTo s (execHoldRead tag selector number s) := by
  refine .next (s.takeRequest_within _ _ _ (fun u => ?_))
  split
  · split <;> exact u.reply_within _ _
  · split <;> exact u.reply_within _ _
  · exact u.reply_within _ _

theorem execBankWrite_within (tag cls : Nat) (e : RawClassEntry) (s : State) : WithinTo s (execBankWrite tag cls e s) := by
  refine .next (s.takeRequest_within _ _ _ (fun u => ?_))
  unfold State.handleBankWrite
  dsimp only
  split
  · split
    · exact u.replyCode_within _ _
    · exact .answered rfl
  · exact u.replyCode_within _ _

theorem execFeeWrite_within (tag fee : Nat) (s : State) : WithinTo s (execFeeWrite tag fee s) := by
  refine .next (s.takeRequest_within _ _ _ (fun u => ?_))
  unfold State.handleFeeWrite
  dsimp only
  split
  · exact u.replyCode_within _ _
  · exact .answered rfl

theorem execBankRead_within (tag bank cls : Nat) (s : State) : WithinTo s (execBankRead tag bank cls s) := by
  refine .next (s.takeRequest_within _ _ _ (fun u => ?_))
  split <;> exact u.reply_within _ _

theorem execChangeoverArm_within (tag time : Nat) (s : State) : WithinTo s (execChangeoverArm tag time s) := by
  refine .next (s.takeRequest_within _ _ _ (fun u => ?_))
  split
  · exact u.replyCode_within _ _
  · exact .answered (by simp [State.bounded])

theorem execChangeoverDisarm_within (tag : Nat) (s : State) : WithinTo s (execChangeoverDisarm tag s) :=
  .next (s.takeRequest_within _ _ _ (fun _ => .answered rfl))

theorem execWatchWrite_within (key : Bool) (tag entry : Nat) (rule : RawRule) (s : State) :
    WithinTo s (execWatchWrite key tag entry rule s) := by
  refine .next (s.takeKeyed_within _ _ _ _ (fun u => ?_))
  unfold State.handleWatchWrite
  split
  · dsimp only
    split
    · exact u.replyCode_within _ _
    · split
      · exact u.replyCode_within _ _
      · exact .answered rfl
  · exact u.replyCode_within _ _

theorem execWatchRead_within (tag entry : Nat) (s : State) : WithinTo s (execWatchRead tag entry s) := by
  refine .next (s.takeRequest_within _ _ _ (fun u => ?_))
  split <;> exact u.reply_within _ _

theorem execCaptureRead_within (key : Bool) (tag entry : Nat) (s : State) : WithinTo s (execCaptureRead key tag entry s) := by
  refine .next (s.takeKeyed_within _ _ _ _ (fun u => ?_))
  unfold State.handleCaptureRead
  split
  · dsimp only
    split
    · exact u.replyCode_within _ _
    · exact .answered rfl
  · exact u.replyCode_within _ _

theorem execIssue_within (tag : Nat) (serials : List Nat) (s : State) : WithinTo s (execIssue tag serials s) := by
  refine .next (s.takeRequest_within _ _ _ (fun u => ?_))
  split
  · exact u.replyCode_within _ _
  · exact u.raiseOrBusy_within _ _

theorem execIssueOperation_within (s : State) : WithinTo s (execIssueOperation s) := by
  refine .next ?_
  split
  · exact Within.completed (.after (State.replyOldest_within _ _ _ _) rfl)
  · exact .refl s

theorem execRegisterQuery_within (tag serial : Nat) (s : State) : WithinTo s (execRegisterQuery tag serial s) := by
  refine .next (s.takeRequest_within _ _ _ (fun u => ?_))
  split
  · exact u.replyCode_within _ _
  · exact u.raiseOrBusy_within _ _

theorem execRegisterQueryOperation_within (s : State) : WithinTo s (execRegisterQueryOperation s) := by
  refine .next ?_
  split
  · exact (Within.refl s).finished _ _ _
  · exact .refl s

theorem execClearGuard_within (key : Bool) (tag : Nat) (s : State) : WithinTo s (execClearGuard key tag s) := by
  refine .next (s.takeKeyed_within _ _ _ _ (fun u => ?_))
  split
  · exact u.raiseOrBusy_within _ _
  · exact u.replyCode_within _ _

theorem execClearGuardOperation_within (s : State) : WithinTo s (execClearGuardOperation s) := by
  refine .next ?_
  split
  · exact Within.completed (.after (State.replyOldest_within _ _ _ _) rfl)
  · exact .refl s

theorem execSweep_within (s : State) : WithinTo s (execSweep s) := by
  refine .next ?_
  split
  · exact Within.completed (.of_same rfl)
  · exact .refl s

theorem execHoldExpiryOperation_within (s : State) : WithinTo s (execHoldExpiryOperation s) := by
  refine .next ?_
  split
  · refine Within.completed ?_
    split
    · exact .refl s
    · exact .of_same (by simp [State.bounded])
  · exact .refl s

theorem execRebase_within (s : State) : WithinTo s (execRebase s) := by
  refine .next ?_
  split
  · rename_i c _ hc
    exact (((State.rebaseTo_within hc).trans (State.replyOldest_within _ _ _ _)).trans (State.reachedTest_within _)).completed
  · exact .refl s

theorem execSaveSettings_within (tag : Nat) (s : State) : WithinTo s (execSaveSettings tag s) := by
  refine .next (s.takeRequest_within _ _ _ (fun u => ?_))
  split
  · exact u.replyCode_within _ _
  · exact u.beginSave_within

theorem execRestartLane_within (tag lane : Nat) (s : State) : WithinTo s (execRestartLane tag lane s) := by
  refine .next (s.takeRequest_within _ _ _ (fun u => ?_))
  split
  · exact u.replyCode_within _ _
  · exact ((u.replyCode_within _ _).trans (State.enterDown_within _ _)).trans (.lane id)

theorem execLinkStatus_within (tag : Nat) (s : State) : WithinTo s (execLinkStatus tag s) := by
  refine .next (s.takeRequest_within _ _ _ (fun u => ?_))
  have drawn : Within u ({ u with freeIndex := u.freeIndex + 3 } : State) := .of_same rfl
  exact (drawn.trans (State.clearErrors_within _)).reply _ _

theorem State.rejectFrame_within (s : State) (l : Link) (kind tag : Nat) : Within s (s.rejectFrame l kind tag) :=
  s.takeRequest_within _ _ _ (fun u => u.reply_within _ _)

theorem execReject_within (l : Link) (kind tag : Nat) (s : State) : WithinTo s (execReject l kind tag s) := by
  refine .next ?_
  split
  · exact .refl s
  · exact s.rejectFrame_within _ _ _

theorem execFrameOverflow_within (l : Link) (s : State) : WithinTo s (execFrameOverflow l s) := by
  refine .next ?_
  split
  · exact s.overflow_within l
  · exact .refl s

theorem execFrameDiscard_within (l : Link) (why : BadFrame) (s : State) : WithinTo s (execFrameDiscard l why s) := by
  refine .next ?_
  split
  · exact .refl s
  · split
    · split
      · exact .refl s
      · exact s.discardLength_within _ _
    · exact s.discard_within _ _

theorem execGapTimerExpiry_within (l : Link) (s : State) : WithinTo s (execGapTimerExpiry l s) := by
  refine .next ?_
  split
  · exact s.discard_within _ _
  · exact .refl s

theorem execFrameSent_within (l : Link) (s : State) : WithinTo s (execFrameSent l s) := by
  refine .next ?_
  split
  · exact .refl s
  · exact s.answerFrameSent_within l
  · exact .port Port.ownSent_ok

theorem execTakeInHand_within (n : Lane) (s : State) : WithinTo s (execTakeInHand n s) := by
  refine .next ?_
  split
  · exact s.takeInHand_within n
  · exact .refl s

theorem execVerdictOperation_within (s : State) : WithinTo s (execVerdictOperation s) := by
  refine .next ?_
  split
  · refine Within.completed ?_
    split
    · exact .refl s
    · exact s.completeHead_within _ _
  · exact .refl s

theorem execLaneSilenceExpiry_within (n : Lane) (s : State) : WithinTo s (execLaneSilenceExpiry n s) := by
  refine .next ?_
  split
  · exact s.enterDown_within n
  · exact .refl s

theorem execBreakIntervalEnd_within (n : Lane) (s : State) : WithinTo s (execBreakIntervalEnd n s) := by
  refine .next ?_
  split
  · exact (Within.lane id).trans (State.sendOwn_within _ n _)
  · exact .refl s

theorem execMuteRelease_within (n : Lane) (s : State) : WithinTo s (execMuteRelease n s) := by
  refine .next (.lane (fun h => ?_))
  split <;> exact h

theorem execBurstWindowRestart_within (s : State) : WithinTo s (execBurstWindowRestart s) := by
  refine .next ?_
  split
  · exact .lanes (fun _ h => h)
  · exact .refl s

theorem execLinkSilenceExpiry_within (l : Link) (s : State) : WithinTo s (execLinkSilenceExpiry l s) := by
  refine .next ?_
  split
  · exact .refl s
  · refine .port (fun h => ?_)
    split <;> exact h
  · refine .port (fun h => ?_)
    split <;> exact h

theorem execGateEdge_within (n : Lane) (s : State) : WithinTo s (execGateEdge n s) := by
  refine .next ?_
  split
  · exact .refl s
  · exact s.recogniseGate_within n

theorem execEndOfStartUp_within (s : State) : WithinTo s (execEndOfStartUp s) := by
  refine .next ?_
  split
  · exact s.handBoundary_within.trans (State.openLinks_within _)
  · exact .refl s

theorem execResetInput_within (s : State) : WithinTo s (execResetInput s) := by
  refine .next ?_
  split
  · exact .refl s
  · exact .refl s
  · exact s.holdReset_within _
  · exact s.holdReset_within _

theorem execResetInputRelease_within (s : State) : WithinTo s (execResetInputRelease s) := by
  refine .next ?_
  split
  · exact s.startAtPowerOn_within
  · exact s.startAtReset_within
  · exact .refl s

theorem execSupplyLoss_within (s : State) : WithinTo s (execSupplyLoss s) := by
  have dropped : Within s s.cutShort.dropVolatile := s.cutShort_within.trans (State.dropVolatile_within _)
  refine .next ?_
  split
  · exact .refl s
  · exact dropped.trans (.of_same rfl)

theorem execBatteryFall_within (s : State) : WithinTo s (execBatteryFall s) := by
  refine .next ?_
  split <;> exact .of_same rfl

theorem execBatteryLevelChange_within (low : Bool) (s : State) : WithinTo s (execBatteryLevelChange low s) := by
  refine .next ?_
  split <;> exact .of_same rfl

/-- The commands other than BYTE_RECEIVED keep the limits. -/
theorem exec_within_of_ne_byte {c : Instr} (hc : ∀ l key byte, c ≠ .byteReceived l key byte) (s : State) : WithinTo s (exec c s) := by
  cases c with
  | offer n tag ability version ack => exact .next (s.takeRequest_within _ _ _ (fun u => u.handleOffer_within n _ ack))
  | item n it => exact .next (s.takeItem_within n it)
  | bind n tag ticket => exact .next (s.takeRequest_within _ _ _ (fun u => u.handleBind_within n ticket))
  | unbind n tag => exact .next (s.takeRequest_within _ _ _ (fun u => u.handleUnbind_within n))
  | keepalive l tag => exact execKeepalive_within l tag s
  | openTicket tag account cash => exact execOpenTicket_within tag account cash s
  | quote tag ticket => exact .next (s.takeRequest_within _ _ _ (fun u => u.handleQuote_within ticket))
  | close tag ticket => exact .next (s.takeRequest_within _ _ _ (fun u => u.handleClose_within ticket))
  | adjust tag ticket cls grade ownership delta =>
    exact .next (s.takeRequest_within _ _ _ (fun u => u.handleAdjust_within ticket cls grade ownership delta))
  | confirmCount tag ticket => exact .next (s.takeRequest_within _ _ _ (fun u => u.handleConfirmCount_within ticket))
  | void tag ticket => exact execVoid_within tag ticket s
  | voidWalk => exact execVoidWalk_within s
  | settleToAccount tag ticket => exact execSettleToAccount_within tag ticket s
  | settleWalk => exact execSettleWalk_within s
  | collect tag ticket => exact .next (s.takeRequest_within _ _ _ (fun u => u.handleCollect_within ticket))
  | ticketRead tag ticket => exact execTicketRead_within tag ticket s
  | pay tag ticket => exact .next (s.takeRequest_within _ _ _ (fun u => u.handlePay_within ticket))
  | dispensed tag ticket amount => exact .next (s.takeRequest_within _ _ _ (fun u => u.handleDispensed_within ticket amount))
  | payTimeout => exact execPayTimeout_within s
  | resolve key tag ticket amount => exact .next (s.takeKeyed_within _ _ _ _ (fun u => u.handleResolve_within key ticket amount))
  | tillLoad key tag amount => exact .next (s.takeKeyed_within _ _ _ _ (fun u => u.handleTillLoad_within key amount))
  | tillCount key tag balance => exact .next (s.takeKeyed_within _ _ _ _ (fun u => u.handleTillCount_within key balance))
  | release tag hold verdict amended => exact .next (s.takeRequest_within _ _ _ (fun u => u.handleRelease_within hold verdict amended))
  | releaseOperation => exact execReleaseOperation_within s
  | holdRead tag selector number => exact execHoldRead_within tag selector number s
  | bankWrite tag cls entry => exact execBankWrite_within tag cls entry s
  | feeWrite tag fee => exact execFeeWrite_within tag fee s
  | bankRead tag bank cls => exact execBankRead_within tag bank cls s
  | changeoverArm tag time => exact execChangeoverArm_within tag time s
  | changeoverDisarm tag => exact execChangeoverDisarm_within tag s
  | watchWrite key tag entry rule => exact execWatchWrite_within key tag entry rule s
  | watchRead tag entry => exact execWatchRead_within tag entry s
  | captureRead key tag entry => exact execCaptureRead_within key tag entry s
  | issue tag serials => exact execIssue_within tag serials s
  | issueOperation => exact execIssueOperation_within s
  | registerQuery tag serial => exact execRegisterQuery_within tag serial s
  | registerQueryOperation => exact execRegisterQueryOperation_within s
  | clearGuard key tag => exact execClearGuard_within key tag s
  | clearGuardOperation => exact execClearGuardOperation_within s
  | setClock tag minute second => exact .next (s.takeRequest_within _ _ _ (fun u => u.handleSetClock_within minute second))
  | rebase => exact execRebase_within s
  | clockRead tag => exact .next (s.takeRequest_within _ _ _ (fun u => u.reply_within _ _))
  | settingsWrite tag identifier index value =>
    exact .next (s.takeRequest_within _ _ _ (fun u => u.handleSettingsWrite_within identifier index value))
  | settingsRead tag => exact .next (s.takeRequest_within _ _ _ (fun u => u.reply_within _ _))
  | saveSettings tag => exact execSaveSettings_within tag s
  | saveComplete same => exact execSaveComplete_within same s
  | linkStatus tag => exact execLinkStatus_within tag s
  | restartLane tag lane => exact execRestartLane_within tag lane s
  | attentionRead tag => exact .next (s.takeRequest_within _ _ _ (fun _ => .answered rfl))
  | resetUnit tag => exact .next (s.takeRequest_within _ _ _ (fun u => u.replyCode_within _ _))
  | reject l kind tag => exact execReject_within l kind tag s
  | frameOverflow l => exact execFrameOverflow_within l s
  | frameDiscard l why => exact execFrameDiscard_within l why s
  | gapTimerExpiry l => exact execGapTimerExpiry_within l s
  | frameSent l => exact execFrameSent_within l s
  | takeInHand n => exact execTakeInHand_within n s
  | verdictOperation => exact execVerdictOperation_within s
  | laneSilenceExpiry n => exact execLaneSilenceExpiry_within n s
  | breakIntervalEnd n => exact execBreakIntervalEnd_within n s
  | muteRelease n => exact execMuteRelease_within n s
  | burstWindowRestart => exact execBurstWindowRestart_within s
  | linkSilenceExpiry l => exact execLinkSilenceExpiry_within l s
  | gateInputChange n broken => exact .next (.lane (fun h => Intake.gateChange_ok h _ _ broken))
  | gateEdge n => exact execGateEdge_within n s
  | minuteBoundary => exact .next s.minuteBoundary_within
  | holdExpiryOperation => exact execHoldExpiryOperation_within s
  | sweep => exact execSweep_within s
  | powerOnReset => exact .next s.startAtPowerOn_within
  | endOfStartUp => exact execEndOfStartUp_within s
  | resetInput => exact execResetInput_within s
  | resetInputRelease => exact execResetInputRelease_within s
  | supplyLoss => exact execSupplyLoss_within s
  | batteryFall => exact execBatteryFall_within s
  | byteReceived l key byte => exact absurd rfl (hc l key byte)
  | clockSecond => exact .next s.clockSecond_within
  | batteryLevelChange low => exact execBatteryLevelChange_within low s

/-! ## Bytes received -/

theorem runFrame_within (c : Instr) (s : State) : WithinTo s (runFrame c s) := by
  rcases runFrame_eq c s with ⟨h, hc⟩ | h
  · rw [h]; exact exec_within_of_ne_byte hc s
  · rw [h]; exact .next (.refl s)

theorem State.takeBadLength_within (s : State) (l : Link) (kind tag : Nat) : Within s (s.takeBadLength l kind tag) := by
  unfold State.takeBadLength State.takeBadItem
  split
  · split
    · split
      · exact s.heardLane_within l
      · exact s.overflow_within l
    · exact .refl s
  · exact s.takeRequest_within _ _ _ (fun u => u.replyCode_within _ _)

theorem takeFrame_within (l : Link) (key : Bool) (kind tag : Nat) (payload : List Byte) (s : State) :
    WithinTo s (takeFrame l key kind tag payload s) := by
  unfold takeFrame
  split
  · exact .next (s.rejectFrame_within l kind tag)
  · exact .next (s.rejectFrame_within l kind tag)
  · exact .next (s.takeBadLength_within l kind tag)
  · exact runFrame_within _ s

theorem State.endFrame_within (s : State) (l : Link) (key : Bool) (byte : Byte) : WithinTo s (s.endFrame l key byte) := by
  unfold State.endFrame
  dsimp only
  split
  · intro t ht
    exact (Within.port Port.toHunt_ok).trans (takeFrame_within l key _ _ _ _ t ht)
  · exact .next (s.discard_within l .check)

/-- Each assembly state takes its byte within the buffer's limits (R188). -/
theorem State.receive_within (s : State) (l : Link) (key : Bool) (byte : Byte) : WithinTo s (s.receive l key byte) := by
  unfold State.receive
  split
  · refine .next ?_
    split
    · exact .port Port.sync_ok
    · exact .refl s
  · rename_i ha
    refine .next ?_
    split
    · rename_i good; exact .port (fun h => Port.keepLen_ok h ha good)
    · exact s.discardLength_within l byte
  · rename_i ha; exact .next (.port (fun h => Port.keepBody_ok h ha byte))
  · rename_i ha
    split
    · rename_i first; exact .next (.port (fun h => Port.keepCheck_ok h ha first byte))
    · exact s.endFrame_within l key byte

theorem execByteReceived_within (l : Link) (key : Bool) (byte : Byte) (s : State) : WithinTo s (execByteReceived l key byte s) := by
  unfold execByteReceived
  split
  · exact .next (.refl s)
  · intro t ht
    exact .after (State.receive_within _ l key byte t ht) rfl

/-- Every command keeps the limits of queues, lists and buffers, and the ranges of settings and clock. -/
theorem exec_within (c : Instr) (s : State) : WithinTo s (exec c s) := by
  by_cases hc : ∀ l key byte, c ≠ .byteReceived l key byte
  · exact exec_within_of_ne_byte hc s
  · push Not at hc
    obtain ⟨l, key, byte, rfl⟩ := hc
    exact execByteReceived_within l key byte s

theorem step_within {s t : State} (h : step s = .next t) : Within s t := by
  unfold step at h
  split at h
  · cases h; exact .refl s
  · exact .after (exec_within _ _ t h) rfl

/-- Settles O60: the case analysis over commands is `exec_within`. -/
theorem everyStepKeepsTheLimitsSettingsAndClock : Obligations.EveryStepKeepsTheLimitsSettingsAndClock :=
  ⟨fun _ _ hs h => (step_within h).bounds hs, fun _ _ hs h => (step_within h).values hs⟩

end Sys2Proof.Machine

/-! PROOFS. Frames that a link does not take (R37, R191, R210). -/

namespace Sys2Proof.Machine

open Sys2Proof

/-- What becomes of a frame at its link: dropped on a deaf link, counted on a full port, and otherwise taken. -/
def State.atLink (s : State) (l : Link) (taken : State) : State :=
  if s.listening l then (if s.hasRoom l then taken else s.overflow l) else s

theorem State.atLink_of_deaf {s : State} {l : Link} (h : s.deaf l) (taken : State) : s.atLink l taken = s :=
  if_neg (by simp [State.listening_eq_false.mpr h])

theorem State.atLink_of_full {s : State} {l : Link} (h : ¬ s.deaf l) (full : 32 ≤ (s.port l).outstanding.length) (taken : State) :
    s.atLink l taken = s.overflow l := by
  have listens : s.listening l = true := by rw [← Bool.not_eq_false, State.listening_eq_false]; exact h
  unfold State.atLink
  rw [if_pos listens, if_neg (by simpa [State.hasRoom] using full)]

/-- Every frame command is taken, counted or dropped at its link as the state stands with the key level it carries. -/
theorem exec_of_encodeFrame {c : Instr} {img : FrameImage} (h : encodeFrame c = some img) (s : State) :
    ∃ taken, exec c s = .next ((s.keyed c).atLink img.link taken) := by
  cases c with
  | openTicket tag account cash => cases cash <;> cases h <;> exact ⟨_, rfl⟩
  | keepalive l tag => cases h; cases l <;> exact ⟨_, rfl⟩
  | _ => cases h <;> exact ⟨_, rfl⟩

/-- The key level a command carries is no matter for whether its frame is taken. -/
theorem State.keyed_cases (s : State) (c : Instr) : s.keyed c = s ∨ ∃ key, s.keyed c = s.withKey key := by
  unfold State.keyed
  split
  case h_8 => exact .inl rfl
  all_goals exact .inr ⟨_, rfl⟩

@[simp] theorem State.keyed_deaf (s : State) (c : Instr) (l : Link) : (s.keyed c).deaf l ↔ s.deaf l := by
  rcases s.keyed_cases c with h | ⟨key, h⟩ <;> rw [h] <;> exact Iff.rfl

@[simp] theorem State.keyed_port (s : State) (c : Instr) (l : Link) : (s.keyed c).port l = s.port l := by
  rcases s.keyed_cases c with h | ⟨key, h⟩ <;> rw [h] <;> rfl

theorem State.overflow_eq (s : State) (l : Link) :
    s.overflow l = { s.modifyPort l (fun p => { p with overflow := min 65535 (p.overflow + 1) }) with
      edges := { s.edges with checkError := true } } := by
  simp only [State.overflow, bump_eq_min]; rfl

/-- Settles O5: every frame goes through `State.atLink`. -/
theorem frameOnADeafOrFullPortIsNotTaken : Obligations.FrameOnADeafOrFullPortIsNotTaken := by
  refine ⟨fun c img s l kind tag => ⟨fun henc hdeaf => ?_, fun hdeaf => ⟨?_, ?_⟩⟩,
    fun c img s l kind tag => ⟨fun henc hdeaf full => ?_, fun hdeaf full => ?_, fun hdeaf full hkind => ?_⟩⟩
  · obtain ⟨taken, h⟩ := exec_of_encodeFrame henc s
    rw [h, State.atLink_of_deaf (by simpa using hdeaf)]
  · have dropped : s.rejectFrame l kind tag = s := State.atLink_of_deaf hdeaf _
    show Host.Outcome.next (if _ then s else s.rejectFrame l kind tag) = _
    rw [dropped, ite_self]
  · exact congrArg _ (if_neg (by simp [State.listening_eq_false.mpr hdeaf]))
  · obtain ⟨taken, h⟩ := exec_of_encodeFrame henc s
    rw [h, State.atLink_of_full (by simpa using hdeaf) (by simpa using full), State.overflow_eq]
  · have listens : s.listening l = true := by rw [← Bool.not_eq_false, State.listening_eq_false]; exact hdeaf
    have noRoom : s.hasRoom l = false := by simpa [State.hasRoom] using full
    exact congrArg _ ((if_pos ⟨listens, noRoom⟩).trans (s.overflow_eq l))
  · have counted : s.rejectFrame l kind tag = s.overflow l := State.atLink_of_full hdeaf full _
    refine congrArg _ ((if_neg (by simpa using hkind)).trans ?_)
    rw [counted, State.overflow_eq]

end Sys2Proof.Machine

/-! PROOFS. The timers of lanes and links (R35, R36, R47, R51, R62, R63, R194). -/

namespace Sys2Proof.Machine

open Sys2Proof

theorem laneOfNumber_num (n : Lane) : laneOfNumber n.num = some n := by cases n <;> rfl

theorem laneOfNumber_eq_none {lane : Nat} (h : 2 < lane) : laneOfNumber lane = none := by
  unfold laneOfNumber
  split
  · omega
  · omega
  · omega
  · rfl

/-- A lane's own restart is no frame of its link, so only its port on F is heard (R63). -/
theorem execRestartLane_of_lane {s : State} (h : s.canTake .f) (tag : Nat) (n : Lane) : exec (.restartLane tag n.num) s =
    .next (((s.answered .f 0x59 tag ⟨.ok, .empty⟩).enterDown n).modifyLane n (fun i => { i with stray := 0 })) := by
  show Host.Outcome.next _ = _
  rw [State.takeRequest_of_canTake h, laneOfNumber_num]
  rfl

theorem execRestartLane_of_none {s : State} (h : s.canTake .f) (tag : Nat) {lane : Nat} (hlane : 2 < lane) :
    exec (.restartLane tag lane) s = .next (s.refusedWith .f 0x59 tag .malformed) := by
  refine congrArg _ (State.takeRequest_refused h ?_)
  rw [laneOfNumber_eq_none hlane]

/-- The part's offer as a lane makes it on its entry into LISTEN (R51, R53). -/
theorem State.endBreak_eq (s : State) (n : Lane) :
    s.endBreak n = (s.modifyLane n (fun i => { i with state := .listen, breakTimer := none })).sentOrLost n
      (.offer ⟨s.settings.modes.get n, false, .listen, none, none⟩) := by
  unfold State.endBreak
  dsimp only
  rw [State.sendOwn_of_up (by simp)]
  simp [State.partOffer]
  rfl

/-- Settles O39. -/
theorem laneAndLinkTimersExpire : Obligations.LaneAndLinkTimersExpire := by
  refine ⟨fun s tag lane n => ⟨fun running => ?_, fun stopped => ?_, fun htake hlane => ?_, fun htake hlane => ?_⟩,
    fun s n st l => ⟨fun running hdown => ?_, fun running hformer => ?_, fun hrunning => ?_, fun hl running => ?_⟩⟩
  · exact congrArg _ (if_pos (Option.isSome_iff_ne_none.mpr running))
  · exact congrArg _ (if_neg (by simp [stopped]))
  · rw [hlane, execRestartLane_of_lane htake]; rfl
  · exact execRestartLane_of_none htake tag hlane
  · refine congrArg _ ((if_pos ⟨Option.isSome_iff_ne_none.mpr running, hdown⟩).trans (s.endBreak_eq n))
  · obtain ⟨left, hleft⟩ := Option.ne_none_iff_exists'.mp running
    refine congrArg _ (State.modifyLane_congr ?_)
    rw [hleft, hformer]
  · exact congrArg _ (if_pos (by simp [State.running, hrunning]))
  · have expires : (s.port l).silence.isSome = true := Option.isSome_iff_ne_none.mpr running
    rcases hl with rfl | rfl
    · refine congrArg _ (State.modifyPort_congr ?_); exact if_pos expires
    · refine congrArg _ (State.modifyPort_congr ?_); exact if_pos expires

end Sys2Proof.Machine

/-! PROOFS. The sequence check and the MALFORMED detail of an item (R29, R31). -/

namespace Sys2Proof.Machine

open Sys2Proof

/-! ## The sequence check (R29) -/

/-- How far a sequence stands behind the last one, in R29's arithmetic. -/
def sequenceStep (last q : Nat) : Nat := (q + (65536 - last % 65536)) % 65536

theorem checkSequence_some (last q : Nat) : checkSequence (some last) q =
    if sequenceStep last q = 1 then .normal else if sequenceStep last q = 0 ∨ 32770 ≤ sequenceStep last q then .stale else .gap := rfl

section Steps

variable {last q : Nat}

/-- The step is the one number below 65,536 that leads from the last sequence to the new one. -/
theorem sequenceStep_eq_iff (hq : q < 65536) {d : Nat} (hd : d < 65536) : sequenceStep last q = d ↔ q = (last + d) % 65536 := by
  unfold sequenceStep
  omega

theorem checkSequence_normal_iff : checkSequence (some last) q = .normal ↔ sequenceStep last q = 1 := by
  rw [checkSequence_some]
  split
  · simp [*]
  · split <;> simp [*]

theorem checkSequence_stale_iff : checkSequence (some last) q = .stale ↔ sequenceStep last q = 0 ∨ 32770 ≤ sequenceStep last q := by
  rw [checkSequence_some]
  split
  · simp [*]
  · split <;> simp [*]

theorem checkSequence_gap_iff : checkSequence (some last) q = .gap ↔ 2 ≤ sequenceStep last q ∧ sequenceStep last q ≤ 32769 := by
  rw [checkSequence_some]
  split
  · simp [*]
  · split
    · simp; omega
    · simp; omega

end Steps

/-! ## The fields (R31) -/

theorem malformedDetail_any_eq_false (mode : Option Mode) (it : Item) : (malformedDetail mode it).any = false ↔
    (∀ c, it.cls = some c → c ≤ 15) ∧ it.grade ≤ 2 ∧ 1 ≤ it.quantity ∧ it.quantity ≤ 64 ∧ (it.serial ≠ 0 → it.quantity = 1)
      ∧ (it.cls = none → mode ≠ some .serial ∧ mode ≠ some .cls) := by
  simp only [malformedDetail, Malformed.any, Bool.or_eq_false_iff]
  cases hcls : it.cls with
  | none => simp [and_assoc, Nat.one_le_iff_ne_zero]
  | some c => simp; omega

/-- Settles O43. -/
theorem sequenceAndFieldsAreChecked : Obligations.SequenceAndFieldsAreChecked := by
  refine ⟨fun q last hq hlast => ⟨rfl, ?_, ?_, ?_⟩, malformedDetail_any_eq_false⟩
  · rw [checkSequence_normal_iff, sequenceStep_eq_iff hq (by omega)]
  · rw [checkSequence_stale_iff]
    constructor
    · intro h
      refine ⟨(65536 - sequenceStep last q) % 65536, by omega, ?_⟩
      unfold sequenceStep; omega
    · rintro ⟨k, hk, hlast⟩
      unfold sequenceStep; omega
  · rw [checkSequence_gap_iff]
    constructor
    · rintro ⟨low, high⟩
      exact ⟨_, low, high, (sequenceStep_eq_iff hq (by omega)).mp rfl⟩
    · rintro ⟨k, low, high, hk⟩
      rw [(sequenceStep_eq_iff hq (by omega)).mpr hk]
      exact ⟨low, high⟩

end Sys2Proof.Machine

/-! PROOFS. The gate filter and its edges (R45, R46, R48). -/

namespace Sys2Proof.Machine

open Sys2Proof

theorem State.modifyLane_self {s : State} {n : Lane} {f : Intake → Intake} (h : f (s.lane n) = s.lane n) : s.modifyLane n f = s := by
  rw [State.modifyLane_congr (g := fun i => i) h]
  cases n <;> rfl

theorem State.running_iff {s : State} : s.running = true ↔ s.phase = .running := by simp [State.running]

section GateChange

variable {i : Intake} {filter : Nat} {broken : Bool}

theorem Intake.gateChange_of_same (h : i.gateLevel = broken) (powered : Bool) : i.gateChange powered filter broken = i := if_pos h

theorem Intake.gateChange_of_new (h : i.gateLevel ≠ broken) (away : i.recognised ≠ some broken) :
    i.gateChange true filter broken = { i with gateLevel := broken, candidate := some ⟨broken, filter⟩ } :=
  (if_neg h).trans (if_neg away)

theorem Intake.gateChange_of_return (h : i.gateLevel ≠ broken) (back : i.recognised = some broken) :
    i.gateChange true filter broken = { i with gateLevel := broken, candidate := none } :=
  (if_neg h).trans (if_pos back)

end GateChange

theorem Intake.activeBatch_of_none {i : Intake} (h : i.batch = none) : i.activeBatch = none := by simp [Intake.activeBatch, h]

/-- The candidate of a lane becomes its recognised level (R45). -/
def Intake.recognise (level : Bool) (i : Intake) : Intake := { i with recognised := some level, candidate := none }

section GateEdge

variable {s : State} {n : Lane} {c : Candidate}

theorem execGateEdge_of_powered (h : s.phase ≠ .off) : exec (.gateEdge n) s = .next (s.recogniseGate n) := congrArg _ (if_neg h)

theorem State.recogniseGate_of_edge (hc : (s.lane n).candidate = some c) (clear : (s.lane n).recognised = some false) (broken : c.broken = true)
    (runs : s.phase = .running) : s.recogniseGate n = (s.modifyLane n (Intake.recognise true)).countEdge n := by
  unfold State.recogniseGate
  rw [hc]
  exact (if_pos ⟨clear, broken, State.running_iff.mpr runs⟩).trans (by rw [broken]; rfl)

theorem State.recogniseGate_of_level (hc : (s.lane n).candidate = some c)
    (h : (s.lane n).recognised ≠ some false ∨ c.broken = false ∨ s.phase ≠ .running) :
    s.recogniseGate n = s.modifyLane n (Intake.recognise c.broken) := by
  have noEdge : ¬((s.lane n).recognised = some false ∧ c.broken = true ∧ s.running = true) := by
    rintro ⟨clear, broken, runs⟩
    rcases h with h | h | h
    · exact h clear
    · rw [broken] at h; cases h
    · exact h (State.running_iff.mp runs)
  unfold State.recogniseGate
  rw [hc]
  exact if_neg noEdge

theorem State.countEdge_of_active {b : Batch} (h : (s.lane n).activeBatch = some b) :
    s.countEdge n = s.modifyLane n (fun i => { i with batch := some { b with gate := min 65535 (b.gate + 1) } }) := by
  unfold State.countEdge
  rw [h]
  simp only [bump_eq_min]

theorem State.countEdge_of_stray (h : (s.lane n).activeBatch = none) :
    s.countEdge n = { s.modifyLane n (fun i => { i with stray := min 65535 (i.stray + 1) }) with
      edges := { s.edges with strayItems := true } } := by
  unfold State.countEdge
  rw [h]
  simp only [bump_eq_min]
  rfl

end GateEdge

@[simp] theorem Intake.recognise_activeBatch (level : Bool) (i : Intake) : (i.recognise level).activeBatch = i.activeBatch := rfl

/-- Settles O45. -/
theorem gateEdgesAreFilteredAndCounted : Obligations.GateEdgesAreFilteredAndCounted := by
  intro s n broken c b i recognised
  have powered (h : s.phase ≠ .off) : (s.phase != .off) = true := by simpa using h
  refine ⟨fun hsame => ?_, fun hnew hp away => ?_, fun hnew hp back => ?_, fun hp hc => ⟨fun hlevel => ?_, fun clear hbroken runs => ⟨?_, ?_⟩⟩⟩
  · exact congrArg _ (State.modifyLane_self (Intake.gateChange_of_same hsame _))
  · refine congrArg _ (State.modifyLane_congr ?_)
    rw [powered hp]
    exact Intake.gateChange_of_new hnew away
  · refine congrArg _ (State.modifyLane_congr ?_)
    rw [powered hp]
    exact Intake.gateChange_of_return hnew back
  · rw [execGateEdge_of_powered hp, State.recogniseGate_of_level hc hlevel]
    rfl
  · intro hb hactive
    have active : ((s.modifyLane n (Intake.recognise true)).lane n).activeBatch = some b := by
      simpa using Intake.activeBatch_of_active hb hactive
    rw [execGateEdge_of_powered hp, State.recogniseGate_of_edge hc clear hbroken runs, State.countEdge_of_active active]
    rfl
  · intro hb
    have stray : ((s.modifyLane n (Intake.recognise true)).lane n).activeBatch = none := by
      rcases hb with hb | ⟨hb, hclosed⟩
      · simpa using Intake.activeBatch_of_none hb
      · simpa using Intake.activeBatch_of_closed hb hclosed
    rw [execGateEdge_of_powered hp, State.recogniseGate_of_edge hc clear hbroken runs, State.countEdge_of_stray stray]
    rfl

end Sys2Proof.Machine

/-! PROOFS. What the verdict logic takes in hand and completes (R66, R67, R80, R109, R193). -/

namespace Sys2Proof.Machine

open Sys2Proof

/-- What an entry needs the register for, in the fields of its item (R67, R68). -/
theorem Entry.needsRegister_iff {e : Entry} : e.needsRegister = true ↔
    e.malformed.any = false ∧ e.ticket ≠ none ∧ e.item.serial ≠ 0 ∧ (e.item.grade = 0 ∨ e.item.grade = 1) := by
  simp only [Entry.needsRegister, Bool.and_eq_true, Bool.not_eq_true', Option.isSome_iff_ne_none, itemInRegister_iff, and_assoc]

theorem State.verdictWillBeSent_iff {s : State} {n : Lane} {e : Entry} :
    s.verdictWillBeSent n e = true ↔ e.lostLink = false ∧ (s.lane n).state ≠ .down := by
  simp [State.verdictWillBeSent]

section Judged

variable {s t : State} {n : Lane} {e : Entry} {v : VerdictFrame}

theorem State.judgeEntry_lane (h : s.judgeEntry n e = (t, v)) (m : Lane) : t.lane m = s.lane m := by
  have same := s.judgeEntry_bounded n e
  rw [h] at same
  exact congrArg (fun b => b.lanes.get m) same

theorem State.judgeEntry_port (h : s.judgeEntry n e = (t, v)) (l : Link) : t.port l = s.port l := by
  have same := s.judgeEntry_bounded n e
  rw [h] at same
  exact congrArg (fun b => b.ports.get l) same

/-- A VERDICT that is sent joins the unsolicited list, where its place is kept (R193). -/
theorem State.sendVerdict_of_sent (sent : e.lostLink = false ∧ (t.lane n).state ≠ .down)
    (room : (t.port (.lane n)).unsolicited.length < 16) : t.sendVerdict n e v = t.modifyPort (.lane n) (fun p =>
      { p with unsolicited := p.unsolicited ++ [.verdict v], order := p.order ++ [.own] }) := by
  obtain ⟨linked, up⟩ := sent
  refine State.modifyPort_congr ?_
  rw [if_neg (by simp [linked, up])]
  exact if_pos room

theorem State.sendVerdict_of_unsent (h : ¬(e.lostLink = false ∧ (t.lane n).state ≠ .down)) : t.sendVerdict n e v = t := by
  have unsent : e.lostLink = true ∨ (t.lane n).state = .down := by
    by_cases linked : e.lostLink = true
    · exact .inl linked
    · exact .inr (by_contra fun up => h ⟨by simpa using linked, up⟩)
  unfold State.sendVerdict
  simp only [if_pos unsent]
  cases n <;> rfl

/-- The head is judged, its VERDICT joins the list where it is sent, and the entry is removed. -/
theorem State.completeHead_eq (h : s.judgeEntry n e = (t, v))
    (room : e.lostLink = false ∧ (s.lane n).state ≠ .down → (s.port (.lane n)).unsolicited.length < 16) :
    s.completeHead n e = (if e.lostLink = false ∧ (s.lane n).state ≠ .down then t.modifyPort (.lane n) (fun p =>
      { p with unsolicited := p.unsolicited ++ [.verdict v], order := p.order ++ [.own] }) else t).removeHead n e := by
  have judged : s.completeHead n e = (t.sendVerdict n e v).removeHead n e := by simp only [State.completeHead, h]
  have hlane : t.lane n = s.lane n := State.judgeEntry_lane h n
  rw [judged]
  split
  · rename_i sent
    rw [State.sendVerdict_of_sent (by rwa [hlane]) (by rw [State.judgeEntry_port h]; exact room sent)]
  · rename_i unsent
    rw [State.sendVerdict_of_unsent (by rwa [hlane])]

end Judged

section TakeInHand

variable {s : State} {n : Lane} {e : Entry} {es : List Entry}

theorem execTakeInHand_of_running (h : s.phase = .running) : exec (.takeInHand n) s = .next (s.takeInHand n) :=
  congrArg _ (if_pos (State.running_iff.mpr h))

theorem State.takeInHand_of_empty (h : (s.lane n).queue = []) : s.takeInHand n = s := by simp [State.takeInHand, h]

theorem State.takeInHand_of_inHand (h : (s.lane n).inHand = true) : s.takeInHand n = s := by
  unfold State.takeInHand
  split
  · rfl
  · exact if_pos h

theorem State.takeInHand_of_noPlace (hq : (s.lane n).queue = e :: es) (sent : e.lostLink = false ∧ (s.lane n).state ≠ .down)
    (full : 15 ≤ (s.port (.lane n)).unsolicited.length) : s.takeInHand n = s := by
  unfold State.takeInHand
  rw [hq]
  exact ite_eq_left_iff.mpr fun _ => if_pos ⟨State.verdictWillBeSent_iff.mpr sent, full⟩

/-- A head that can be taken in hand waits for the register when it needs it, and is completed at once otherwise (R67). -/
theorem State.takeInHand_of_free (hq : (s.lane n).queue = e :: es) (free : (s.lane n).inHand = false)
    (room : e.lostLink = false ∧ (s.lane n).state ≠ .down → (s.port (.lane n)).unsolicited.length < 15) :
    s.takeInHand n = if e.needsRegister then
        (s.modifyLane n (fun i => { i with inHand := true })).modifyArbiter (Arbiter.raiseVerdict n)
      else s.completeHead n e := by
  have place : ¬(s.verdictWillBeSent n e = true ∧ 15 ≤ (s.port (.lane n)).unsolicited.length) := by
    rintro ⟨sent, full⟩
    have := room (State.verdictWillBeSent_iff.mp sent)
    omega
  unfold State.takeInHand
  rw [hq]
  exact (if_neg (by simp [free])).trans (if_neg place)

theorem execVerdictOperation_of_served (serving : s.arbiter.serving = some (.verdict n)) (hq : (s.lane n).queue = e :: es) :
    exec .verdictOperation s = .next (s.completeHead n e).completeOperation := by
  refine congrArg Host.Outcome.next ?_
  rw [serving]
  dsimp only
  rw [hq]

end TakeInHand

/-- Settles O46. -/
theorem verdictLogicTakesTheHead : Obligations.VerdictLogicTakesTheHead := by
  intro s n e es t v i sent needs room done
  have roomy (h : sent → room) : sent → (s.port (.lane n)).unsolicited.length < 16 := fun hs => Nat.lt_succ_of_lt (h hs)
  refine ⟨fun runs nothing => ?_, fun runs hq hsent full => ?_, fun runs hq free place => ⟨fun hneeds => ?_, fun hneeds judged => ?_⟩,
    fun serving hq judged place => ?_⟩
  · rw [execTakeInHand_of_running runs]
    rcases nothing with hq | hin
    · rw [State.takeInHand_of_empty hq]
    · rw [State.takeInHand_of_inHand hin]
  · rw [execTakeInHand_of_running runs, State.takeInHand_of_noPlace hq hsent (Nat.le_of_not_lt full)]
  · rw [execTakeInHand_of_running runs, State.takeInHand_of_free hq free place, if_pos (Entry.needsRegister_iff.mpr hneeds)]
    rfl
  · rw [execTakeInHand_of_running runs, State.takeInHand_of_free hq free place, if_neg (mt Entry.needsRegister_iff.mp hneeds),
      State.completeHead_eq judged (roomy place)]
  · rw [execVerdictOperation_of_served serving hq, State.completeHead_eq judged (fun _ => place)]

end Sys2Proof.Machine

/-! PROOFS. An ITEM at its lane (R28 to R37, R58, R59, R62). -/

namespace Sys2Proof.Machine

open Sys2Proof

/-! ## What stands while an item is handled -/

/-- The silence timer runs in the lane's state, so frames are sent on its link (R62). -/
def State.hears (s : State) (n : Lane) : Prop := (s.lane n).state.silenceRuns = true

theorem State.hears_of_state {s t : State} {n : Lane} (h : s.hears n) (same : (t.lane n).state = (s.lane n).state) : t.hears n := by
  unfold State.hears
  rwa [same]

theorem State.hears_of_running {s : State} {n : Lane} {st : LaneState} (h : (s.lane n).state = st) (runs : st.silenceRuns = true) : s.hears n := by
  unfold State.hears
  rwa [h]

theorem State.up_of_hears {s : State} {n : Lane} (h : s.hears n) : (s.lane n).state ≠ .down := by
  intro hd
  rw [State.hears, hd] at h
  cases h

@[simp] theorem State.raiseLaneFault_lane (s : State) (m : Lane) : s.raiseLaneFault.lane m = s.lane m := rfl

@[simp] theorem State.sendOwn_lane (s : State) (n m : Lane) (f : OwnFrame) : (s.sendOwn n f).lane m = s.lane m := rfl

@[simp] theorem State.sentOrLost_lane (s : State) (n m : Lane) (f : OwnFrame) : (s.sentOrLost n f).lane m = s.lane m := rfl

@[simp] theorem State.refuseAtOnce_lane (s : State) (n m : Lane) (sequence : Nat) (why : Cause) :
    (s.refuseAtOnce n sequence why).lane m = s.lane m := rfl

@[simp] theorem State.releaseBatch_laneState (s : State) (n : Lane) (lost : Bool) :
    ((s.releaseBatch n lost).lane n).state = (s.lane n).state := by
  unfold State.releaseBatch
  split
  · rfl
  · dsimp only
    rw [State.modifyLane_lane_same]
    dsimp only
    split
    · rw [State.ticketRelease_lane]
    · rw [State.ticketRelease_lane]
    · split
      · rw [State.ticketRelease_lane]
      · rw [State.sendOwn_lane, State.ticketRelease_lane]

@[simp] theorem State.flowAfterInsertion_laneState (s : State) (n : Lane) : ((s.flowAfterInsertion n).lane n).state = (s.lane n).state := by
  unfold State.flowAfterInsertion
  dsimp only
  split
  · simp
  · rfl

/-! ## Refusals at once, the landing slot and the queue -/

/-- The VERDICT of a refusal at once (R28). -/
def refusalFrame (sequence : Nat) (why : Cause) : OwnFrame := .verdict ⟨sequence, .refuse, some why, [why], 0xFFFF, false⟩

theorem State.refuseAtOnce_of_hears {s : State} {n : Lane} (h : s.hears n) (sequence : Nat) (why : Cause) :
    s.refuseAtOnce n sequence why = s.sentOrLost n (refusalFrame sequence why) :=
  State.sendOwn_of_up (State.up_of_hears h) _

/-- The new entry in the landing slot, the old one refused OVERRUN unless its link is lost (R32; log 18). -/
def State.relanded (s : State) (n : Lane) (old new : Entry) : State :=
  (if old.lostLink then s else s.sentOrLost n (refusalFrame old.item.sequence .overrun)).modifyLane n (fun i => { i with landing := some new })

@[simp] theorem State.relanded_lane (s : State) (n : Lane) (old new : Entry) :
    (s.relanded n old new).lane n = { s.lane n with landing := some new } := by
  unfold State.relanded
  rw [State.modifyLane_lane_same]
  split <;> rfl

section Overrun

variable {s : State} {n : Lane} {old new : Entry}

theorem State.overrun_eq (h : s.hears n) : s.overrun n old new =
    if old.batchEnd then
      match (s.lane n).batch with
      | none => s.relanded n old new
      | some b =>
        if (s.lane n).queue.getLast?.any (Entry.ofBatch b.ticket) then
          (s.relanded n old new).modifyLane n (fun i => { i with queue := markLast (Entry.ofBatch b.ticket) i.queue })
        else (s.relanded n old new).releaseBatch n old.lostLink
    else s.relanded n old new := by
  unfold State.overrun
  rw [State.refuseAtOnce_of_hears h]
  rfl

theorem State.overrun_of_unmarked (h : s.hears n) (hend : old.batchEnd = false) : s.overrun n old new = s.relanded n old new := by
  rw [State.overrun_eq h, hend]
  rfl

theorem State.overrun_of_unbound (h : s.hears n) (hb : (s.lane n).batch = none) : s.overrun n old new = s.relanded n old new := by
  rw [State.overrun_eq h, hb]
  exact ite_self _

variable {b : Batch} {e : Entry}

/-- The tail of the queue takes the mark of an overrun entry when it is of the batch (R41). -/
theorem State.overrun_of_tail (h : s.hears n) (hend : old.batchEnd = true) (hb : (s.lane n).batch = some b)
    (hlast : (s.lane n).queue.getLast? = some e) (he : e.ticket = some b.ticket) :
    s.overrun n old new = (s.relanded n old new).modifyLane n (fun i =>
      { i with queue := i.queue.dropLast ++ [{ e with batchEnd := true }] }) := by
  have hmark : e.ofBatch b.ticket = true := Entry.ofBatch_iff.mpr he
  have hqueue : (s.lane n).queue = (s.lane n).queue.dropLast ++ [e] := (List.dropLast_append_getLast? e hlast).symm
  have marked : markLast (Entry.ofBatch b.ticket) (s.lane n).queue = (s.lane n).queue.dropLast ++ [{ e with batchEnd := true }] := by
    conv_lhs => rw [hqueue]
    exact markLast_append hmark (by simp) _
  rw [State.overrun_eq h, if_pos hend, hb]
  refine (if_pos (by rw [hlast]; exact hmark)).trans (State.modifyLane_congr ?_)
  rw [State.relanded_lane]
  dsimp only
  rw [marked]

/-- A marked entry that is overrun releases the batch when the tail of the queue is not of it (R41). -/
theorem State.overrun_of_release (h : s.hears n) (hend : old.batchEnd = true) (hb : (s.lane n).batch = some b)
    (hlast : (s.lane n).queue.getLast? = some e) (he : e.ticket ≠ some b.ticket) :
    s.overrun n old new = (s.relanded n old new).releaseBatch n old.lostLink := by
  rw [State.overrun_eq h, if_pos hend, hb]
  exact if_neg (by rw [hlast]; exact mt Entry.ofBatch_iff.mp he)

@[simp] theorem State.overrun_laneState (s : State) (n : Lane) (old new : Entry) :
    ((s.overrun n old new).lane n).state = (s.lane n).state := by
  have landed : (((if old.lostLink then s else s.refuseAtOnce n old.item.sequence .overrun).modifyLane n
      (fun i => { i with landing := some new })).lane n).state = (s.lane n).state := by
    rw [State.modifyLane_lane_same]
    split <;> rfl
  unfold State.overrun
  dsimp only
  split
  · split
    · exact landed
    · split
      · rw [State.modifyLane_lane_same]; exact landed
      · rw [State.releaseBatch_laneState]; exact landed
  · exact landed

end Overrun

section Place

variable {s : State} {n : Lane} {e : Entry}

/-- An entry joins a queue with room, and FLOW SLOW is sent at the high mark (R34). -/
theorem State.placeEntry_of_room (h : s.hears n) (room : (s.lane n).queue.length < 16) : s.placeEntry n e =
    if (s.lane n).slow = false ∧ s.settings.highMark ≤ (s.lane n).queue.length + 1 then
      ((s.modifyLane n (fun i => { i with queue := i.queue ++ [e] })).sentOrLost n (.flow true)).modifyLane n
        (fun i => { i with slow := true })
    else s.modifyLane n (fun i => { i with queue := i.queue ++ [e] }) := by
  have joined : s.placeEntry n e = (s.modifyLane n (fun i => { i with queue := i.queue ++ [e] })).flowAfterInsertion n :=
    (if_pos room).trans (congrArg (State.flowAfterInsertion · n) (State.modifyLane_congr rfl))
  rw [joined]
  split
  · rename_i slows
    exact State.flowAfterInsertion_of_slows (by simpa using ⟨State.up_of_hears h, slows⟩)
  · rename_i quiet
    refine State.flowAfterInsertion_of_quiet ?_
    rintro ⟨_, hslow, hmark⟩
    exact quiet (by simpa using And.intro hslow hmark)

theorem State.placeEntry_of_landing (full : ¬(s.lane n).queue.length < 16) (hl : (s.lane n).landing = none) :
    s.placeEntry n e = s.modifyLane n (fun i => { i with landing := some e }) :=
  (if_neg full).trans (by rw [hl])

theorem State.placeEntry_of_overrun (full : ¬(s.lane n).queue.length < 16) {old : Entry} (hl : (s.lane n).landing = some old) :
    s.placeEntry n e = s.overrun n old e :=
  (if_neg full).trans (by rw [hl])

/-- What becomes of an entry that is placed: it joins the queue, lands beside a full one, or overruns the entry that landed before it (R32, R34). -/
theorem State.placeEntry_eq (h : s.hears n) : s.placeEntry n e =
    if (s.lane n).queue.length < 16 then
      if (s.lane n).slow = false ∧ s.settings.highMark ≤ (s.lane n).queue.length + 1 then
        ((s.modifyLane n (fun i => { i with queue := i.queue ++ [e] })).sentOrLost n (.flow true)).modifyLane n (fun i => { i with slow := true })
      else s.modifyLane n (fun i => { i with queue := i.queue ++ [e] })
    else match (s.lane n).landing with
      | none => s.modifyLane n (fun i => { i with landing := some e })
      | some old => match old.batchEnd, (s.lane n).batch, (s.lane n).queue.getLast? with
        | true, some b, some tail =>
          if tail.ticket = some b.ticket then (s.relanded n old e).modifyLane n (fun i =>
            { i with queue := i.queue.dropLast ++ [{ tail with batchEnd := true }] })
          else (s.relanded n old e).releaseBatch n old.lostLink
        | _, _, _ => s.relanded n old e := by
  by_cases room : (s.lane n).queue.length < 16
  · rw [State.placeEntry_of_room h room, if_pos room]
  · rw [if_neg room]
    cases hl : (s.lane n).landing with
    | none => exact State.placeEntry_of_landing room hl
    | some old =>
      dsimp only
      rw [State.placeEntry_of_overrun room hl]
      obtain ⟨tail, htail⟩ : ∃ tail, (s.lane n).queue.getLast? = some tail := by
        cases hq : (s.lane n).queue with
        | nil => rw [hq] at room; exact absurd (by decide) room
        | cons e es => exact ⟨_, List.getLast?_cons⟩
      rw [htail]
      cases hend : old.batchEnd with
      | false => exact State.overrun_of_unmarked h hend
      | true =>
        cases hb : (s.lane n).batch with
        | none => exact State.overrun_of_unbound h hb
        | some b =>
          by_cases he : tail.ticket = some b.ticket
          · exact (State.overrun_of_tail h hend hb htail he).trans (if_pos he).symm
          · exact (State.overrun_of_release h hend hb htail he).trans (if_neg he).symm

@[simp] theorem State.placeEntry_laneState (s : State) (n : Lane) (e : Entry) : ((s.placeEntry n e).lane n).state = (s.lane n).state := by
  unfold State.placeEntry
  split
  · simp
  · split
    · simp
    · simp

end Place

/-! ## The item itself -/

section Handle

variable {s : State} {n : Lane} {it : Item}

theorem State.itemBurst_eq (s : State) (n : Lane) : s.itemBurst n =
    if (s.lane n).state = .muted then s.modifyLane n (fun i => { i with burst := min 255 ((s.lane n).burst + 1), muteTimer := some 1000 })
    else if min 255 ((s.lane n).burst + 1) ≤ s.settings.burst then
      s.modifyLane n (fun i => { i with burst := min 255 ((s.lane n).burst + 1) })
    else (s.modifyLane n (fun i => { i with
      burst := min 255 ((s.lane n).burst + 1), former := some i.state, state := .muted, muteTimer := some 1000 })).raiseLaneFault := by
  unfold State.itemBurst
  dsimp only
  rw [bump_eq_min]
  split
  · rfl
  · split
    · rename_i high; rw [if_neg (Nat.not_le.mpr high)]; rfl
    · rename_i low; rw [if_pos (Nat.le_of_not_lt low)]

theorem State.itemBurst_hears (h : s.hears n) : (s.itemBurst n).hears n := by
  rw [State.itemBurst_eq]
  split
  · exact State.hears_of_state h (by simp)
  · split
    · exact State.hears_of_state h (by simp)
    · exact State.hears_of_running (st := .muted) (by simp) rfl

@[simp] theorem State.itemBurst_lastSequence (s : State) (n : Lane) : ((s.itemBurst n).lane n).lastSequence = (s.lane n).lastSequence := by
  rw [State.itemBurst_eq]
  split
  · simp
  · split <;> simp

@[simp] theorem State.itemBurst_settings (s : State) (n : Lane) : (s.itemBurst n).settings = s.settings := by
  rw [State.itemBurst_eq]
  split
  · rfl
  · split <;> rfl

theorem Intake.countItem_eq (i : Intake) (q : Nat) (gap : Bool) : i.countItem q gap =
    { i with
      lastSequence := some q
      batch := i.batch.map (fun b =>
        if b.reason = none then { b with gap := b.gap || gap, frames := min 65535 (b.frames + 1) } else b) } := by
  simp [Intake.countItem, Batch.active, bump_eq_min]

@[simp] theorem Intake.countItem_state (i : Intake) (q : Nat) (gap : Bool) : (i.countItem q gap).state = i.state := rfl

/-- A STALE item is refused at once and not counted (R29). -/
theorem State.handleItem_of_stale (h : s.hears n) (hc : checkSequence (s.lane n).lastSequence it.sequence = .stale) :
    s.handleItem n it = (s.itemBurst n).sentOrLost n (refusalFrame it.sequence .stale) := by
  unfold State.handleItem
  dsimp only
  rw [State.itemBurst_lastSequence, hc]
  exact State.refuseAtOnce_of_hears (State.itemBurst_hears h) _ _

/-- Any other item is counted, and refused in MUTED or placed (R28). -/
theorem State.handleItem_of_fresh (h : s.hears n) {c : SequenceCheck} (hc : checkSequence (s.lane n).lastSequence it.sequence = c)
    (fresh : c ≠ .stale) {w : State} (hw : w = (s.itemBurst n).modifyLane n (fun i => i.countItem it.sequence (c == .gap))) :
    s.handleItem n it = if ((s.itemBurst n).lane n).state = .muted then w.sentOrLost n (refusalFrame it.sequence .laneMuted)
      else w.placeEntry n ((w.lane n).entryFor it) := by
  have hears : w.hears n := State.hears_of_state (State.itemBurst_hears h) (by simp [hw])
  have hstate : (w.lane n).state = ((s.itemBurst n).lane n).state := by simp [hw]
  rw [← hstate, ← State.refuseAtOnce_of_hears hears]
  subst hw
  unfold State.handleItem
  dsimp only
  rw [State.itemBurst_lastSequence, hc]
  cases c with
  | stale => exact absurd rfl fresh
  | normal => rfl
  | gap => rfl

theorem State.handleItem_hears (h : s.hears n) : (s.handleItem n it).hears n := by
  have burst := State.itemBurst_hears h
  unfold State.handleItem
  dsimp only
  split
  · exact State.hears_of_state burst (by simp)
  · split
    · exact State.hears_of_state burst (by simp)
    · exact State.hears_of_state burst (by simp)

@[simp] theorem State.handleItem_settings (s : State) (n : Lane) (it : Item) : (s.handleItem n it).settings = s.settings := by
  unfold State.handleItem
  dsimp only
  split
  · simp
  · split <;> simp

/-- The ticket of an entry is the active batch's (R27). -/
theorem Intake.activeTicket_eq (i : Intake) : i.activeBatch.map Batch.ticket =
    match i.batch with | some b => if b.reason = none then some b.ticket else none | none => none := by
  cases hb : i.batch with
  | none => simp [Intake.activeBatch_of_none hb]
  | some b =>
    by_cases hr : b.reason = none
    · simp [Intake.activeBatch_of_active hb hr, hr]
    · simp [Intake.activeBatch_of_closed hb hr, hr]

theorem sensedMode_eq_some {advertised : ModeSet} {m : Mode} : sensedMode advertised it = some m ↔
    (m = .cls ∧ it.cls ≠ none ∧ advertised.cls = true)
      ∨ (m = .tally ∧ ¬(it.cls ≠ none ∧ advertised.cls = true) ∧ advertised.tally = true) := by
  unfold sensedMode
  simp only [Bool.and_eq_true, Option.isSome_iff_ne_none]
  by_cases shown : it.cls ≠ none ∧ advertised.cls = true
  · rw [if_pos shown]
    constructor
    · intro h; cases h; exact .inl ⟨rfl, shown⟩
    · rintro (⟨rfl, _⟩ | ⟨_, hidden, _⟩)
      · rfl
      · exact absurd shown hidden
  · rw [if_neg shown]
    split
    · rename_i tally
      constructor
      · intro h; cases h; exact .inr ⟨rfl, shown, tally⟩
      · rintro (⟨_, h⟩ | ⟨rfl, _⟩)
        · exact absurd h shown
        · rfl
    · rename_i noTally
      constructor
      · intro h; cases h
      · rintro (⟨_, h⟩ | ⟨_, _, h⟩)
        · exact absurd h shown
        · exact absurd h noTally

/-- A lane that heard an item restarts its silence timer (R62). -/
theorem State.heardLane_of_hears {u : State} (h : u.hears n) (same : u.settings = s.settings) :
    u.heardLane (.lane n) = u.modifyLane n (fun i => { i with silenceTimer := some (s.settings.silence * 1000) }) := by
  rw [← same]
  exact State.modifyLane_congr (if_pos h)

theorem State.enterRefused_hears (s : State) (n : Lane) (why : RefusalReason) : (s.enterRefused n why).hears n :=
  State.hears_of_running (st := .refused) (by simp [State.enterRefused]) rfl

end Handle

/-! ## What the item does in each state -/

section States

variable {s : State} {n : Lane} {it : Item}

theorem execItem_of_canTake (h : s.canTake (.lane n)) :
    exec (.item n it) s = .next ((s.itemByState n it).heardLane (.lane n)) := by
  obtain ⟨listens, room⟩ := h
  exact congrArg _ ((if_pos listens).trans (if_pos room))

theorem State.hears_of_handled (h : (s.lane n).state ∈ [.counting, .muted] ∨ ((s.lane n).state = .sensed ∧ (s.lane n).senseCheck = false)) :
    s.hears n := by
  rcases h with h | ⟨hstate, _⟩
  · rcases List.mem_pair.mp h with h | h <;> exact State.hears_of_running h rfl
  · exact State.hears_of_running hstate rfl

theorem State.itemByState_of_handled
    (h : (s.lane n).state ∈ [.counting, .muted] ∨ ((s.lane n).state = .sensed ∧ (s.lane n).senseCheck = false)) :
    s.itemByState n it = s.handleItem n it := by
  unfold State.itemByState
  rcases h with h | ⟨hstate, hcheck⟩
  · rcases List.mem_pair.mp h with h | h <;> rw [h]
  · rw [hstate]
    exact if_neg (by simp [hcheck])

theorem State.itemByState_of_listen (h : (s.lane n).state = .listen) : s.itemByState n it = s.senseItem n it := by
  unfold State.itemByState
  rw [h]

theorem State.itemByState_of_sensing (h : (s.lane n).state = .sensed) (hcheck : (s.lane n).senseCheck = true) :
    s.itemByState n it = s.checkSensed n it := by
  unfold State.itemByState
  rw [h]
  exact if_pos hcheck

theorem State.refusing_cases (h : (s.lane n).state ∈ [.offering, .acking, .refused]) :
    (s.lane n).state = .offering ∨ (s.lane n).state = .acking ∨ (s.lane n).state = .refused := by simpa using h

theorem State.hears_of_refusing (h : (s.lane n).state ∈ [.offering, .acking, .refused]) : s.hears n := by
  rcases State.refusing_cases h with h | h | h <;> exact State.hears_of_running h rfl

theorem State.itemByState_of_refusing (h : (s.lane n).state ∈ [.offering, .acking, .refused]) :
    s.itemByState n it = s.refuseAtOnce n it.sequence .notCounting := by
  unfold State.itemByState
  rcases State.refusing_cases h with h | h | h <;> rw [h]

theorem State.senseItem_of_mode {m : Mode} (h : sensedMode (s.settings.modes.get n) it = some m) :
    s.senseItem n it = (s.modifyLane n (fun i => i.enterSensed m)).handleItem n it := by
  unfold State.senseItem
  rw [h]

theorem State.senseItem_of_none (h : sensedMode (s.settings.modes.get n) it = none) :
    s.senseItem n it = (s.enterRefused n .noCommonMode).refuseAtOnce n it.sequence .notCounting := by
  unfold State.senseItem
  rw [h]

theorem State.checkSensed_of_same {m : Mode} (hm : (s.lane n).resolved = some m) (h : sensedMode (s.settings.modes.get n) it = some m) :
    s.checkSensed n it = (s.modifyLane n (fun i => { i with senseCheck := false })).handleItem n it :=
  if_pos (by rw [h, hm]; exact ⟨rfl, by simp⟩)

theorem State.checkSensed_of_other (h : ∀ m, (s.lane n).resolved = some m → sensedMode (s.settings.modes.get n) it ≠ some m) :
    s.checkSensed n it = ((s.closeBatch n .refused).enterRefused n .senseFault).refuseAtOnce n it.sequence .notCounting := by
  refine if_neg ?_
  rintro ⟨same, resolved⟩
  obtain ⟨m, hm⟩ := Option.ne_none_iff_exists'.mp resolved
  exact h m hm (same.trans hm)

/-- A refusal at once, with the silence timer restarted as the frame is heard (R62). -/
theorem State.refuseAtOnce_heard {u : State} (h : u.hears n) (same : u.settings = s.settings) (sequence : Nat) (why : Cause) :
    (u.refuseAtOnce n sequence why).heardLane (.lane n) = (u.sentOrLost n (refusalFrame sequence why)).modifyLane n
      (fun i => { i with silenceTimer := some (s.settings.silence * 1000) }) := by
  rw [State.refuseAtOnce_of_hears h, State.heardLane_of_hears (s := s) (u := u.sentOrLost n _) h same]

theorem State.handleItem_heard {u : State} (h : u.hears n) (same : u.settings = s.settings) :
    (u.handleItem n it).heardLane (.lane n) = (u.handleItem n it).modifyLane n
      (fun i => { i with silenceTimer := some (s.settings.silence * 1000) }) :=
  State.heardLane_of_hears (State.handleItem_hears h) (by rw [State.handleItem_settings, same])

end States

/-- Settles O44: the item goes through `State.handleItem` and `State.placeEntry`, whose branches the lemmas above describe. -/
theorem itemIsTakenAtTheLane : Obligations.ItemIsTakenAtTheLane := by
  intro s n it m htake i heard refuse fault counted placed handled refused advertised shows req
  have hplaced (u : State) (h : u.hears n) : u.placeEntry n ((u.lane n).entryFor it) = placed u := by
    rw [State.placeEntry_eq h, Intake.entryFor, Intake.activeTicket_eq]
    rfl
  have hhandled (u : State) (h : u.hears n) : u.handleItem n it = handled u := by
    have hcounted (gap : Bool) : (fun i : Intake => i.countItem it.sequence gap) = counted gap :=
      funext fun i => i.countItem_eq it.sequence gap
    have hfresh (c : SequenceCheck) (hc : checkSequence (u.lane n).lastSequence it.sequence = c) (fresh : c ≠ .stale) :
        u.handleItem n it = if ((u.itemBurst n).lane n).state = .muted then
            refuse ((u.itemBurst n).modifyLane n (counted (c == .gap))) it.sequence .laneMuted
          else placed ((u.itemBurst n).modifyLane n (counted (c == .gap))) := by
      rw [State.handleItem_of_fresh h hc fresh rfl, hplaced _ (State.hears_of_state (State.itemBurst_hears h) (by simp)), hcounted]
      rfl
    dsimp only [handled]
    cases hc : checkSequence (u.lane n).lastSequence it.sequence with
    | stale =>
      rw [State.handleItem_of_stale h hc, State.itemBurst_eq]
      rfl
    | normal =>
      rw [hfresh _ hc (by decide), State.itemBurst_eq]
      rfl
    | gap =>
      rw [hfresh _ hc (by decide), State.itemBurst_eq]
      rfl
  have hshows (m : Mode) : sensedMode advertised it = some m ↔ shows m := sensedMode_eq_some
  have heardHandled (u : State) (h : u.hears n) (same : u.settings = s.settings) :
      (u.handleItem n it).heardLane (.lane n) = heard (handled u) := by
    rw [State.handleItem_heard h same, hhandled u h]
  have heardRefused (u : State) (why : RefusalReason) (same : u.settings = s.settings) :
      ((u.enterRefused n why).refuseAtOnce n it.sequence .notCounting).heardLane (.lane n) = heard (refused u why) :=
    State.refuseAtOnce_heard (State.enterRefused_hears u n why) same it.sequence .notCounting
  refine ⟨fun hstate => ?_, fun hstate hm => ?_, fun hstate hnone => ?_, fun hstate hcheck hres hm => ?_, fun hstate hcheck hother => ?_,
    fun hstate => ?_⟩ <;> refine (execItem_of_canTake htake).trans (congrArg _ ?_)
  · rw [State.itemByState_of_handled hstate]
    exact heardHandled s (State.hears_of_handled hstate) rfl
  · rw [State.itemByState_of_listen hstate, State.senseItem_of_mode ((hshows m).mpr hm)]
    exact heardHandled _ (State.hears_of_running (st := .sensed) (by simp [Intake.enterSensed]) rfl) rfl
  · have unseen : sensedMode advertised it = none := Option.eq_none_iff_forall_ne_some.mpr fun m hm => hnone m ((hshows m).mp hm)
    rw [State.itemByState_of_listen hstate, State.senseItem_of_none unseen]
    exact heardRefused s .noCommonMode rfl
  · rw [State.itemByState_of_sensing hstate hcheck, State.checkSensed_of_same hres ((hshows m).mpr hm)]
    exact heardHandled _ (State.hears_of_running (st := .sensed) (by simpa using hstate) rfl) rfl
  · rw [State.itemByState_of_sensing hstate hcheck, State.checkSensed_of_other fun m hres hm => hother m hres ((hshows m).mp hm)]
    exact heardRefused _ .senseFault (State.closeBatch_settings s n .refused)
  · rw [State.itemByState_of_refusing hstate]
    exact State.refuseAtOnce_heard (State.hears_of_refusing hstate) rfl it.sequence .notCounting

end Sys2Proof.Machine

/-! PROOFS. Lane negotiation: what an OFFER does to the lane (R53 to R56, R60, R61). -/

namespace Sys2Proof.Machine

open Sys2Proof

/-! ## The modes in common (R53, R56) -/

theorem offerCommon_eq (advertised ability : ModeSet) (version : Nat) : offerCommon advertised ⟨ability, version⟩ =
    ⟨version == 1 && ability.serial && advertised.serial, version == 1 && ability.cls && advertised.cls,
      version == 1 && ability.tally && advertised.tally⟩ := by
  unfold offerCommon
  by_cases h : version = 1 <;> simp [h, ModeSet.inter]

theorem ModeSet.isEmpty_iff {m : ModeSet} : m.isEmpty = true ↔ m.serial = false ∧ m.cls = false ∧ m.tally = false := by
  simp [ModeSet.isEmpty, and_assoc]

/-- In a set that has a mode, the mode that is neither SERIAL nor CLASS is TALLY. -/
theorem highestMode_of_nonempty {m : ModeSet} (h : ¬ m.isEmpty = true) :
    highestMode m = if m.serial then some .serial else if m.cls then some .cls else some .tally := by
  have tally (serial : ¬ m.serial = true) (cls : ¬ m.cls = true) : m.tally = true := by
    simpa [ModeSet.isEmpty_iff, serial, cls] using h
  unfold highestMode
  split
  · rfl
  next serial =>
    split
    · rfl
    next cls => exact if_pos (tally serial cls)

/-! ## The part's own offer, and refusal of a lane's (R53, R54, R61) -/

theorem State.partOffer_of_state {s : State} {n : Lane} {st : LaneState} (h : (s.lane n).state = st) : s.partOffer n =
    ⟨s.settings.modes.get n, decide (st = .acking ∨ st = .counting), st, if st = .counting then (s.lane n).resolved else none,
      if st = .refused then (s.lane n).refusal else none⟩ := by
  subst h
  simp [State.partOffer, Bool.decide_or, beq_eq_decide]

/-- A lane refused for an offer that has no mode in common with the part. -/
def Intake.refusedFor (o : LaneOffer) (i : Intake) : Intake :=
  { i with
    state := .refused, refusal := some .noCommonMode, resolved := none, origin := none, former := none, senseCheck := false
    lastOffer := some o }

theorem State.refuseOffer_eq (s : State) (n : Lane) (o : LaneOffer) :
    s.refuseOffer n o = (s.modifyLane n (Intake.refusedFor o)).raiseLaneFault := by
  cases n <;> rfl

/-- A refusal leaves nothing of what a renegotiation has cleared beforehand. -/
theorem State.refuseOffer_modifyLane {s : State} {n : Lane} {o : LaneOffer} {f : Intake → Intake}
    (h : (f (s.lane n)).refusedFor o = (s.lane n).refusedFor o) : (s.modifyLane n f).refuseOffer n o = s.refuseOffer n o := by
  rw [State.refuseOffer_eq, State.refuseOffer_eq, State.modifyLane_modifyLane, State.modifyLane_congr h]

/-! ## What the offer does in each state (R54, R55, R60, R61) -/

section Offers

variable {s : State} {n : Lane} {o : LaneOffer} {ack : Bool}

theorem State.handleOffer_of_listen (h : (s.lane n).state = .listen) : s.handleOffer n o ack = (s.listenOffer n o).answerOffer n := by
  unfold State.handleOffer
  rw [h]

theorem State.handleOffer_of_offering (h : (s.lane n).state = .offering) :
    s.handleOffer n o ack = (s.offeringOffer n o).answerOffer n := by
  unfold State.handleOffer
  rw [h]

theorem State.handleOffer_of_acking (h : (s.lane n).state = .acking) :
    s.handleOffer n o ack = (s.ackingOffer n o ack).answerOffer n := by
  unfold State.handleOffer
  rw [h]

theorem State.handleOffer_of_busy
    (h : (s.lane n).state = .muted ∨ (((s.lane n).state = .counting ∨ (s.lane n).state = .sensed) ∧ (s.lane n).batch ≠ none)) :
    s.handleOffer n o ack = s.replyCode (.lane n) .busy := by
  unfold State.handleOffer
  rcases h with h | ⟨h | h, bound⟩
  · rw [h]
  · rw [h]; exact if_pos (Option.isSome_iff_ne_none.mpr bound)
  · rw [h]; exact if_pos (Option.isSome_iff_ne_none.mpr bound)

theorem State.handleOffer_of_unbound (h : (s.lane n).state = .counting ∨ (s.lane n).state = .sensed) (unbound : (s.lane n).batch = none) :
    s.handleOffer n o ack = ((s.modifyLane n Intake.leaveCounting).listenOffer n o).answerOffer n := by
  unfold State.handleOffer
  rcases h with h | h
  · rw [h]; exact if_neg (by simp [unbound])
  · rw [h]; exact if_neg (by simp [unbound])

theorem State.handleOffer_of_refused_same (h : (s.lane n).state = .refused) (same : (s.lane n).lastOffer = some o) :
    s.handleOffer n o ack = s.answerOffer n := by
  unfold State.handleOffer
  rw [h]
  exact if_pos same

theorem State.handleOffer_of_refused_other (h : (s.lane n).state = .refused) (other : (s.lane n).lastOffer ≠ some o) :
    s.handleOffer n o ack = ((s.modifyLane n (fun i => { i with refusal := none })).listenOffer n o).answerOffer n := by
  unfold State.handleOffer
  rw [h]
  exact if_neg other

/-! ### No mode in common -/

section Empty

variable (empty : (offerCommon (s.settings.modes.get n) o).isEmpty = true)
include empty

theorem State.listenOffer_of_empty : s.listenOffer n o = s.refuseOffer n o := if_pos empty

/-- An offer of no common mode refuses the lane wherever the offer is weighed. -/
theorem State.handleOffer_of_empty
    (h : (s.lane n).state ∈ [.listen, .offering, .acking]
      ∨ (((s.lane n).state = .counting ∨ (s.lane n).state = .sensed) ∧ (s.lane n).batch = none)
      ∨ ((s.lane n).state = .refused ∧ (s.lane n).lastOffer ≠ some o)) :
    s.handleOffer n o ack = (s.refuseOffer n o).answerOffer n := by
  rcases h with early | ⟨counts, unbound⟩ | ⟨refused, other⟩
  · have inTurn : (s.lane n).state = .listen ∨ (s.lane n).state = .offering ∨ (s.lane n).state = .acking := by simpa using early
    rcases inTurn with h | h | h
    · rw [State.handleOffer_of_listen h, State.listenOffer_of_empty empty]
    · rw [State.handleOffer_of_offering h]
      exact congrArg (State.answerOffer · n) (if_pos empty)
    · rw [State.handleOffer_of_acking h]
      exact congrArg (State.answerOffer · n) (if_pos empty)
  · rw [State.handleOffer_of_unbound counts unbound, State.listenOffer_of_empty (by simpa using empty), State.refuseOffer_modifyLane rfl]
  · rw [State.handleOffer_of_refused_other refused other, State.listenOffer_of_empty (by simpa using empty), State.refuseOffer_modifyLane rfl]

end Empty

/-! ### A mode in common -/

section Common

variable (common : ¬ (offerCommon (s.settings.modes.get n) o).isEmpty = true)
include common

theorem State.listenOffer_of_common : s.listenOffer n o = s.modifyLane n (fun i => i.offeringWith o 1) := if_neg common

theorem State.listenOffer_modifyLane (f : Intake → Intake) :
    (s.modifyLane n f).listenOffer n o = s.modifyLane n (fun i => (f i).offeringWith o 1) := by
  rw [State.listenOffer_of_common (by simpa using common), State.modifyLane_modifyLane]

theorem State.offeringOffer_of_other (other : (s.lane n).lastOffer ≠ some o) :
    s.offeringOffer n o = s.modifyLane n (fun i => i.offeringWith o 1) :=
  (if_neg common).trans (if_neg other)

theorem State.offeringOffer_of_same (same : (s.lane n).lastOffer = some o) : s.offeringOffer n o = s.modifyLane n (fun i =>
    { i with offerCount := bump 3 i.offerCount, state := if bump 3 i.offerCount = 3 then .acking else .offering }) :=
  (if_neg common).trans (if_pos same)

/-- The same offer again, not yet for the third time, is counted (R54). -/
theorem State.offeringOffer_counts (same : (s.lane n).lastOffer = some o) (few : (s.lane n).offerCount < 2) :
    s.offeringOffer n o = s.modifyLane n (fun i => i.offeringWith o ((s.lane n).offerCount + 1)) := by
  have count : bump 3 (s.lane n).offerCount = (s.lane n).offerCount + 1 := by rw [bump_eq_min]; omega
  have below : (s.lane n).offerCount + 1 ≠ 3 := by omega
  rw [State.offeringOffer_of_same common same]
  refine State.modifyLane_congr ?_
  simp only [Intake.offeringWith, count, if_neg below, same]

/-- The third time, the lane enters ACKING (R54). -/
theorem State.offeringOffer_acks (same : (s.lane n).lastOffer = some o) (many : 2 ≤ (s.lane n).offerCount) :
    s.offeringOffer n o = s.modifyLane n (fun i => { i with state := .acking, offerCount := 3 }) := by
  have count : bump 3 (s.lane n).offerCount = 3 := by rw [bump_eq_min]; omega
  rw [State.offeringOffer_of_same common same]
  refine State.modifyLane_congr ?_
  rw [count, if_pos rfl]

theorem State.ackingOffer_of_other (other : (s.lane n).lastOffer ≠ some o) :
    s.ackingOffer n o ack = s.modifyLane n (fun i => i.offeringWith o 1) :=
  (if_neg common).trans (if_neg other)

theorem State.ackingOffer_of_unacked (same : (s.lane n).lastOffer = some o) (unacked : ack = false) : s.ackingOffer n o ack = s :=
  (if_neg common).trans ((if_pos same).trans (if_neg (by simp [unacked])))

/-- An acknowledged offer takes the lane into COUNTING (R56). -/
theorem State.ackingOffer_of_acked (same : (s.lane n).lastOffer = some o) (acked : ack = true) : s.ackingOffer n o ack =
    s.modifyLane n (fun i => i.enterCounting (highestMode (offerCommon (s.settings.modes.get n) o))) :=
  (if_neg common).trans ((if_pos same).trans (if_pos acked))

end Common

end Offers

/-! ## The request and its answer -/

section Requests

variable {s : State} {n : Lane} {tag version : Nat} {ability : ModeSet} {ack : Bool} (htake : s.canTake (.lane n))
include htake

/-- An offer answered by the part's own offer, as the lane then stands (R53). -/
theorem execOffer_answered {u : State} {st : LaneState} {mode : Option Mode} {why : Option RefusalReason}
    (h : (s.received (.lane n) 0x01 tag).handleOffer n ⟨ability, version⟩ ack = (u.received (.lane n) 0x01 tag).answerOffer n)
    (hstate : (u.lane n).state = st) (hmode : (if st = .counting then (u.lane n).resolved else none) = mode)
    (hwhy : (if st = .refused then (u.lane n).refusal else none) = why) :
    exec (.offer n tag ability version ack) s = .next (u.answered (.lane n) 0x01 tag
      ⟨.ok, .offer ⟨u.settings.modes.get n, decide (st = .acking ∨ st = .counting), st, mode, why⟩⟩) := by
  refine congrArg _ (State.takeRequest_answered htake (h.trans ?_))
  rw [State.answerOffer, State.partOffer_of_state (st := st) (by rw [State.received_lane, hstate]), State.received_lane, hmode, hwhy,
    State.received_settings]

/-- An offer that puts the lane into OFFERING is answered with neither a mode nor a reason. -/
theorem execOffer_offering {g : Intake → Intake} {count : Nat}
    (h : (s.received (.lane n) 0x01 tag).handleOffer n ⟨ability, version⟩ ack =
      ((s.received (.lane n) 0x01 tag).modifyLane n (fun i => (g i).offeringWith ⟨ability, version⟩ count)).answerOffer n) :
    exec (.offer n tag ability version ack) s =
      .next ((s.modifyLane n (fun i => (g i).offeringWith ⟨ability, version⟩ count)).answered (.lane n) 0x01 tag
        ⟨.ok, .offer ⟨s.settings.modes.get n, false, .offering, none, none⟩⟩) := by
  rw [State.received_modifyLane] at h
  exact execOffer_answered htake (st := .offering) h (by simp [Intake.offeringWith]) rfl rfl

theorem execOffer_refused
    (h : (s.received (.lane n) 0x01 tag).handleOffer n ⟨ability, version⟩ ack =
      ((s.received (.lane n) 0x01 tag).refuseOffer n ⟨ability, version⟩).answerOffer n) :
    exec (.offer n tag ability version ack) s = .next (((s.modifyLane n (Intake.refusedFor ⟨ability, version⟩)).answered (.lane n) 0x01 tag
      ⟨.ok, .offer ⟨s.settings.modes.get n, false, .refused, none, some .noCommonMode⟩⟩).raiseLaneFault) := by
  rw [State.refuseOffer_eq, State.received_modifyLane] at h
  have lane : ((s.modifyLane n (Intake.refusedFor ⟨ability, version⟩)).raiseLaneFault).lane n =
      (s.lane n).refusedFor ⟨ability, version⟩ := State.modifyLane_lane_same s n _
  exact execOffer_answered htake (u := (s.modifyLane n (Intake.refusedFor ⟨ability, version⟩)).raiseLaneFault) (st := .refused) h
    (by rw [lane]; rfl) rfl (by rw [lane]; rfl)

end Requests

/-- Settles O40: the lemmas above say what the handling of the offer leaves in each state, and the part's offer is read off it. -/
theorem offerNegotiates : Obligations.OfferNegotiates := by
  intro s n tag version ability ack htake i advertised offer common empty mode answer run refuse refused toOffering left req
  have hempty : (offerCommon advertised offer).isEmpty = true ↔ empty := by rw [offerCommon_eq, ModeSet.isEmpty_iff]
  have hmode (h : ¬empty) : highestMode (offerCommon advertised offer) = mode := by
    rw [highestMode_of_nonempty (mt hempty.mp h), offerCommon_eq]
  let u := s.received (.lane n) 0x01 tag
  have refuses (h : empty) (weighed : i.state ∈ [.listen, .offering, .acking]
      ∨ ((i.state = .counting ∨ i.state = .sensed) ∧ i.batch = none) ∨ (i.state = .refused ∧ i.lastOffer ≠ some offer)) :
      req = .next refused :=
    execOffer_refused htake (State.handleOffer_of_empty (s := u) (hempty.mpr h) weighed)
  have nonempty (h : ¬empty) : ¬ (offerCommon (u.settings.modes.get n) offer).isEmpty = true := mt hempty.mp h
  have offering {g : Intake → Intake} {count : Nat}
      (h : u.handleOffer n offer ack = (u.modifyLane n (fun i => (g i).offeringWith offer count)).answerOffer n) :
      req = .next (run (fun i => toOffering count (g i)) (answer .offering none none)) := execOffer_offering htake h
  have renegotiates {f : Intake → Intake} (he : ¬empty) (h : u.handleOffer n offer ack = ((u.modifyLane n f).listenOffer n offer).answerOffer n)
      (clears : f i = left i) : req = .next (run (fun i => toOffering 1 (left i)) (answer .offering none none)) := by
    refine offering (h.trans (congrArg (State.answerOffer · n) ?_))
    rw [State.listenOffer_modifyLane (nonempty he)]
    exact State.modifyLane_congr (congrArg (Intake.offeringWith · offer 1) clears)
  have unchanged (a : Answer) : run (fun i => i) a = s.answered (.lane n) 0x01 tag a :=
    congrArg (State.answered · (.lane n) 0x01 tag a) (State.modifyLane_self rfl)
  refine ⟨fun hstate => ⟨fun he => ?_, fun he => ?_⟩,
    fun hstate => ⟨fun he => ?_, fun he other => ?_, fun he same few => ?_, fun he same many => ?_⟩,
    fun hstate => ⟨fun he => ?_, fun he other => ?_, fun he same unacked => ?_, fun he same acked => ?_⟩,
    fun hstate => ?_, fun hstate unbound hnone => ⟨fun he => ?_, fun he => ?_⟩,
    fun hstate hresolved horigin hformer hsense => ⟨fun same => ?_, fun other => ⟨fun he => ?_, fun he => ?_⟩⟩⟩
  · exact refuses he (.inl (by simp [hstate]))
  · refine offering (g := fun i => i) ((State.handleOffer_of_listen (s := u) hstate).trans ?_)
    rw [State.listenOffer_of_common (nonempty he)]
  · exact refuses he (.inl (by simp [hstate]))
  · refine offering (g := fun i => i) ((State.handleOffer_of_offering (s := u) hstate).trans ?_)
    rw [State.offeringOffer_of_other (nonempty he) other]
  · refine offering (g := fun i => i) ((State.handleOffer_of_offering (s := u) hstate).trans ?_)
    rw [State.offeringOffer_counts (nonempty he) same few]
    rfl
  · refine execOffer_answered htake ((State.handleOffer_of_offering (s := u) hstate).trans ?_) (by simp) rfl rfl
    rw [State.offeringOffer_acks (nonempty he) same many, State.received_modifyLane]
  · exact refuses he (.inl (by simp [hstate]))
  · refine offering (g := fun i => i) ((State.handleOffer_of_acking (s := u) hstate).trans ?_)
    rw [State.ackingOffer_of_other (nonempty he) other]
  · rw [unchanged]
    refine execOffer_answered htake ((State.handleOffer_of_acking (s := u) hstate).trans ?_) hstate rfl rfl
    rw [State.ackingOffer_of_unacked (nonempty he) same unacked]
  · refine execOffer_answered htake ((State.handleOffer_of_acking (s := u) hstate).trans ?_) (by simp) (by simp) rfl
    rw [State.ackingOffer_of_acked (nonempty he) same acked, State.received_settings, hmode he, State.received_modifyLane]
    rfl
  · exact congrArg _ (State.takeRequest_refused htake (State.handleOffer_of_busy hstate))
  · exact refuses he (.inr (.inl ⟨hstate, unbound⟩))
  · exact renegotiates he (State.handleOffer_of_unbound hstate unbound) (by simp [Intake.leaveCounting, left, hnone])
  · rw [unchanged]
    exact execOffer_answered htake (State.handleOffer_of_refused_same hstate same) hstate rfl rfl
  · exact refuses he (.inr (.inr ⟨hstate, other⟩))
  · exact renegotiates he (State.handleOffer_of_refused_other hstate other) (by simp [left, hresolved, horigin, hformer, hsense])

end Sys2Proof.Machine

/-! PROOFS. The law of the register arbiter and of the entries in hand (R66, R109 to R111, R124): what raises an operation, what completes
one, and that every other change leaves the arbiter as it is and empties no queue under an entry in hand. -/

namespace Sys2Proof.Machine

open Sys2Proof

/-! ## The rotation (R110) -/

/-- What a rotation does: the oldest operation of a position goes into service, or nothing waits and the register idles. -/
theorem Arbiter.rotate_cases (a : Arbiter) :
    (∃ n, a.lanes.mem n = true ∧ a.rotate = { a with serving := some (.verdict n), lanes := a.lanes.drop n, last := .lane n })
    ∨ (∃ op rest, a.office = op :: rest ∧ a.rotate = { a with serving := some (.office op), office := rest, last := .office })
    ∨ (∃ op rest, a.sweeps = op :: rest ∧ a.rotate = { a with serving := some (.sweep op), sweeps := rest, last := .sweep })
    ∨ (a.lanes = LaneSet.empty ∧ a.office = [] ∧ a.sweeps = [] ∧ a.rotate = { a with serving := none }) := by
  cases hf : a.last.rotation.find? a.waits with
  | some p =>
    have hw : a.waits p = true := List.find?_some hf
    rw [Arbiter.rotate_of_first hf]
    cases p with
    | lane n => exact .inl ⟨n, hw, rfl⟩
    | office =>
      cases ho : a.office with
      | nil => simp [Arbiter.waits, ho] at hw
      | cons op rest => exact .inr (.inl ⟨op, rest, rfl, by simp [Arbiter.serve, ho]⟩)
    | sweep =>
      cases hs : a.sweeps with
      | nil => simp [Arbiter.waits, hs] at hw
      | cons op rest => exact .inr (.inr (.inl ⟨op, rest, rfl, by simp [Arbiter.serve, hs]⟩))
  | none =>
    have idle (p : Position) : a.waits p = false :=
      Bool.eq_false_iff.mpr (List.find?_eq_none.mp hf p (Position.mem_rotation a.last p))
    have hlanes : a.lanes = LaneSet.empty := LaneSet.card_eq_zero_iff_empty.mp (LaneSet.card_eq_zero.mpr (fun n => idle (.lane n)))
    have hoffice : a.office = [] := by simpa [Arbiter.waits] using idle .office
    have hsweeps : a.sweeps = [] := by simpa [Arbiter.waits] using idle .sweep
    exact .inr (.inr (.inr ⟨hlanes, hoffice, hsweeps, Arbiter.rotate_of_idle hf⟩))

theorem LaneSet.mem_drop (l : LaneSet) (n m : Lane) : (l.drop n).mem m = (l.mem m && m != n) := by
  cases n <;> cases m <;> simp [LaneSet.drop, LaneSet.mem, PerLane.modify, PerLane.get]

/-! ## The law before an idle register has served what waits -/

/-- A lane's verdict operation is raised exactly while its head is in hand, never twice, and the head stands in the queue. -/
def State.handOk (s : State) (n : Lane) : Prop :=
  ((s.lane n).inHand = true ↔ s.verdictRaised n)
    ∧ ¬(s.arbiter.lanes.mem n = true ∧ s.arbiter.serving = some (.verdict n))
    ∧ ((s.lane n).inHand = true → (s.lane n).queue ≠ [])

/-- The law of the arbiter but for its first clause: an idle register may have operations waiting, though no rebase. -/
def State.arbiterDue (s : State) : Prop :=
  (s.arbiter.serving = none → s.setPending = none)
    ∧ (s.arbiter.serving = some .rebase → s.setPending.isSome = true)
    ∧ s.arbiter.sweeps.count .sweep ≤ 1
    ∧ ∀ n : Lane, s.handOk n

theorem State.arbiterDue_of_ok {s : State} (h : s.arbiterOk) : s.arbiterDue := by
  obtain ⟨idle, hrest⟩ := h
  exact ⟨fun hn => (idle hn).2.2.2, hrest⟩

/-- What of the law the operation in service leaves when its work is done: only operations that wait are raised. -/
def State.operationDone (s : State) : Prop :=
  s.arbiter.sweeps.count .sweep ≤ 1
    ∧ ∀ n : Lane, ((s.lane n).inHand = true ↔ s.arbiter.lanes.mem n = true) ∧ ((s.lane n).inHand = true → (s.lane n).queue ≠ [])

/-- Serving what waits keeps the law, whichever position is served (R110). -/
theorem State.rotate_arbiterOk {s : State} (h : s.operationDone) (hp : s.setPending = none) : (s.modifyArbiter Arbiter.rotate).arbiterOk := by
  obtain ⟨hcount, hands⟩ := h
  have hand (b : Arbiter) (hb : ∀ n, (b.lanes.mem n = true ∨ b.serving = some (.verdict n) ↔ s.arbiter.lanes.mem n = true)
      ∧ ¬(b.lanes.mem n = true ∧ b.serving = some (.verdict n))) (n : Lane) : (s.modifyArbiter (fun _ => b)).handOk n :=
    ⟨(hands n).1.trans (hb n).1.symm, (hb n).2, (hands n).2⟩
  have served : s.modifyArbiter Arbiter.rotate = s.modifyArbiter (fun _ => s.arbiter.rotate) := rfl
  rw [served]
  rcases s.arbiter.rotate_cases with ⟨m, hm, hr⟩ | ⟨op, rest, ho, hr⟩ | ⟨op, rest, ho, hr⟩ | ⟨hl, ho, hs, hr⟩ <;> rw [hr]
  · refine ⟨nofun, nofun, hcount, hand _ (fun n => ?_)⟩
    by_cases e : n = m
    · subst e; simp [hm]
    · simp [LaneSet.mem_drop, e, Ne.symm e]
  · exact ⟨nofun, nofun, hcount, hand _ (fun n => by simp)⟩
  · refine ⟨nofun, nofun, ?_, hand _ (fun n => by simp)⟩
    have hle : rest.count .sweep ≤ (op :: rest).count .sweep := List.count_le_count_cons
    exact hle.trans (ho ▸ hcount)
  · exact ⟨fun _ => ⟨hl, ho, hs, hp⟩, nofun, hcount, hand _ (fun n => by simp)⟩

/-- An idle register serves what waits at once, and the law stands. -/
theorem State.settle_arbiterOk {s : State} (h : s.arbiterDue) : (s.modifyArbiter Arbiter.settle).arbiterOk := by
  obtain ⟨hidle, hrest⟩ := h
  cases hs : s.arbiter.serving with
  | some op =>
    have same : s.modifyArbiter Arbiter.settle = s := by
      unfold State.modifyArbiter
      rw [Arbiter.settle_of_serving (by rw [hs]; rfl)]
    rw [same]
    exact ⟨fun hn => absurd (hs.symm.trans hn) nofun, hrest⟩
  | none =>
    have rotates : s.modifyArbiter Arbiter.settle = s.modifyArbiter Arbiter.rotate := by
      unfold State.modifyArbiter Arbiter.settle
      rw [hs]
      rfl
    obtain ⟨_, hcount, hands⟩ := hrest
    rw [rotates]
    refine State.rotate_arbiterOk ⟨hcount, fun n => ?_⟩ (hidle hs)
    obtain ⟨hraised, _, hqueue⟩ := hands n
    exact ⟨hraised.trans (by simp [State.verdictRaised, hs]), hqueue⟩

/-- The completed operation leaves the register, which serves a waiting rebase or what waits (R110, R111). -/
theorem State.completeOperation_arbiterOk {s : State} (h : s.operationDone) : s.completeOperation.arbiterOk := by
  cases hp : s.setPending with
  | none =>
    have freed : ({ s with arbiter := { s.arbiter with serving := none } } : State).operationDone := h
    rw [State.completeOperation_of_rotation (by rw [hp]; rfl)]
    exact State.rotate_arbiterOk freed hp
  | some c =>
    obtain ⟨hcount, hands⟩ := h
    rw [State.completeOperation_of_rebase (by rw [hp]; rfl)]
    refine ⟨nofun, fun _ => by simp [hp], hcount, fun n => ?_⟩
    obtain ⟨hraised, hqueue⟩ := hands n
    exact ⟨hraised.trans (by simp [State.verdictRaised]), fun ⟨_, hv⟩ => (nomatch hv), hqueue⟩

/-! ## Changes that keep the law -/

/-- A change that keeps the law of the arbiter. -/
def KeepsArbiter (s t : State) : Prop := s.arbiterOk → t.arbiterOk

theorem KeepsArbiter.refl (s : State) : KeepsArbiter s s := id

theorem KeepsArbiter.trans {s t u : State} (h : KeepsArbiter s t) (h' : KeepsArbiter t u) : KeepsArbiter s u := fun hs => h' (h hs)

/-- An intake after a change that leaves what is in hand there, at the head of a queue that is not emptied. -/
def Intake.KeepsHand (i j : Intake) : Prop := j.inHand = i.inHand ∧ (i.inHand = true → i.queue ≠ [] → j.queue ≠ [])

/-- A change that raises no operation, completes none, and leaves every entry in hand where it is. -/
structure Quiet (s t : State) : Prop where
  arbiter : t.arbiter = s.arbiter
  setPending : t.setPending = s.setPending
  hands : ∀ n, (s.lane n).KeepsHand (t.lane n)

/-- What the law of the arbiter speaks of in a state. -/
def State.duties (s : State) : Arbiter × Option ClockSet × PerLane Intake := (s.arbiter, s.setPending, s.lanes)

theorem Quiet.of_duties {s t : State} (h : t.duties = s.duties) : Quiet s t := by
  simp only [State.duties, Prod.mk.injEq] at h
  obtain ⟨ha, hp, hl⟩ := h
  refine ⟨ha, hp, fun n => ?_⟩
  unfold State.lane
  rw [hl]
  exact ⟨rfl, fun _ h => h⟩

theorem Quiet.refl (s : State) : Quiet s s := .of_duties rfl

theorem Quiet.trans {s t u : State} (h : Quiet s t) (h' : Quiet t u) : Quiet s u := by
  refine ⟨h'.arbiter.trans h.arbiter, h'.setPending.trans h.setPending, fun n => ?_⟩
  obtain ⟨hi, hq⟩ := h.hands n
  obtain ⟨hi', hq'⟩ := h'.hands n
  exact ⟨hi'.trans hi, fun hin hne => hq' (hi.trans hin) (hq hin hne)⟩

theorem Quiet.lane {s : State} {n : Lane} {f : Intake → Intake} (h : (s.lane n).KeepsHand (f (s.lane n))) : Quiet s (s.modifyLane n f) := by
  refine ⟨rfl, rfl, fun m => ?_⟩
  rw [State.modifyLane_lane]
  split
  · rename_i e; subst e; exact h
  · exact ⟨rfl, fun _ h => h⟩

/-- A change of an intake that touches neither its queue nor what is in hand. -/
theorem Quiet.lane_beside {s : State} {n : Lane} {f : Intake → Intake} (hi : (f (s.lane n)).inHand = (s.lane n).inHand)
    (hq : (f (s.lane n)).queue = (s.lane n).queue) : Quiet s (s.modifyLane n f) :=
  .lane ⟨hi, fun _ hne => by rwa [hq]⟩

theorem Quiet.lanes {s : State} {f : Intake → Intake} (h : ∀ i : Intake, i.KeepsHand (f i)) : Quiet s { s with lanes := s.lanes.map f } := by
  refine ⟨rfl, rfl, fun n => ?_⟩
  simpa [State.lane] using h (s.lanes.get n)

theorem Quiet.foldl {α : Type} {f : State → α → State} (h : ∀ s a, Quiet s (f s a)) : ∀ (as : List α) (s : State), Quiet s (as.foldl f s)
  | [], s => .refl s
  | a :: as, s => (h s a).trans (Quiet.foldl h as (f s a))

theorem Quiet.keeps {s t : State} (h : Quiet s t) : KeepsArbiter s t := by
  rintro ⟨idle, rebase, hcount, hands⟩
  have raised (n : Lane) : t.verdictRaised n ↔ s.verdictRaised n := by unfold State.verdictRaised; rw [h.arbiter]
  unfold State.arbiterOk
  rw [h.arbiter, h.setPending]
  refine ⟨idle, rebase, hcount, fun n => ?_⟩
  obtain ⟨hraised, once, hqueue⟩ := hands n
  obtain ⟨hi, hq⟩ := h.hands n
  rw [raised, hi]
  exact ⟨hraised, once, fun hin => hq hin (hqueue hin)⟩

/-- A change of nothing that the law speaks of. -/
theorem KeepsArbiter.of_duties {s t : State} (h : t.duties = s.duties) : KeepsArbiter s t := (Quiet.of_duties h).keeps

/-- A change whose result differs from that of one that keeps the law in nothing that the law speaks of. -/
theorem KeepsArbiter.beside {s t u : State} (h : KeepsArbiter s t) (same : u.duties = t.duties) : KeepsArbiter s u := h.trans (.of_duties same)

/-! ## Operations raised (R109, R110, R124, R181) -/

theorem State.raiseOffice_keepsArbiter (s : State) (op : OfficeOp) : KeepsArbiter s (s.modifyArbiter (Arbiter.raiseOffice op)) := fun h => by
  obtain ⟨idle, rebase, hcount, hands⟩ := State.arbiterDue_of_ok h
  exact State.settle_arbiterOk (s := s.modifyArbiter (fun a => { a with office := a.office ++ [op] })) ⟨idle, rebase, hcount, hands⟩

theorem State.raiseOrBusy_keepsArbiter (s : State) (l : Link) (op : OfficeOp) : KeepsArbiter s (s.raiseOrBusy l op) := by
  unfold State.raiseOrBusy
  split
  · exact s.raiseOffice_keepsArbiter op
  · exact .of_duties rfl

theorem State.raiseSweeps_keepsArbiter {s : State} {ops : List SweepOp} (h : s.arbiter.sweeps.count .sweep + ops.count .sweep ≤ 1) :
    KeepsArbiter s (s.modifyArbiter (Arbiter.raiseSweeps ops)) := fun hs => by
  obtain ⟨idle, rebase, _, hands⟩ := State.arbiterDue_of_ok hs
  refine State.settle_arbiterOk (s := s.modifyArbiter (fun a => { a with sweeps := a.sweeps ++ ops })) ⟨idle, rebase, ?_, hands⟩
  simpa [List.count_append] using h

/-- At most one sweep waits: none is raised while one does (R124). -/
theorem State.raiseSweep_keepsArbiter (s : State) : KeepsArbiter s s.raiseSweep := by
  unfold State.raiseSweep
  split
  · exact .refl s
  · rename_i hc
    have none : s.arbiter.sweeps.count .sweep = 0 := List.count_eq_zero.mpr (by simpa using hc)
    exact State.raiseSweeps_keepsArbiter (by rw [none]; decide)

/-- Hold expiries are no sweeps. -/
theorem State.raiseExpiries_keepsArbiter {s : State} {ops : List SweepOp} (h : SweepOp.sweep ∉ ops) :
    KeepsArbiter s (s.modifyArbiter (Arbiter.raiseSweeps ops)) := fun hs =>
  State.raiseSweeps_keepsArbiter (by rw [List.count_eq_zero.mpr h]; exact hs.2.2.1) hs

theorem State.sweep_not_mem_orderedExpiries (s : State) : SweepOp.sweep ∉ s.orderedExpiries := by
  unfold State.orderedExpiries State.dueExpiries
  simp [List.mem_insertionSort]

theorem State.raiseExpiriesAndSweep_keepsArbiter (s : State) : KeepsArbiter s s.raiseExpiriesAndSweep := by
  unfold State.raiseExpiriesAndSweep
  split
  · exact s.raiseSweep_keepsArbiter
  · have expiries (u : State) : KeepsArbiter u (u.modifyArbiter (Arbiter.raiseSweeps s.orderedExpiries)) :=
      State.raiseExpiries_keepsArbiter s.sweep_not_mem_orderedExpiries
    split
    · exact (s.raiseSweep_keepsArbiter.trans (expiries _)).beside rfl
    · exact ((expiries s).trans (State.raiseSweep_keepsArbiter _)).beside rfl

/-- A rebase is served by an idle register at once, or waits behind the operation in service (R111). -/
theorem State.handleSetClock_keepsArbiter (s : State) (minute second : Nat) : KeepsArbiter s (s.handleSetClock minute second) := by
  unfold State.handleSetClock
  split
  · exact .of_duties rfl
  · split
    · exact .of_duties rfl
    · rintro ⟨idle, _, hcount, hands⟩
      cases hs : s.arbiter.serving with
      | none =>
        have raised : s.arbiter.raiseRebase = { s.arbiter with serving := some .rebase } := by simp [Arbiter.raiseRebase, hs]
        unfold State.modifyArbiter
        dsimp only
        rw [raised]
        refine ⟨nofun, fun _ => rfl, hcount, fun n => ?_⟩
        obtain ⟨hraised, _, hqueue⟩ := hands n
        exact ⟨hraised.trans (by simp [State.verdictRaised, hs]), fun ⟨_, hv⟩ => (nomatch hv), hqueue⟩
      | some op =>
        have waits : s.arbiter.raiseRebase = s.arbiter := by simp [Arbiter.raiseRebase, hs]
        unfold State.modifyArbiter
        dsimp only
        rw [waits]
        exact ⟨fun hn => absurd (hs.symm.trans hn) nofun, fun _ => rfl, hcount, hands⟩

/-- The head taken in hand and its verdict operation raised (R66, R109). -/
theorem State.raiseVerdict_keepsArbiter {s : State} {n : Lane} (free : (s.lane n).inHand = false) (hq : (s.lane n).queue ≠ []) :
    KeepsArbiter s ((s.modifyLane n (fun i => { i with inHand := true })).modifyArbiter (Arbiter.raiseVerdict n)) := fun hs => by
  obtain ⟨idle, rebase, hcount, hands⟩ := State.arbiterDue_of_ok hs
  refine State.settle_arbiterOk
    (s := (s.modifyLane n (fun i => { i with inHand := true })).modifyArbiter (fun a => { a with lanes := a.lanes.add n }))
    ⟨idle, rebase, hcount, fun m => ?_⟩
  obtain ⟨hraised, once, hqueue⟩ := hands m
  unfold State.handOk State.verdictRaised
  by_cases e : m = n
  · subst e
    have unraised : ¬ s.verdictRaised m := fun h => Bool.false_ne_true (free.symm.trans (hraised.mpr h))
    refine ⟨by simp [State.lane, State.modifyArbiter, LaneSet.mem_add], fun ⟨_, hv⟩ => unraised (.inr hv), fun _ => ?_⟩
    simpa [State.modifyArbiter, State.lane] using hq
  · have other : ((s.modifyLane n (fun i => { i with inHand := true })).modifyArbiter (fun a => { a with lanes := a.lanes.add n })).lane m =
        s.lane m := (State.modifyLane_lane s n m _).trans (if_neg e)
    rw [other]
    simpa [LaneSet.mem_add, e] using ⟨hraised, not_and.mp once, hqueue⟩

/-! ## Operations completed -/

/-- The work of an operation that is no verdict operation leaves every entry in hand waiting. -/
theorem State.operationDone_of_served {s : State} {op : RegisterOp} (hs : s.arbiter.serving = some op) (hv : ∀ n, op ≠ .verdict n)
    (h : s.arbiterOk) : s.operationDone := by
  obtain ⟨_, _, hcount, hands⟩ := h
  refine ⟨hcount, fun n => ?_⟩
  obtain ⟨hraised, _, hqueue⟩ := hands n
  exact ⟨hraised.trans (by simp [State.verdictRaised, hs, hv n]), hqueue⟩

/-- The law after an operation's work speaks of no waiting rebase. -/
theorem State.operationDone_of_hands {s t : State} (ha : t.arbiter = s.arbiter) (hands : ∀ n, (s.lane n).KeepsHand (t.lane n))
    (h : s.operationDone) : t.operationDone := by
  obtain ⟨hcount, hold⟩ := h
  refine ⟨ha ▸ hcount, fun n => ?_⟩
  obtain ⟨hraised, hqueue⟩ := hold n
  obtain ⟨hi, hq⟩ := hands n
  rw [ha, hi]
  exact ⟨hraised, fun hin => hq hin (hqueue hin)⟩

theorem Quiet.operationDone {s t : State} (q : Quiet s t) (h : s.operationDone) : t.operationDone :=
  State.operationDone_of_hands q.arbiter q.hands h

/-- An operation that is no verdict operation, whose work is quiet, is completed. -/
theorem Quiet.completes {s t : State} {op : RegisterOp} (q : Quiet s t) (hs : s.arbiter.serving = some op) (hv : ∀ n, op ≠ .verdict n) :
    KeepsArbiter s t.completeOperation := fun h =>
  State.completeOperation_arbiterOk (q.operationDone (State.operationDone_of_served hs hv h))

/-- An office-side operation with its answer. -/
theorem Quiet.finishes {s t : State} {op : OfficeOp} (q : Quiet s t) (hs : s.arbiter.serving = some (.office op)) (l : Link) (kind : Nat)
    (a : Answer) : KeepsArbiter s (t.replyOldest l kind a).completeOperation :=
  have answered : Quiet s (t.replyOldest l kind a) := q.trans (.of_duties rfl)
  answered.completes hs nofun

/-- The lane of a served verdict operation has nothing in hand once its head is removed. -/
theorem State.operationDone_of_verdict {s : State} {n : Lane} (hs : s.arbiter.serving = some (.verdict n)) (h : s.arbiterOk) :
    (s.modifyLane n Intake.removeHead).operationDone := by
  obtain ⟨_, _, hcount, hands⟩ := h
  refine ⟨hcount, fun m => ?_⟩
  obtain ⟨hraised, once, hqueue⟩ := hands m
  by_cases e : m = n
  · subst e
    have unlisted : s.arbiter.lanes.mem m = false := Bool.eq_false_iff.mpr (fun hm => once ⟨hm, hs⟩)
    simp [Intake.removeHead, unlisted]
  · rw [State.modifyLane_lane, if_neg e]
    exact ⟨hraised.trans (by simp [State.verdictRaised, hs, Ne.symm e]), hqueue⟩

/-! ## Requests and frames -/

theorem State.heardLane_quiet (s : State) (l : Link) : Quiet s (s.heardLane l) := by
  cases l with
  | lane n =>
    refine .lane_beside ?_ ?_
    · split <;> rfl
    · split <;> rfl
  | k => exact .refl s
  | f => exact .refl s

theorem State.raiseLaneFault_quiet (s : State) : Quiet s s.raiseLaneFault := .of_duties rfl
theorem State.raiseStrayItems_quiet (s : State) : Quiet s s.raiseStrayItems := .of_duties rfl
theorem State.sendOwn_quiet (s : State) (n : Lane) (f : OwnFrame) : Quiet s (s.sendOwn n f) := .of_duties rfl
theorem State.refuseAtOnce_quiet (s : State) (n : Lane) (sequence : Nat) (why : Cause) : Quiet s (s.refuseAtOnce n sequence why) := .of_duties rfl
theorem State.reply_quiet (s : State) (l : Link) (a : Answer) : Quiet s (s.reply l a) := .of_duties rfl
theorem State.replyCode_quiet (s : State) (l : Link) (r : Result) : Quiet s (s.replyCode l r) := .of_duties rfl

@[simp] theorem State.heardDesk_duties (s : State) (l : Link) : (s.heardDesk l).duties = s.duties := by cases l <;> rfl

/-- A request keeps the law when its handling does. -/
theorem State.takeRequest_keepsArbiter (s : State) (l : Link) (kind tag : Nat) {handle : State → State}
    (h : ∀ u : State, KeepsArbiter u (handle u)) : KeepsArbiter s (s.takeRequest l kind tag handle) := by
  unfold State.takeRequest
  split
  · split
    · have listed : KeepsArbiter s ((s.heardDesk l).modifyPort l (Port.enqueue kind tag)) := .of_duties (s.heardDesk_duties l)
      exact (listed.trans (h _)).trans (State.heardLane_quiet _ l).keeps
    · exact .of_duties rfl
  · exact .refl s

/-- A request whose handling touches neither arbiter nor intakes. -/
theorem State.takeRequest_keepsArbiter_of_duties (s : State) (l : Link) (kind tag : Nat) {handle : State → State}
    (h : ∀ u : State, (handle u).duties = u.duties) : KeepsArbiter s (s.takeRequest l kind tag handle) :=
  s.takeRequest_keepsArbiter l kind tag (fun u => .of_duties (h u))

/-! ## Batches, entry to DOWN and REFUSED -/

theorem State.releaseBatch_quiet (s : State) (n : Lane) (lost : Bool) : Quiet s (s.releaseBatch n lost) := by
  unfold State.releaseBatch
  split
  · exact .refl s
  · rename_i b _
    dsimp only
    have freed : Quiet s (s.ticketRelease n b.ticket (reconcileFails s.settings.tolerance b)) := .of_duties (by simp [State.duties])
    refine Quiet.trans ?_ (.lane_beside rfl rfl)
    split
    · exact freed
    · exact freed
    · split
      · exact freed
      · exact freed.trans (.of_duties rfl)

theorem markLast_eq_nil {test : Entry → Bool} {es : List Entry} : markLast test es = [] ↔ es = [] := by
  rw [← List.length_eq_zero_iff, length_markLast, List.length_eq_zero_iff]

theorem Intake.markBatchEnd_keepsHand (i : Intake) (ticket : Nat) : i.KeepsHand (i.markBatchEnd ticket) := by
  unfold Intake.markBatchEnd
  split
  · exact ⟨rfl, fun _ h => h⟩
  · exact ⟨rfl, fun _ h => mt markLast_eq_nil.mp h⟩

theorem State.closeBatch_quiet (s : State) (n : Lane) (why : CloseReason) : Quiet s (s.closeBatch n why) := by
  unfold State.closeBatch
  split
  · exact .refl s
  · rename_i b _
    have closed : Quiet s (s.modifyLane n (fun i => { i with batch := some { b with reason := some why } })) := .lane_beside rfl rfl
    dsimp only
    split
    · exact closed.trans (.lane (Intake.markBatchEnd_keepsHand _ _))
    · exact closed.trans (State.releaseBatch_quiet _ n false)

theorem State.closeBatches_quiet (s : State) (ns : List Lane) (why : CloseReason) : Quiet s (s.closeBatches ns why) :=
  Quiet.foldl (fun s n => s.closeBatch_quiet n why) ns s

/-- The lost-link mark is set on every entry, and none leaves the queue (R47). -/
theorem State.enterDown_quiet (s : State) (n : Lane) : Quiet s (s.enterDown n) :=
  ((s.closeBatch_quiet n .down).trans (.lane ⟨rfl, fun _ h => by simpa [Intake.goDown] using h⟩)).trans (State.raiseLaneFault_quiet _)

theorem State.enterRefused_quiet (s : State) (n : Lane) (why : RefusalReason) : Quiet s (s.enterRefused n why) :=
  (Quiet.lane_beside rfl rfl).trans (State.raiseLaneFault_quiet _)

/-! ## The queue -/

theorem State.flowAfterInsertion_quiet (s : State) (n : Lane) : Quiet s (s.flowAfterInsertion n) := by
  unfold State.flowAfterInsertion
  dsimp only
  split
  · exact (s.sendOwn_quiet n _).trans (.lane_beside rfl rfl)
  · exact .refl s

theorem State.flowAfterRemoval_quiet (s : State) (n : Lane) : Quiet s (s.flowAfterRemoval n) := by
  unfold State.flowAfterRemoval
  dsimp only
  split
  · exact (s.sendOwn_quiet n _).trans (.lane_beside rfl rfl)
  · exact .refl s

/-- What follows the removal of a head from the queue is quiet (R33, R34, R41). -/
theorem State.removeHead_quiet_after (s : State) (n : Lane) (e : Entry) : Quiet (s.modifyLane n Intake.removeHead) (s.removeHead n e) := by
  have paced : Quiet (s.modifyLane n Intake.removeHead) (s.pacedRemoval n) := by
    unfold State.pacedRemoval
    split
    · exact (State.flowAfterInsertion_quiet _ n).trans (State.flowAfterRemoval_quiet _ n)
    · exact State.flowAfterRemoval_quiet _ n
  rw [State.removeHead_eq]
  split
  · exact paced.trans (State.releaseBatch_quiet _ n _)
  · exact paced

/-- A head that is not in hand is removed quietly. -/
theorem State.removeHead_quiet {s : State} {n : Lane} (free : (s.lane n).inHand = false) (e : Entry) : Quiet s (s.removeHead n e) := by
  have removed : Quiet s (s.modifyLane n Intake.removeHead) := .lane ⟨free.symm, fun hin => absurd (free.symm.trans hin) Bool.false_ne_true⟩
  exact removed.trans (s.removeHead_quiet_after n e)

/-! ## ITEM -/

theorem State.overrun_quiet (s : State) (n : Lane) (old new : Entry) : Quiet s (s.overrun n old new) := by
  unfold State.overrun
  dsimp only
  have landed : Quiet s ((if old.lostLink = true then s else s.refuseAtOnce n old.item.sequence .overrun).modifyLane n
      (fun i => { i with landing := some new })) := by
    refine Quiet.trans ?_ (.lane_beside rfl rfl)
    split
    · exact .refl s
    · exact s.refuseAtOnce_quiet n _ _
  split
  · split
    · exact landed
    · split
      · exact landed.trans (.lane ⟨rfl, fun _ h => mt markLast_eq_nil.mp h⟩)
      · exact landed.trans (State.releaseBatch_quiet _ n _)
  · exact landed

theorem State.placeEntry_quiet (s : State) (n : Lane) (e : Entry) : Quiet s (s.placeEntry n e) := by
  unfold State.placeEntry
  split
  · have joined : Quiet s (s.modifyLane n (fun i => { i with queue := i.queue ++ [e] })) := .lane ⟨rfl, fun _ _ => List.concat_ne_nil _ _⟩
    exact joined.trans (State.flowAfterInsertion_quiet _ n)
  · split
    · exact .lane_beside rfl rfl
    · exact s.overrun_quiet n _ e

theorem State.itemBurst_quiet (s : State) (n : Lane) : Quiet s (s.itemBurst n) := by
  unfold State.itemBurst
  dsimp only
  split
  · exact .lane_beside rfl rfl
  · split
    · exact (Quiet.lane_beside rfl rfl).trans (State.raiseLaneFault_quiet _)
    · exact .lane_beside rfl rfl

theorem State.handleItem_quiet (s : State) (n : Lane) (it : Item) : Quiet s (s.handleItem n it) := by
  unfold State.handleItem
  dsimp only
  split
  · exact (s.itemBurst_quiet n).trans (State.refuseAtOnce_quiet _ n _ _)
  · have counted (gap : Bool) : Quiet s ((s.itemBurst n).modifyLane n (fun i => i.countItem it.sequence gap)) :=
      (s.itemBurst_quiet n).trans (.lane_beside rfl rfl)
    split
    · exact (counted _).trans (State.refuseAtOnce_quiet _ n _ _)
    · exact (counted _).trans (State.placeEntry_quiet _ n _)

theorem State.itemByState_quiet (s : State) (n : Lane) (it : Item) : Quiet s (s.itemByState n it) := by
  have refused : Quiet s (s.refuseAtOnce n it.sequence .notCounting) := s.refuseAtOnce_quiet n _ _
  unfold State.itemByState
  split
  · exact .refl s
  · unfold State.senseItem
    split
    · exact (Quiet.lane_beside rfl rfl).trans (State.handleItem_quiet _ n it)
    · exact (s.enterRefused_quiet n _).trans (State.refuseAtOnce_quiet _ n _ _)
  · exact refused
  · exact refused
  · exact refused
  · exact s.handleItem_quiet n it
  · exact s.handleItem_quiet n it
  · split
    · unfold State.checkSensed
      split
      · exact (Quiet.lane_beside rfl rfl).trans (State.handleItem_quiet _ n it)
      · exact ((s.closeBatch_quiet n .refused).trans (State.enterRefused_quiet _ n _)).trans (State.refuseAtOnce_quiet _ n _ _)
    · exact s.handleItem_quiet n it

theorem State.takeItem_quiet (s : State) (n : Lane) (it : Item) : Quiet s (s.takeItem n it) := by
  unfold State.takeItem
  split
  · split
    · exact (s.itemByState_quiet n it).trans (State.heardLane_quiet _ _)
    · exact .of_duties rfl
  · exact .refl s

/-! ## Offers, bindings and gates -/

theorem State.listenOffer_quiet (s : State) (n : Lane) (o : LaneOffer) : Quiet s (s.listenOffer n o) := by
  unfold State.listenOffer
  split
  · exact (s.enterRefused_quiet n _).trans (.lane_beside rfl rfl)
  · exact .lane_beside rfl rfl

theorem State.offeringOffer_quiet (s : State) (n : Lane) (o : LaneOffer) : Quiet s (s.offeringOffer n o) := by
  unfold State.offeringOffer
  split
  · exact (s.enterRefused_quiet n _).trans (.lane_beside rfl rfl)
  · split <;> exact .lane_beside rfl rfl

theorem State.ackingOffer_quiet (s : State) (n : Lane) (o : LaneOffer) (ack : Bool) : Quiet s (s.ackingOffer n o ack) := by
  unfold State.ackingOffer
  dsimp only
  split
  · exact (s.enterRefused_quiet n _).trans (.lane_beside rfl rfl)
  · split
    · split
      · exact .lane_beside rfl rfl
      · exact .refl s
    · exact .lane_beside rfl rfl

theorem State.handleOffer_quiet (s : State) (n : Lane) (o : LaneOffer) (ack : Bool) : Quiet s (s.handleOffer n o ack) := by
  have answered {u : State} (h : Quiet s u) : Quiet s (u.answerOffer n) := h.trans (State.reply_quiet _ _ _)
  have relisten {f : Intake → Intake} (hi : (f (s.lane n)).inHand = (s.lane n).inHand) (hq : (f (s.lane n)).queue = (s.lane n).queue) :
      Quiet s (((s.modifyLane n f).listenOffer n o).answerOffer n) :=
    answered ((Quiet.lane_beside hi hq).trans (State.listenOffer_quiet _ n o))
  unfold State.handleOffer
  split
  · exact .refl s
  · exact answered (s.listenOffer_quiet n o)
  · exact answered (s.offeringOffer_quiet n o)
  · exact answered (s.ackingOffer_quiet n o ack)
  · exact .of_duties rfl
  · split
    · exact .of_duties rfl
    · exact relisten rfl rfl
  · split
    · exact .of_duties rfl
    · exact relisten rfl rfl
  · split
    · exact .of_duties rfl
    · exact relisten rfl rfl

theorem State.handleBind_quiet (s : State) (n : Lane) (number : Nat) : Quiet s (s.handleBind n number) := by
  unfold State.handleBind
  split
  · split
    · split
      · exact .of_duties rfl
      · split <;> exact .of_duties rfl
    · unfold State.bindTicket
      split
      · exact .of_duties rfl
      · rename_i i _ _
        split
        · exact .of_duties rfl
        · split
          · exact .of_duties rfl
          · have listed : Quiet s (s.modifyTicket i (fun t => { t with lanes := t.lanes.add n })) := .of_duties rfl
            exact (listed.trans (.lane_beside rfl rfl)).trans (State.reply_quiet _ _ _)
  · exact .of_duties rfl

theorem State.handleUnbind_quiet (s : State) (n : Lane) : Quiet s (s.handleUnbind n) := by
  unfold State.handleUnbind
  split
  · split
    · exact .of_duties rfl
    · split
      · exact (s.replyCode_quiet _ _).trans (State.closeBatch_quiet _ n .unbind)
      · exact .of_duties rfl
  · exact .of_duties rfl

theorem Intake.gateChange_keepsHand (i : Intake) (powered : Bool) (filter : Nat) (broken : Bool) :
    i.KeepsHand (i.gateChange powered filter broken) := by
  unfold Intake.gateChange
  split
  · exact ⟨rfl, fun _ h => h⟩
  · dsimp only
    split
    · split <;> exact ⟨rfl, fun _ h => h⟩
    · exact ⟨rfl, fun _ h => h⟩

theorem State.recogniseGate_quiet (s : State) (n : Lane) : Quiet s (s.recogniseGate n) := by
  have edge (u : State) : Quiet u (u.countEdge n) := by
    unfold State.countEdge
    split
    · exact .lane_beside rfl rfl
    · exact (Quiet.lane_beside rfl rfl).trans (State.raiseStrayItems_quiet _)
  unfold State.recogniseGate
  split
  · exact .refl s
  · dsimp only
    split
    · exact (Quiet.lane_beside rfl rfl).trans (edge _)
    · exact .lane_beside rfl rfl

/-! ## Verdicts -/

theorem State.judgeHold_duties (s : State) (c : Case) (cause : Cause) (also : List Cause) :
    (s.judgeHold c cause also).1.duties = s.duties := by
  unfold State.judgeHold
  split
  · rfl
  · dsimp only
    split
    · split <;> rfl
    · rfl

theorem State.judgeCauses_duties (s : State) (c : Case) (also : List Cause) : (s.judgeCauses c also).1.duties = s.duties := by
  unfold State.judgeCauses
  split
  · unfold State.judgeAccept
    split
    · split
      · rfl
      · exact s.judgeHold_duties c _ _
    · rfl
  · split
    · exact s.judgeHold_duties c _ _
    · rfl

/-- The evaluation of an entry raises nothing and moves no entry (R67). -/
theorem State.judgeEntry_duties (s : State) (n : Lane) (e : Entry) : (s.judgeEntry n e).1.duties = s.duties := by
  unfold State.judgeEntry
  dsimp only
  split
  · rfl
  · split
    · rfl
    · unfold State.judgeLive
      dsimp only
      rw [State.judgeCauses_duties]
      simp [State.duties]

/-- The state in which a judged head's VERDICT is made and the head removed. -/
theorem State.completeHead_eq_removeHead (s : State) (n : Lane) (e : Entry) :
    ∃ u : State, u.duties = s.duties ∧ s.completeHead n e = u.removeHead n e :=
  ⟨(s.judgeEntry n e).1.sendVerdict n e (s.judgeEntry n e).2, s.judgeEntry_duties n e, rfl⟩

/-- Verdict logic raises a verdict operation for the head it takes in hand, or completes it at once (R66, R67). -/
theorem State.takeInHand_keepsArbiter (s : State) (n : Lane) : KeepsArbiter s (s.takeInHand n) := by
  unfold State.takeInHand
  split
  · exact .refl s
  · rename_i e es hq
    split
    · exact .refl s
    · rename_i hin
      have free : (s.lane n).inHand = false := by simpa using hin
      split
      · exact .refl s
      · split
        · exact State.raiseVerdict_keepsArbiter free (by rw [hq]; exact List.cons_ne_nil _ _)
        · obtain ⟨u, hu, hc⟩ := s.completeHead_eq_removeHead n e
          have q : Quiet s u := .of_duties hu
          rw [hc]
          exact (q.trans (State.removeHead_quiet ((q.hands n).1.trans free) e)).keeps

/-- The work of a served verdict operation takes its entry out of hand. -/
theorem State.completeHead_done {s : State} {n : Lane} (hs : s.arbiter.serving = some (.verdict n)) (h : s.arbiterOk) (e : Entry) :
    (s.completeHead n e).operationDone := by
  obtain ⟨u, hu, hc⟩ := s.completeHead_eq_removeHead n e
  have q : Quiet s u := .of_duties hu
  rw [hc]
  exact (u.removeHead_quiet_after n e).operationDone (State.operationDone_of_verdict (q.arbiter ▸ hs) (q.keeps h))

/-- A served verdict operation finds the head it was raised for (R66, R113). -/
theorem State.queue_ne_nil_of_served {s : State} {n : Lane} (hs : s.arbiter.serving = some (.verdict n)) (h : s.arbiterOk) :
    (s.lane n).queue ≠ [] := by
  obtain ⟨_, _, _, hands⟩ := h
  obtain ⟨hraised, _, hqueue⟩ := hands n
  exact hqueue (hraised.mpr (.inr hs))

/-! ## Tickets, holds and the till -/

theorem State.carryRelease_quiet (s : State) (j : Fin 64) (h : Hold) (v : Verdict) (am : Option Grade) :
    Quiet s (s.carryRelease j h v am).1 := by
  unfold State.carryRelease
  split
  · exact .refl s
  · refine .of_duties ?_
    dsimp only
    split <;> simp [State.duties]

theorem State.handleRelease_keepsArbiter (s : State) (hold verdict amended : Nat) : KeepsArbiter s (s.handleRelease hold verdict amended) := by
  unfold State.handleRelease
  split
  · split
    · exact .of_duties rfl
    · split
      · exact s.raiseOrBusy_keepsArbiter _ _
      · exact (s.carryRelease_quiet _ _ _ _).keeps.beside rfl
  · exact .of_duties rfl

theorem State.handleOpen_duties (s : State) (l : Link) (account : Nat) (cash : Bool) : (s.handleOpen l account cash).duties = s.duties := by
  unfold State.handleOpen
  split
  · rfl
  · split <;> rfl

@[simp] theorem State.closeTicket_duties (s : State) (i : Fin 24) : (s.closeTicket i).duties = s.duties := by simp [State.duties]

theorem State.answerQuote_duties (s : State) (i : Fin 24) : (s.answerQuote i).duties = s.duties := by
  unfold State.answerQuote
  split <;> rfl

theorem State.handleQuote_duties (s : State) (number : Nat) : (s.handleQuote number).duties = s.duties := by
  unfold State.handleQuote
  split
  · rfl
  · split
    · rw [State.answerQuote_duties, State.closeTicket_duties]
    · exact s.answerQuote_duties _

theorem State.handleClose_duties (s : State) (number : Nat) : (s.handleClose number).duties = s.duties := by
  unfold State.handleClose
  split
  · rfl
  · split
    · exact s.closeTicket_duties _
    · split <;> rfl

theorem State.handleAdjust_duties (s : State) (number cls grade ownership : Nat) (delta : Int) :
    (s.handleAdjust number cls grade ownership delta).duties = s.duties := by
  unfold State.handleAdjust State.adjustTicket
  (repeat' split) <;> rfl

theorem State.handleConfirmCount_duties (s : State) (number : Nat) : (s.handleConfirmCount number).duties = s.duties := by
  unfold State.handleConfirmCount
  split
  · rfl
  · split
    · simp [State.duties]
    · rfl

theorem State.carryVoid_quiet (s : State) (number : Nat) : Quiet s (s.carryVoid number).1 := by
  unfold State.carryVoid
  split
  · exact .refl s
  · rename_i i t ht
    split
    · have recorded : Quiet s (s.voidRecord number i t) := by
        refine .of_duties ?_
        unfold State.voidRecord
        dsimp only
        split <;> rfl
      rw [State.voidTicket_eq (State.lookupTicket_eq_some.mp ht).1]
      exact recorded.trans (State.closeBatches_quiet _ _ _)
    · exact .refl s

theorem State.carrySettle_quiet (s : State) (w : Settler) : Quiet s (s.carrySettle w).1 := by
  unfold State.carrySettle
  split
  · exact .refl s
  · split <;> exact .of_duties rfl

theorem State.handleCollect_duties (s : State) (number : Nat) : (s.handleCollect number).duties = s.duties := by
  unfold State.handleCollect
  split
  · rfl
  · split <;> rfl

theorem State.handlePay_keepsArbiter (s : State) (number : Nat) : KeepsArbiter s (s.handlePay number) := by
  unfold State.handlePay
  split
  · exact .of_duties rfl
  · split
    · split
      · exact .of_duties rfl
      · unfold State.payPriced
        split
        · exact s.raiseOrBusy_keepsArbiter _ _
        · dsimp only
          split <;> exact .of_duties rfl
    · exact .of_duties rfl

theorem State.handleDispensed_keepsArbiter (s : State) (number d : Nat) : KeepsArbiter s (s.handleDispensed number d) := by
  unfold State.handleDispensed
  split
  · exact .of_duties rfl
  · split
    · exact .of_duties rfl
    · rename_i i _ _
      split
      · split
        · exact .of_duties rfl
        · unfold State.takeReport
          split
          · have reported : KeepsArbiter s { s.modifyTicket i (Ticket.report d) with payTimer := none } := .of_duties rfl
            exact reported.trans (State.raiseOffice_keepsArbiter _ _)
          · exact .of_duties rfl
      · split <;> exact .of_duties rfl

theorem State.handleResolve_keepsArbiter (s : State) (key : Bool) (number amount : Nat) : KeepsArbiter s (s.handleResolve key number amount) := by
  unfold State.handleResolve
  split
  · exact .of_duties rfl
  · split
    · exact .of_duties rfl
    · split
      · exact .of_duties rfl
      · split
        · exact s.raiseOrBusy_keepsArbiter _ _
        · exact .of_duties rfl

/-! ## Boundaries, starts and discards -/

theorem State.deadlineTest_quiet (s : State) (i : Fin 24) : Quiet s (s.deadlineTest i) := by
  unfold State.deadlineTest
  split
  · exact .refl s
  · split
    · have forced : Quiet s (s.modifyTicket i Ticket.forceClose) := .of_duties rfl
      exact (forced.trans (State.closeBatches_quiet _ _ _)).trans (.of_duties (State.closeTicket_duties _ i))
    · exact .refl s

theorem State.handBoundary_keepsArbiter (s : State) : KeepsArbiter s s.handBoundary := by
  have closed : Quiet s s.deadlineTests := Quiet.foldl State.deadlineTest_quiet _ s
  have tested : Quiet s s.deadlineTests.expireHolds.reachedTest := closed.trans (.of_duties (by simp [State.duties]))
  exact tested.keeps.trans (State.raiseExpiriesAndSweep_keepsArbiter _)

theorem State.minuteBoundary_keepsArbiter (s : State) : KeepsArbiter s s.minuteBoundary := by
  have stepped : KeepsArbiter s { s with clock := s.clock.minuteStep } := .of_duties rfl
  unfold State.minuteBoundary
  dsimp only
  split
  · exact stepped.trans (State.handBoundary_keepsArbiter _)
  · exact .of_duties rfl
  · exact stepped
  · exact stepped

/-- A state that holds the start values of what supply keeps alive obeys the law (R66, R108). -/
theorem State.arbiterOk_of_start {s : State} (arbiter : s.arbiter = Arbiter.start) (setPending : s.setPending = none)
    (lanes : ∀ n, ∃ level filter, s.lane n = Intake.start level filter) : s.arbiterOk := by
  unfold State.arbiterOk State.verdictRaised
  rw [arbiter, setPending]
  refine ⟨fun _ => ⟨rfl, rfl, rfl, rfl⟩, nofun, by decide, fun n => ?_⟩
  obtain ⟨level, filter, hl⟩ := lanes n
  rw [hl]
  simp [Arbiter.start, Intake.start, LaneSet.mem_empty]

theorem State.startVolatile_arbiterOk (s : State) : s.startVolatile.arbiterOk :=
  State.arbiterOk_of_start rfl rfl (fun n => ⟨(s.lane n).gateLevel, s.settings.gateFilter, PerLane.get_map _ _ n⟩)

theorem State.dropVolatile_arbiterOk (s : State) : s.dropVolatile.arbiterOk :=
  State.arbiterOk_of_start rfl rfl (fun n => ⟨(s.lane n).gateLevel, s.settings.gateFilter, PerLane.get_map _ _ n⟩)

theorem State.startAtPowerOn_arbiterOk (s : State) : s.startAtPowerOn.arbiterOk := by
  have started := s.cutShort.loadSettings.startVolatile_arbiterOk
  unfold State.startAtPowerOn
  dsimp only
  split
  · exact KeepsArbiter.of_duties rfl started
  · exact KeepsArbiter.of_duties rfl started

theorem State.startAtReset_arbiterOk (s : State) : s.startAtReset.arbiterOk :=
  KeepsArbiter.of_duties rfl s.cutSave.loadSettings.startVolatile_arbiterOk

theorem State.holdReset_arbiterOk (s : State) (powerOn : Bool) : (s.holdReset powerOn).arbiterOk :=
  KeepsArbiter.of_duties rfl s.cutShort.dropVolatile_arbiterOk

theorem State.openLinks_quiet (s : State) : Quiet s s.openLinks := by
  have broken : Quiet s { s with lanes := s.lanes.map (fun i => { i with breakTimer := seconds 2 }) } := .lanes (fun _ => ⟨rfl, fun _ h => h⟩)
  exact broken.trans (.of_duties rfl)

@[simp] theorem State.discard_duties (s : State) (l : Link) (why : DiscardReason) : (s.discard l why).duties = s.duties := by
  unfold State.discard
  split <;> rfl

theorem State.discardLength_duties (s : State) (l : Link) (len : Byte) : (s.discardLength l len).duties = s.duties := by
  unfold State.discardLength
  split
  · exact s.discard_duties l .length
  · exact s.discard_duties l .length

theorem State.answerFrameSent_keepsArbiter (s : State) (l : Link) : KeepsArbiter s (s.answerFrameSent l) := by
  unfold State.answerFrameSent
  split
  · exact .refl s
  · split
    · exact .of_duties rfl
    · dsimp only
      split
      · exact fun _ => State.startAtReset_arbiterOk _
      · exact .of_duties rfl

/-! ## Commands -/

/-- A command that keeps the law of the arbiter wherever it goes. -/
def KeepsArbiterTo (s : State) (o : Outcome) : Prop := ∀ t, o = .next t → KeepsArbiter s t

theorem KeepsArbiterTo.next {s t : State} (h : KeepsArbiter s t) : KeepsArbiterTo s (.next t) := fun _ e => by cases e; exact h

/-- A command that touches neither arbiter nor intakes. -/
theorem KeepsArbiterTo.still {s t : State} (h : t.duties = s.duties) : KeepsArbiterTo s (.next t) := .next (.of_duties h)

theorem execOpenTicket_keepsArbiter (tag account : Nat) (cash : Option Nat) (s : State) : KeepsArbiterTo s (execOpenTicket tag account cash s) := by
  refine .next ?_
  split
  · exact s.takeRequest_keepsArbiter_of_duties _ _ _ (fun u => u.handleOpen_duties _ _ _)
  · refine s.takeRequest_keepsArbiter_of_duties _ _ _ (fun u => ?_)
    split
    · exact u.handleOpen_duties _ _ _
    · rfl

theorem execVoid_keepsArbiter (tag number : Nat) (s : State) : KeepsArbiterTo s (execVoid tag number s) := by
  refine .next (s.takeRequest_keepsArbiter _ _ _ (fun u => ?_))
  split
  · exact .of_duties rfl
  · exact u.raiseOrBusy_keepsArbiter _ _

theorem execVoidWalk_keepsArbiter (s : State) : KeepsArbiterTo s (execVoidWalk s) := by
  refine .next ?_
  split
  next serving => exact (s.carryVoid_quiet _).finishes serving _ _ _
  next => exact .refl s

theorem execSettleToAccount_keepsArbiter (tag number : Nat) (s : State) : KeepsArbiterTo s (execSettleToAccount tag number s) := by
  refine .next (s.takeRequest_keepsArbiter _ _ _ (fun u => ?_))
  split
  · exact .of_duties rfl
  · exact u.raiseOrBusy_keepsArbiter _ _

theorem execSettleWalk_keepsArbiter (s : State) : KeepsArbiterTo s (execSettleWalk s) := by
  refine .next ?_
  split
  next serving => exact (s.carrySettle_quiet _).finishes serving _ _ _
  next => exact .refl s

theorem execTicketRead_keepsArbiter (tag number : Nat) (s : State) : KeepsArbiterTo s (execTicketRead tag number s) := by
  refine .next (s.takeRequest_keepsArbiter_of_duties _ _ _ (fun u => ?_))
  split <;> rfl

theorem execPayTimeout_keepsArbiter (s : State) : KeepsArbiterTo s (execPayTimeout s) := by
  refine .next ?_
  split
  · exact .refl s
  · dsimp only
    split <;> exact .of_duties rfl

theorem execReleaseOperation_keepsArbiter (s : State) : KeepsArbiterTo s (execReleaseOperation s) := by
  refine .next ?_
  split
  next serving =>
    split
    · exact (Quiet.refl s).finishes serving _ _ _
    · exact (s.carryRelease_quiet _ _ _ _).finishes serving _ _ _
  next => exact .refl s

theorem execHoldRead_keepsArbiter (tag selector number : Nat) (s : State) : KeepsArbiterTo s (execHoldRead tag selector number s) := by
  refine .next (s.takeRequest_keepsArbiter_of_duties _ _ _ (fun u => ?_))
  split
  · split <;> rfl
  · split <;> rfl
  · rfl

theorem execHoldExpiryOperation_keepsArbiter (s : State) : KeepsArbiterTo s (execHoldExpiryOperation s) := by
  refine .next ?_
  split
  next serving =>
    refine Quiet.completes ?_ serving nofun
    split
    · exact .refl s
    · exact .of_duties (by simp [State.duties])
  next => exact .refl s

theorem execIssue_keepsArbiter (tag : Nat) (serials : List Nat) (s : State) : KeepsArbiterTo s (execIssue tag serials s) := by
  refine .next (s.takeRequest_keepsArbiter _ _ _ (fun u => ?_))
  split
  · exact .of_duties rfl
  · exact u.raiseOrBusy_keepsArbiter _ _

theorem execIssueOperation_keepsArbiter (s : State) : KeepsArbiterTo s (execIssueOperation s) := by
  refine .next ?_
  split
  next serials serving =>
    have issued : Quiet s { s with register := (s.register.issueAll s.clock.minute s.settings.lockout serials).1 } := .of_duties rfl
    exact issued.finishes serving _ _ _
  next => exact .refl s

theorem execRegisterQuery_keepsArbiter (tag serial : Nat) (s : State) : KeepsArbiterTo s (execRegisterQuery tag serial s) := by
  refine .next (s.takeRequest_keepsArbiter _ _ _ (fun u => ?_))
  split
  · exact .of_duties rfl
  · exact u.raiseOrBusy_keepsArbiter _ _

theorem execRegisterQueryOperation_keepsArbiter (s : State) : KeepsArbiterTo s (execRegisterQueryOperation s) := by
  refine .next ?_
  split
  next serving => exact (Quiet.refl s).finishes serving _ _ _
  next => exact .refl s

theorem State.takeKeyed_keepsArbiter (s : State) (key : Bool) (l : Link) (kind tag : Nat) {handle : State → State}
    (h : ∀ u : State, KeepsArbiter u (handle u)) : KeepsArbiter s ((s.withKey key).takeRequest l kind tag handle) := by
  have keyed : KeepsArbiter s (s.withKey key) := .of_duties rfl
  exact keyed.trans (State.takeRequest_keepsArbiter _ l kind tag h)

theorem execClearGuard_keepsArbiter (key : Bool) (tag : Nat) (s : State) : KeepsArbiterTo s (execClearGuard key tag s) := by
  refine .next (s.takeKeyed_keepsArbiter _ _ _ _ (fun u => ?_))
  split
  · exact u.raiseOrBusy_keepsArbiter _ _
  · exact .of_duties rfl

theorem execClearGuardOperation_keepsArbiter (s : State) : KeepsArbiterTo s (execClearGuardOperation s) := by
  refine .next ?_
  split
  next serving =>
    have cleared : Quiet s { s with register := { s.register with guardEnd := none } } := .of_duties rfl
    exact cleared.finishes serving _ _ _
  next => exact .refl s

theorem execSweep_keepsArbiter (s : State) : KeepsArbiterTo s (execSweep s) := by
  refine .next ?_
  split
  next serving => exact Quiet.completes (.of_duties rfl) serving nofun
  next => exact .refl s

/-- A rebase moves the stamps of the batches and no entry, and its set waits no more (R182). -/
theorem execRebase_keepsArbiter (s : State) : KeepsArbiterTo s (execRebase s) := by
  refine .next ?_
  split
  next c serving _ =>
    intro h
    have served : s.operationDone := State.operationDone_of_served serving nofun h
    have done : (s.rebaseTo c).operationDone := by
      refine State.operationDone_of_hands (s := s) rfl (fun n => ?_) served
      simp [State.lane, State.rebaseTo, Intake.KeepsHand]
    have answered : Quiet (s.rebaseTo c) ((s.rebaseTo c).replyOldest .f 0x48 ⟨.ok, .clockSet c.minute c.second⟩).reachedTest :=
      .of_duties (by simp [State.duties])
    exact State.completeOperation_arbiterOk (answered.operationDone done)
  next => exact .refl s

theorem execVerdictOperation_keepsArbiter (s : State) : KeepsArbiterTo s (execVerdictOperation s) := by
  refine .next ?_
  split
  next serving =>
    intro h
    split
    next empty => exact absurd empty (State.queue_ne_nil_of_served serving h)
    next => exact State.completeOperation_arbiterOk (State.completeHead_done serving h _)
  next => exact .refl s

theorem execBankWrite_keepsArbiter (tag cls : Nat) (e : RawClassEntry) (s : State) : KeepsArbiterTo s (execBankWrite tag cls e s) := by
  refine .next (s.takeRequest_keepsArbiter_of_duties _ _ _ (fun u => ?_))
  unfold State.handleBankWrite
  split
  · dsimp only
    split <;> rfl
  · rfl

theorem execFeeWrite_keepsArbiter (tag fee : Nat) (s : State) : KeepsArbiterTo s (execFeeWrite tag fee s) := by
  refine .next (s.takeRequest_keepsArbiter_of_duties _ _ _ (fun u => ?_))
  unfold State.handleFeeWrite
  dsimp only
  split <;> rfl

theorem execBankRead_keepsArbiter (tag bank cls : Nat) (s : State) : KeepsArbiterTo s (execBankRead tag bank cls s) := by
  refine .next (s.takeRequest_keepsArbiter_of_duties _ _ _ (fun u => ?_))
  split <;> rfl

theorem execChangeoverArm_keepsArbiter (tag time : Nat) (s : State) : KeepsArbiterTo s (execChangeoverArm tag time s) := by
  refine .next (s.takeRequest_keepsArbiter_of_duties _ _ _ (fun u => ?_))
  split
  · rfl
  · simp [State.duties]

theorem execWatchWrite_keepsArbiter (key : Bool) (tag entry : Nat) (rule : RawRule) (s : State) :
    KeepsArbiterTo s (execWatchWrite key tag entry rule s) := by
  refine .next (s.takeKeyed_keepsArbiter _ _ _ _ (fun u => .of_duties ?_))
  unfold State.handleWatchWrite
  (repeat' split) <;> rfl

theorem execWatchRead_keepsArbiter (tag entry : Nat) (s : State) : KeepsArbiterTo s (execWatchRead tag entry s) := by
  refine .next (s.takeRequest_keepsArbiter_of_duties _ _ _ (fun u => ?_))
  split <;> rfl

theorem execCaptureRead_keepsArbiter (key : Bool) (tag entry : Nat) (s : State) : KeepsArbiterTo s (execCaptureRead key tag entry s) := by
  refine .next (s.takeKeyed_keepsArbiter _ _ _ _ (fun u => .of_duties ?_))
  unfold State.handleCaptureRead
  split
  · dsimp only
    split <;> rfl
  · rfl

theorem execTillLoad_keepsArbiter (key : Bool) (tag amount : Nat) (s : State) : KeepsArbiterTo s (execTillLoad key tag amount s) := by
  refine .next (s.takeKeyed_keepsArbiter _ _ _ _ (fun u => .of_duties ?_))
  unfold State.handleTillLoad
  (repeat' split) <;> rfl

theorem execTillCount_keepsArbiter (key : Bool) (tag amount : Nat) (s : State) : KeepsArbiterTo s (execTillCount key tag amount s) := by
  refine .next (s.takeKeyed_keepsArbiter _ _ _ _ (fun u => .of_duties ?_))
  unfold State.handleTillCount
  (repeat' split) <;> rfl

/-- A lockout or a retention written raises a sweep (R207). -/
theorem execSettingsWrite_keepsArbiter (tag identifier index value : Nat) (s : State) :
    KeepsArbiterTo s (execSettingsWrite tag identifier index value s) := by
  refine .next (s.takeRequest_keepsArbiter _ _ _ (fun u => ?_))
  unfold State.handleSettingsWrite
  split
  · exact .of_duties rfl
  · rename_i st _ _
    have written : KeepsArbiter u { u with settings := st } := .of_duties rfl
    unfold State.afterWrite
    split
    · exact (written.trans (State.raiseSweep_keepsArbiter _)).beside rfl
    · exact .of_duties rfl

theorem execSaveSettings_keepsArbiter (tag : Nat) (s : State) : KeepsArbiterTo s (execSaveSettings tag s) := by
  refine .next (s.takeRequest_keepsArbiter_of_duties _ _ _ (fun u => ?_))
  split <;> rfl

theorem execSaveComplete_keepsArbiter (same : Bool) (s : State) : KeepsArbiterTo s (execSaveComplete same s) := by
  refine .still ?_
  split
  · rfl
  · split <;> rfl

theorem State.rejectFrame_keepsArbiter (s : State) (l : Link) (kind tag : Nat) : KeepsArbiter s (s.rejectFrame l kind tag) :=
  s.takeRequest_keepsArbiter_of_duties _ _ _ (fun _ => rfl)

theorem execReject_keepsArbiter (l : Link) (kind tag : Nat) (s : State) : KeepsArbiterTo s (execReject l kind tag s) := by
  refine .next ?_
  split
  · exact .refl s
  · exact s.rejectFrame_keepsArbiter l kind tag

theorem execKeepalive_keepsArbiter (l : Link) (tag : Nat) (s : State) : KeepsArbiterTo s (execKeepalive l tag s) := by
  refine .next ?_
  split
  · exact s.rejectFrame_keepsArbiter .f _ tag
  · exact s.takeRequest_keepsArbiter_of_duties _ _ _ (fun _ => rfl)

theorem execFrameOverflow_keepsArbiter (l : Link) (s : State) : KeepsArbiterTo s (execFrameOverflow l s) := by
  refine .still ?_
  split <;> rfl

theorem execLinkSilenceExpiry_keepsArbiter (l : Link) (s : State) : KeepsArbiterTo s (execLinkSilenceExpiry l s) := by
  refine .still ?_
  split <;> rfl

theorem execFrameDiscard_keepsArbiter (l : Link) (why : BadFrame) (s : State) : KeepsArbiterTo s (execFrameDiscard l why s) := by
  refine .still ?_
  split
  · rfl
  · split
    · split
      · rfl
      · exact s.discardLength_duties l _
    · exact s.discard_duties l _

theorem execGapTimerExpiry_keepsArbiter (l : Link) (s : State) : KeepsArbiterTo s (execGapTimerExpiry l s) := by
  refine .still ?_
  split
  · exact s.discard_duties l _
  · rfl

theorem execFrameSent_keepsArbiter (l : Link) (s : State) : KeepsArbiterTo s (execFrameSent l s) := by
  refine .next ?_
  split
  · exact .refl s
  · exact s.answerFrameSent_keepsArbiter l
  · exact .of_duties rfl

theorem execRestartLane_keepsArbiter (tag lane : Nat) (s : State) : KeepsArbiterTo s (execRestartLane tag lane s) := by
  refine .next (s.takeRequest_keepsArbiter _ _ _ (fun u => ?_))
  split
  · exact .of_duties rfl
  · exact (((u.replyCode_quiet _ _).trans (State.enterDown_quiet _ _)).trans (.lane_beside rfl rfl)).keeps

theorem execTakeInHand_keepsArbiter (n : Lane) (s : State) : KeepsArbiterTo s (execTakeInHand n s) := by
  refine .next ?_
  split
  · exact s.takeInHand_keepsArbiter n
  · exact .refl s

theorem execLaneSilenceExpiry_keepsArbiter (n : Lane) (s : State) : KeepsArbiterTo s (execLaneSilenceExpiry n s) := by
  refine .next ?_
  split
  · exact (s.enterDown_quiet n).keeps
  · exact .refl s

theorem execBreakIntervalEnd_keepsArbiter (n : Lane) (s : State) : KeepsArbiterTo s (execBreakIntervalEnd n s) := by
  refine .next ?_
  split
  · exact ((Quiet.lane_beside rfl rfl).trans (State.sendOwn_quiet _ n _)).keeps
  · exact .refl s

theorem execMuteRelease_keepsArbiter (n : Lane) (s : State) : KeepsArbiterTo s (execMuteRelease n s) := by
  refine .next (Quiet.lane_beside ?_ ?_).keeps
  · split <;> rfl
  · split <;> rfl

theorem execBurstWindowRestart_keepsArbiter (s : State) : KeepsArbiterTo s (execBurstWindowRestart s) := by
  refine .next ?_
  split
  · have restarted : Quiet s { s with lanes := s.lanes.map (fun i => { i with burst := 0 }) } := .lanes (fun _ => ⟨rfl, fun _ h => h⟩)
    exact restarted.keeps
  · exact .refl s

theorem execGateEdge_keepsArbiter (n : Lane) (s : State) : KeepsArbiterTo s (execGateEdge n s) := by
  refine .next ?_
  split
  · exact .refl s
  · exact (s.recogniseGate_quiet n).keeps

theorem execEndOfStartUp_keepsArbiter (s : State) : KeepsArbiterTo s (execEndOfStartUp s) := by
  refine .next ?_
  split
  · exact s.handBoundary_keepsArbiter.trans (State.openLinks_quiet _).keeps
  · exact .refl s

theorem execResetInput_keepsArbiter (s : State) : KeepsArbiterTo s (execResetInput s) := by
  refine .next ?_
  split
  · exact .refl s
  · exact .refl s
  · exact fun _ => s.holdReset_arbiterOk _
  · exact fun _ => s.holdReset_arbiterOk _

theorem execResetInputRelease_keepsArbiter (s : State) : KeepsArbiterTo s (execResetInputRelease s) := by
  refine .next ?_
  split
  · exact fun _ => s.startAtPowerOn_arbiterOk
  · exact fun _ => s.startAtReset_arbiterOk
  · exact .refl s

theorem execSupplyLoss_keepsArbiter (s : State) : KeepsArbiterTo s (execSupplyLoss s) := by
  refine .next ?_
  split
  · exact .refl s
  · exact fun _ => KeepsArbiter.of_duties rfl s.cutShort.dropVolatile_arbiterOk

theorem execBatteryFall_keepsArbiter (s : State) : KeepsArbiterTo s (execBatteryFall s) := by
  refine .still ?_
  split <;> rfl

theorem execBatteryLevelChange_keepsArbiter (low : Bool) (s : State) : KeepsArbiterTo s (execBatteryLevelChange low s) := by
  refine .still ?_
  split <;> rfl

theorem execClockSecond_keepsArbiter (s : State) : KeepsArbiterTo s (execClockSecond s) := by
  refine .next ?_
  split
  · exact .of_duties rfl
  · exact s.minuteBoundary_keepsArbiter

/-- The commands other than BYTE_RECEIVED keep the law of the arbiter. -/
theorem exec_keepsArbiter_of_ne_byte {c : Instr} (hc : ∀ l key byte, c ≠ .byteReceived l key byte) (s : State) : KeepsArbiterTo s (exec c s) := by
  cases c with
  | offer n tag ability version ack => exact .next (s.takeRequest_keepsArbiter _ _ _ (fun u => (u.handleOffer_quiet n _ ack).keeps))
  | item n it => exact .next (s.takeItem_quiet n it).keeps
  | bind n tag ticket => exact .next (s.takeRequest_keepsArbiter _ _ _ (fun u => (u.handleBind_quiet n ticket).keeps))
  | unbind n tag => exact .next (s.takeRequest_keepsArbiter _ _ _ (fun u => (u.handleUnbind_quiet n).keeps))
  | keepalive l tag => exact execKeepalive_keepsArbiter l tag s
  | openTicket tag account cash => exact execOpenTicket_keepsArbiter tag account cash s
  | quote tag ticket => exact .next (s.takeRequest_keepsArbiter_of_duties _ _ _ (fun u => u.handleQuote_duties ticket))
  | close tag ticket => exact .next (s.takeRequest_keepsArbiter_of_duties _ _ _ (fun u => u.handleClose_duties ticket))
  | adjust tag ticket cls grade ownership delta =>
    exact .next (s.takeRequest_keepsArbiter_of_duties _ _ _ (fun u => u.handleAdjust_duties ticket cls grade ownership delta))
  | confirmCount tag ticket => exact .next (s.takeRequest_keepsArbiter_of_duties _ _ _ (fun u => u.handleConfirmCount_duties ticket))
  | void tag ticket => exact execVoid_keepsArbiter tag ticket s
  | voidWalk => exact execVoidWalk_keepsArbiter s
  | settleToAccount tag ticket => exact execSettleToAccount_keepsArbiter tag ticket s
  | settleWalk => exact execSettleWalk_keepsArbiter s
  | collect tag ticket => exact .next (s.takeRequest_keepsArbiter_of_duties _ _ _ (fun u => u.handleCollect_duties ticket))
  | ticketRead tag ticket => exact execTicketRead_keepsArbiter tag ticket s
  | pay tag ticket => exact .next (s.takeRequest_keepsArbiter _ _ _ (fun u => u.handlePay_keepsArbiter ticket))
  | dispensed tag ticket amount => exact .next (s.takeRequest_keepsArbiter _ _ _ (fun u => u.handleDispensed_keepsArbiter ticket amount))
  | payTimeout => exact execPayTimeout_keepsArbiter s
  | resolve key tag ticket amount => exact .next (s.takeKeyed_keepsArbiter _ _ _ _ (fun u => u.handleResolve_keepsArbiter key ticket amount))
  | tillLoad key tag amount => exact execTillLoad_keepsArbiter key tag amount s
  | tillCount key tag balance => exact execTillCount_keepsArbiter key tag balance s
  | release tag hold verdict amended => exact .next (s.takeRequest_keepsArbiter _ _ _ (fun u => u.handleRelease_keepsArbiter hold verdict amended))
  | releaseOperation => exact execReleaseOperation_keepsArbiter s
  | holdRead tag selector number => exact execHoldRead_keepsArbiter tag selector number s
  | bankWrite tag cls entry => exact execBankWrite_keepsArbiter tag cls entry s
  | feeWrite tag fee => exact execFeeWrite_keepsArbiter tag fee s
  | bankRead tag bank cls => exact execBankRead_keepsArbiter tag bank cls s
  | changeoverArm tag time => exact execChangeoverArm_keepsArbiter tag time s
  | changeoverDisarm tag => exact .next (s.takeRequest_keepsArbiter_of_duties _ _ _ (fun _ => rfl))
  | watchWrite key tag entry rule => exact execWatchWrite_keepsArbiter key tag entry rule s
  | watchRead tag entry => exact execWatchRead_keepsArbiter tag entry s
  | captureRead key tag entry => exact execCaptureRead_keepsArbiter key tag entry s
  | issue tag serials => exact execIssue_keepsArbiter tag serials s
  | issueOperation => exact execIssueOperation_keepsArbiter s
  | registerQuery tag serial => exact execRegisterQuery_keepsArbiter tag serial s
  | registerQueryOperation => exact execRegisterQueryOperation_keepsArbiter s
  | clearGuard key tag => exact execClearGuard_keepsArbiter key tag s
  | clearGuardOperation => exact execClearGuardOperation_keepsArbiter s
  | setClock tag minute second => exact .next (s.takeRequest_keepsArbiter _ _ _ (fun u => u.handleSetClock_keepsArbiter minute second))
  | rebase => exact execRebase_keepsArbiter s
  | clockRead tag => exact .next (s.takeRequest_keepsArbiter_of_duties _ _ _ (fun _ => rfl))
  | settingsWrite tag identifier index value => exact execSettingsWrite_keepsArbiter tag identifier index value s
  | settingsRead tag => exact .next (s.takeRequest_keepsArbiter_of_duties _ _ _ (fun _ => rfl))
  | saveSettings tag => exact execSaveSettings_keepsArbiter tag s
  | saveComplete same => exact execSaveComplete_keepsArbiter same s
  | linkStatus tag => exact .next (s.takeRequest_keepsArbiter_of_duties _ _ _ (fun _ => rfl))
  | restartLane tag lane => exact execRestartLane_keepsArbiter tag lane s
  | attentionRead tag => exact .next (s.takeRequest_keepsArbiter_of_duties _ _ _ (fun _ => rfl))
  | resetUnit tag => exact .next (s.takeRequest_keepsArbiter_of_duties _ _ _ (fun _ => rfl))
  | reject l kind tag => exact execReject_keepsArbiter l kind tag s
  | frameOverflow l => exact execFrameOverflow_keepsArbiter l s
  | frameDiscard l why => exact execFrameDiscard_keepsArbiter l why s
  | gapTimerExpiry l => exact execGapTimerExpiry_keepsArbiter l s
  | frameSent l => exact execFrameSent_keepsArbiter l s
  | takeInHand n => exact execTakeInHand_keepsArbiter n s
  | verdictOperation => exact execVerdictOperation_keepsArbiter s
  | laneSilenceExpiry n => exact execLaneSilenceExpiry_keepsArbiter n s
  | breakIntervalEnd n => exact execBreakIntervalEnd_keepsArbiter n s
  | muteRelease n => exact execMuteRelease_keepsArbiter n s
  | burstWindowRestart => exact execBurstWindowRestart_keepsArbiter s
  | linkSilenceExpiry l => exact execLinkSilenceExpiry_keepsArbiter l s
  | gateInputChange n broken => exact .next (Quiet.lane (Intake.gateChange_keepsHand _ _ _ broken)).keeps
  | gateEdge n => exact execGateEdge_keepsArbiter n s
  | minuteBoundary => exact .next s.minuteBoundary_keepsArbiter
  | holdExpiryOperation => exact execHoldExpiryOperation_keepsArbiter s
  | sweep => exact execSweep_keepsArbiter s
  | powerOnReset => exact .next (fun _ => s.startAtPowerOn_arbiterOk)
  | endOfStartUp => exact execEndOfStartUp_keepsArbiter s
  | resetInput => exact execResetInput_keepsArbiter s
  | resetInputRelease => exact execResetInputRelease_keepsArbiter s
  | supplyLoss => exact execSupplyLoss_keepsArbiter s
  | batteryFall => exact execBatteryFall_keepsArbiter s
  | byteReceived l key byte => exact absurd rfl (hc l key byte)
  | clockSecond => exact execClockSecond_keepsArbiter s
  | batteryLevelChange low => exact execBatteryLevelChange_keepsArbiter low s

/-! ## Bytes received -/

theorem takeFrame_keepsArbiter (l : Link) (key : Bool) (kind tag : Nat) (payload : List Byte) (s : State) :
    KeepsArbiterTo s (takeFrame l key kind tag payload s) := by
  unfold takeFrame
  split
  · exact .next (s.rejectFrame_keepsArbiter l kind tag)
  · exact .next (s.rejectFrame_keepsArbiter l kind tag)
  · unfold State.takeBadLength State.takeBadItem
    refine .next ?_
    split
    · split
      · split
        · exact (s.heardLane_quiet l).keeps
        · exact .of_duties rfl
      · exact .refl s
    · exact s.takeRequest_keepsArbiter_of_duties l kind tag (fun _ => rfl)
  · rename_i c _
    rcases runFrame_eq c s with ⟨h, hc⟩ | h
    · rw [h]; exact exec_keepsArbiter_of_ne_byte hc s
    · rw [h]; exact .next (.refl s)

theorem execByteReceived_keepsArbiter (l : Link) (key : Bool) (byte : Byte) (s : State) : KeepsArbiterTo s (execByteReceived l key byte s) := by
  unfold execByteReceived
  split
  · exact .next (.refl s)
  · unfold State.receive
    split
    · refine .still ?_
      split <;> rfl
    · refine .still ?_
      split
      · rfl
      · exact State.discardLength_duties _ l byte
    · exact .still rfl
    · split
      · exact .still rfl
      · unfold State.endFrame
        dsimp only
        split
        · intro t ht
          have hunting : KeepsArbiter s ((s.withKey key).modifyPort l Port.toHunt) := .of_duties rfl
          exact hunting.trans (takeFrame_keepsArbiter l key _ _ _ _ t ht)
        · exact .still (State.discard_duties _ l .check)

/-- Every command keeps the law of the arbiter. -/
theorem exec_keepsArbiter (c : Instr) (s : State) : KeepsArbiterTo s (exec c s) := by
  by_cases hc : ∀ l key byte, c ≠ .byteReceived l key byte
  · exact exec_keepsArbiter_of_ne_byte hc s
  · push Not at hc
    obtain ⟨l, key, byte, rfl⟩ := hc
    exact execByteReceived_keepsArbiter l key byte s

/-- Settles O59: the case analysis over commands is `exec_keepsArbiter`. -/
theorem everyStepKeepsTheArbiter : Obligations.EveryStepKeepsTheArbiter := by
  intro s t hs hstep
  unfold step at hstep
  split at hstep
  · cases hstep; exact hs
  · rename_i c rest _
    have taken : KeepsArbiter s { s with pending := rest } := .of_duties rfl
    exact taken.trans (exec_keepsArbiter c _ t hstep) hs

end Sys2Proof.Machine

/-! PROOFS. A hold served at the register: its RELEASE and its expiry (R83 to R86), and what HOLD_READ answers (R81, R88). -/

namespace Sys2Proof.Machine

open Sys2Proof

/-! ## The register's part of a RELEASE (R84, R85) -/

/-- The PENDING entry a RELEASE makes sure of (R84). -/
def Hold.keg (h : Hold) : KegEntry := ⟨h.serial, h.owner, h.judged, .pending h.ticket⟩

/-- The entry of a serial replaced by one of the same serial. -/
theorem Register.updateSerial_eq {k : KegEntry} {serial : Nat} (hk : k.serial = serial) (r : Register) :
    r.updateSerial serial (fun _ => k) = { r with entries := r.entries.map (fun e => if e.serial = serial then k else e) } := by
  have entry (e : KegEntry) : ({ (if e.serial = serial then k else e) with serial := e.serial } : KegEntry) =
      if e.serial = serial then k else e := by
    split
    · rename_i he; rw [he, ← hk]
    · rfl
  unfold Register.updateSerial Register.update
  simp only [entry]

/-- The count falls by the number of entries that go. -/
theorem Register.dropPending_eq (r : Register) (serial ticket : Nat) : r.dropPending serial ticket =
    { r with
      entries := r.entries.filter (fun k => !(k.serial == serial && k.state == .pending ticket))
      entryCount := r.entryCount - r.entries.countP (fun k => k.serial == serial && k.state == .pending ticket) } := by
  have gone (p : KegEntry → Bool) : r.entries.length - (r.entries.filter (fun k => !p k)).length = r.entries.countP p := by
    have := r.entries.length_eq_countP_add_countP p
    rw [← List.countP_eq_length_filter]
    simp only [Bool.not_eq_true, Bool.decide_eq_false] at this
    omega
  unfold Register.dropPending Register.keep KegEntry.pendingOn
  dsimp only
  rw [gone]

section Entering

variable {r : Register} {minute : Nat} {h : Hold}

theorem releaseAcceptRegister_of_absent {r' : Register} (absent : r.find h.serial = none) (hi : r.insert minute h.keg = some r') :
    releaseAcceptRegister r minute h = .ok r' := by
  unfold Hold.keg at hi
  unfold releaseAcceptRegister
  simp only [absent, hi]

theorem releaseAcceptRegister_of_full (absent : r.find h.serial = none) (hi : r.insert minute h.keg = none) :
    releaseAcceptRegister r minute h = .error .registerFull := by
  unfold Hold.keg at hi
  unfold releaseAcceptRegister
  simp only [absent, hi]

variable {e : KegEntry} (found : r.find h.serial = some e)
include found

theorem releaseAcceptRegister_of_own (he : e.state = .pending h.ticket) : releaseAcceptRegister r minute h = .ok r := by
  unfold releaseAcceptRegister
  simp only [found, he, if_true]

theorem releaseAcceptRegister_of_other {other : Nat} (he : e.state = .pending other) (ho : other ≠ h.ticket) :
    releaseAcceptRegister r minute h = .error .conflict := by
  unfold releaseAcceptRegister
  simp only [found, he, if_neg ho]

theorem releaseAcceptRegister_of_stamped (he : ∀ n, e.state ≠ .pending n) :
    releaseAcceptRegister r minute h = .ok (r.updateSerial h.serial (fun _ => h.keg)) := by
  unfold releaseAcceptRegister
  rw [found]
  dsimp only
  split
  next n hn => exact absurd hn (he n)
  next => rfl
  next => rfl

end Entering

theorem releaseRegister_of_accepted {h : Hold} {am : Option Grade} (hs : h.serial ≠ 0) (hg : resultingGrade h .accept am ≠ .scrap)
    (r : Register) (minute : Nat) : releaseRegister r minute h .accept am = releaseAcceptRegister r minute h := if_pos ⟨rfl, hs, hg⟩

/-- REFUSE, and ACCEPT as SCRAP, remove the PENDING entry the hold made. -/
theorem releaseRegister_of_dropped {h : Hold} {v : Verdict} {am : Option Grade} (he : h.entryMade = true)
    (hv : v = .accept → resultingGrade h v am = .scrap) (r : Register) (minute : Nat) :
    releaseRegister r minute h v am = .ok (r.dropPending h.serial h.ticket) :=
  (if_neg (fun ⟨ha, _, hg⟩ => hg (hv ha))).trans (if_pos he)

/-! ## A RELEASE carried out (R84, R85) -/

section Carry

variable {s : State} {j : Fin 64} {h : Hold} {am : Option Grade}

/-- A refused RELEASE keeps the hold. -/
theorem State.carryRelease_of_error {v : Verdict} {why : Result} (hr : releaseRegister s.register s.clock.minute h v am = .error why) :
    s.carryRelease j h v am = (s, ⟨why, .empty⟩) := by
  unfold State.carryRelease
  simp only [hr]

variable {i : Fin 24} {t : Ticket} {r : Register} (ht : s.lookupTicket h.ticket = some (i, t))
include ht

theorem State.carryRelease_refuse_of_register (hr : releaseRegister s.register s.clock.minute h .refuse am = .ok r) :
    s.carryRelease j h .refuse am = (({ s with register := r } : State).releasedAs j i t, ⟨.ok, .released h.ticket (t.holds - 1)⟩) := by
  have ht' : ({ s with register := r } : State).lookupTicket h.ticket = some (i, t) := ht
  unfold State.carryRelease
  simp only [hr]
  rw [State.resolveHold_holdsOutstanding ht', State.resolveHold_of ht']
  rfl

theorem State.carryRelease_accept_of_register (hr : releaseRegister s.register s.clock.minute h .accept am = .ok r) :
    s.carryRelease j h .accept am = (({ s with register := r } : State).releasedAs j i
        (t.addCount h.judged (resultingGrade h .accept am) h.ownership h.quantity),
      ⟨if 65535 < t.counter h.judged (resultingGrade h .accept am) h.ownership + h.quantity then .clamped else .ok,
        .released h.ticket (t.holds - 1)⟩) := by
  let counted := t.addCount h.judged (resultingGrade h .accept am) h.ownership h.quantity
  let entered : State := { s with register := r }
  obtain ⟨hi, hn⟩ := State.lookupTicket_eq_some.mp ht
  have hi' : entered.ticketAt i = some t := hi
  have hcounted : (entered.putTicket i counted).lookupTicket h.ticket = some (i, counted) :=
    State.lookupTicket_eq_some.mpr ⟨State.putTicket_ticketAt_same hi', by rw [State.putTicket_ticketNumber]; exact hn⟩
  unfold State.carryRelease
  simp only [hr, ht, State.findTicket_of_lookup ht]
  change ((entered.modifyTicket i _).resolveHold j h false, _) = _
  rw [State.modifyTicket_eq_put hi', State.resolveHold_holdsOutstanding hcounted, State.resolveHold_of hcounted]
  refine Prod.ext ?_ (by simp [Ticket.saturates, counted])
  exact congrArg (fun u => State.priceTest u i) (State.putTicket_putTicket (entered.freeHold j) i _ _)

end Carry

section Served

variable {s : State} {number : Nat} {v : Verdict} {am : Option Grade} (serving : s.arbiter.serving = some (.office (.release number v am)))
include serving

theorem execReleaseOperation_of_unknown (hj : s.lookupHold number = none) :
    exec .releaseOperation s = .next (s.finished .f 0x20 ⟨.noSuchHold, .empty⟩) := by
  refine congrArg Host.Outcome.next ?_
  simp only [serving, hj]
  rfl

/-- A served RELEASE finishes with what its carrying out leaves and answers. -/
theorem execReleaseOperation_of_hold {j : Fin 64} {h : Hold} {u : State} {a : Answer} (hj : s.lookupHold number = some (j, h))
    (hu : s.carryRelease j h v am = (u, a)) : exec .releaseOperation s = .next (u.finished .f 0x20 a) := by
  refine congrArg Host.Outcome.next ?_
  simp only [serving, hj, hu]
  rfl

end Served

/-- Settles O27. -/
theorem releaseOperationSettlesTheEntry : Obligations.ReleaseOperationSettlesTheEntry := by
  intro s number other j h v am r e i t serving keg g resolved counted accepted replaced dropped
  refine ⟨execReleaseOperation_of_unknown serving, fun hj ht hs => ?_⟩
  have hresolved (r : Register) (u : Ticket) : ({ s with register := r } : State).releasedAs j i u = resolved r u := by
    have hj' : ({ s with register := r } : State).lookupHold number = some (j, h) := hj
    unfold State.releasedAs
    rw [State.freeHold_eq hj']
  have hgrade : resultingGrade h .accept am = g := by cases am <;> rfl
  have hdropped : s.register.dropPending h.serial h.ticket = dropped := Register.dropPending_eq _ _ _
  have carried {r : Register} (hv : v = .accept) (hr : releaseRegister s.register s.clock.minute h .accept am = .ok r) :
      exec .releaseOperation s = .next ((resolved r counted).finished .f 0x20 accepted) := by
    subst hv
    refine execReleaseOperation_of_hold serving hj ((State.carryRelease_accept_of_register ht hr).trans ?_)
    rw [hgrade, hresolved]
  refine ⟨fun hv hg => ?_, fun he hv hg => ?_, fun he hv => ?_⟩
  · have entering : releaseRegister s.register s.clock.minute h .accept am = releaseAcceptRegister s.register s.clock.minute h :=
      releaseRegister_of_accepted hs (hgrade ▸ hg) _ _
    have refused {why : Result} (hr : releaseAcceptRegister s.register s.clock.minute h = .error why) :
        exec .releaseOperation s = .next (s.finished .f 0x20 ⟨why, .empty⟩) := by
      subst hv
      exact execReleaseOperation_of_hold serving hj (State.carryRelease_of_error (entering.trans hr))
    refine ⟨fun absent hi => ?_, fun absent full => ?_, fun found own => ?_, fun found he ho => ?_, fun found stamped => ?_⟩
    · exact carried hv (entering.trans (releaseAcceptRegister_of_absent absent hi))
    · exact refused (releaseAcceptRegister_of_full absent full)
    · exact carried hv (entering.trans (releaseAcceptRegister_of_own found own))
    · exact refused (releaseAcceptRegister_of_other found he ho)
    · exact carried hv (entering.trans ((releaseAcceptRegister_of_stamped found stamped).trans
        (congrArg Except.ok (Register.updateSerial_eq (k := h.keg) rfl _))))
  · exact carried hv (hdropped ▸ releaseRegister_of_dropped he (fun _ => hgrade.trans hg) _ _)
  · subst hv
    have hr : releaseRegister s.register s.clock.minute h .refuse am = .ok dropped :=
      hdropped ▸ releaseRegister_of_dropped (v := .refuse) he nofun _ _
    refine execReleaseOperation_of_hold serving hj ((State.carryRelease_refuse_of_register ht hr).trans ?_)
    rw [hresolved]

/-! ## Expiry and HOLD_READ (R81, R86, R88) -/

/-- The numbers of the holds that name a ticket. -/
theorem State.mem_holdsOf {s : State} {ticket n : Nat} :
    n ∈ s.holdsOf ticket ↔ n ∈ s.holdOrder ∧ ∃ j h, s.holdsHold n j h ∧ h.ticket = ticket := by
  unfold State.holdsOf State.holdsHold
  rw [List.mem_filter]
  cases hn : s.lookupHold n with
  | none => simp
  | some p =>
    obtain ⟨j, h⟩ := p
    simp

section Served

variable {s : State} {number : Nat} (serving : s.arbiter.serving = some (.sweep (.expiry number)))
include serving

theorem execHoldExpiryOperation_of_unknown (hj : s.lookupHold number = none) :
    exec .holdExpiryOperation s = .next s.completeOperation := by
  refine congrArg Host.Outcome.next ?_
  simp only [serving, hj]

theorem execHoldExpiryOperation_of_hold {j : Fin 64} {h : Hold} (hj : s.lookupHold number = some (j, h)) : exec .holdExpiryOperation s =
    .next (({ s with register := s.register.dropPending h.serial h.ticket } : State).resolveHold j h true).completeOperation := by
  refine congrArg Host.Outcome.next ?_
  simp only [serving, hj]

end Served

/-- Settles O28. -/
theorem holdsExpireAndAreRead : Obligations.HoldsExpireAndAreRead := by
  refine ⟨fun s number j h i t serving => ⟨execHoldExpiryOperation_of_unknown serving, fun hj ht => ?_⟩,
    fun s tag selector number j h i t htake => ⟨fun hj => ?_, fun hj => ?_, fun ht => ?_, fun ht => ?_, fun hs => ?_⟩⟩
  · have hj' : ({ s with register := s.register.dropPending h.serial h.ticket } : State).lookupHold number = some (j, h) := hj
    have ht' : ({ s with register := s.register.dropPending h.serial h.ticket } : State).lookupTicket h.ticket = some (i, t) := ht
    rw [execHoldExpiryOperation_of_hold serving hj, State.resolveHold_of_ticket ht', State.freeHold_eq hj', Register.dropPending_eq]
    rfl
  · have hj' : (s.received .f 0x21 tag).lookupHold number = some (j, h) := hj
    refine congrArg Host.Outcome.next (State.takeRequest_answered htake ?_)
    simp only [hj']
  · have hj' : (s.received .f 0x21 tag).lookupHold number = none := hj
    refine congrArg Host.Outcome.next (State.takeRequest_refused htake ?_)
    simp only [hj']
  · have ht' : (s.received .f 0x21 tag).findTicket number = some i := State.findTicket_of_lookup ht
    refine ⟨s.holdsOf number, congrArg Host.Outcome.next (State.takeRequest_answered htake ?_), List.filter_sublist, fun n => State.mem_holdsOf⟩
    simp only [ht']
    rfl
  · have ht' : (s.received .f 0x21 tag).findTicket number = none := State.findTicket_eq_none.mpr ht
    refine congrArg Host.Outcome.next (State.takeRequest_refused htake ?_)
    simp only [ht']
  · refine congrArg Host.Outcome.next (State.takeRequest_refused htake ?_)
    split
    next => omega
    next => omega
    next => rfl

end Sys2Proof.Machine

/-! PROOFS. The causes found of an entry and the judgement they make (R67 to R80). -/

namespace Sys2Proof.Machine

open Sys2Proof

/-! ## Causes in priority order (R69 to R74) -/

/-- The also-set holds exactly the causes that are found. -/
theorem mem_causeList {c : Cause} {found : List (Cause × Bool)} : c ∈ causeList found ↔ (c, true) ∈ found := by
  simp [causeList]

/-- The causes stand in the order in which they are looked for. -/
theorem causeList_sublist (found : List (Cause × Bool)) : (causeList found).Sublist (found.map Prod.fst) :=
  List.filter_sublist.map Prod.fst

theorem gradeOf_ne_scrap {n : Nat} : gradeOf n ≠ .scrap ↔ n = 0 ∨ n = 1 := by
  unfold gradeOf
  split <;> simp_all

theorem gradeOf_eq (n : Nat) : gradeOf n = if n = 0 then .full else if n = 1 then .worn else .scrap := by
  unfold gradeOf
  split <;> simp_all

theorem KegEntry.pendingOn_iff {k : KegEntry} {number : Nat} : k.pendingOn number = true ↔ k.state = .pending number := by
  simp [KegEntry.pendingOn]

section Found

variable (ce : ClassEntry) (owns : Ownership) (mode : Option Mode) (it : Item) (f : Fired) (number : Nat) (found : Option KegEntry) (cold : Bool)

/-- The causes that an entry with a live ticket may have, in priority order (R71 to R73). -/
def liveCauses : List Cause :=
  [.classClosed, .watchVoid, .doubleRead, .foreignRefused, .duplicate, .watchHold, .registerCold, .noSerial, .weakRead, .tallyLimit]

theorem foundCauses_sublist : (foundCauses ce owns mode it f number found cold).Sublist liveCauses := causeList_sublist _

theorem foundCauses_rising : (foundCauses ce owns mode it f number found cold).Pairwise (fun a b => a.code < b.code) :=
  List.Pairwise.sublist (foundCauses_sublist ce owns mode it f number found cold) (by decide)

theorem Cause.verdict_of_live : ∀ c ∈ liveCauses, c.verdict = if c.code ≤ 6 then .refuse else .hold := by decide

theorem foundCauses_verdict {c : Cause} (h : c ∈ foundCauses ce owns mode it f number found cold) :
    c.verdict = if c.code ≤ 6 then .refuse else .hold :=
  Cause.verdict_of_live c ((foundCauses_sublist ce owns mode it f number found cold).subset h)

theorem mem_foundCauses (c : Cause) : c ∈ foundCauses ce owns mode it f number found cold ↔ match c with
    | .classClosed => ce.isOpen = false
    | .watchVoid => f.void = true
    | .doubleRead => ∃ k, found = some k ∧ k.state = .pending number
    | .foreignRefused => owns = .foreign ∧ (it.grade = 0 ∨ it.grade = 1) ∧ ce.pool = 0
    | .duplicate => ∃ k, found = some k ∧ k.state ≠ .pending number
    | .watchHold => f.hold = true
    | .registerCold => (it.serial ≠ 0 ∧ (it.grade = 0 ∨ it.grade = 1)) ∧ cold = true
    | .noSerial => ce.serialRequired = true ∧ (it.serial = 0 ∨ mode ≠ some .serial)
    | .weakRead => it.weak = true
    | .tallyLimit => mode = some .tally ∧ ce.tallyLimit < it.quantity
    | _ => False := by
  unfold foundCauses
  rw [mem_causeList]
  cases c with
  | doubleRead => cases found <;> simp [KegEntry.pendingOn_iff]
  | duplicate => cases found <;> simp [KegEntry.pendingOn]
  | foreignRefused => simp [gradeOf_ne_scrap, and_assoc]
  | registerCold => simp [← itemInRegister_iff]
  | _ => simp

end Found

/-! ## What is judged (R68, R70, R72) -/

/-- The ticket an entry is judged against is that of its batch, in OPEN or CLOSING. -/
theorem State.liveTicket_eq_some {s : State} {e : Entry} {i : Fin 24} {t : Ticket} : s.liveTicket e = some (i, t) ↔
    ∃ number, e.ticket = some number ∧ s.holdsTicket number i t ∧ t.state ∈ [.opened, .closing] := by
  have counting (t : Ticket) : t.counting = true ↔ t.state ∈ [.opened, .closing] := by simp [Ticket.counting]
  unfold State.liveTicket
  constructor
  · intro h
    split at h
    next => cases h
    next number hn =>
      split at h
      next => cases h
      next k u hl =>
        split at h
        next hc => cases h; exact ⟨number, hn, hl, (counting t).mp hc⟩
        next => cases h
  · rintro ⟨number, hn, hl, hs⟩
    have hl' : s.lookupTicket number = some (i, t) := hl
    simp only [hn, hl', (counting t).mpr hs, if_true]

/-- A class field that is not MALFORMED is the class as judged (R68). -/
theorem judgedClass_of {it : Item} {cls : Fin 16} (h : (it.cls = none ∧ cls = 0) ∨ it.cls = some cls.val) : judgedClass it = cls := by
  unfold judgedClass
  rcases h with ⟨h, rfl⟩ | h
  · rw [h]
  · rw [h]; exact Fin.ofNat_val_eq_self cls

theorem itemInRegister_iff_grade {it : Item} : itemInRegister it = true ↔ it.serial ≠ 0 ∧ gradeOf it.grade ≠ .scrap := by
  simp [itemInRegister]

theorem Register.lookupItem_of_item {r : Register} {it : Item} (h : itemInRegister it = true) : r.lookupItem it = r.find it.serial := if_pos h

theorem Register.lookupItem_of_other {r : Register} {it : Item} (h : ¬ itemInRegister it = true) : r.lookupItem it = none := if_neg h

/-- The state after a consultation of the watch table for the ticket in a slot (R72, R96, R98). -/
def State.consult (s : State) (i : Fin 24) (t : Ticket) (w : Watched) : State :=
  { s.putTicket i { t with flags := { t.flags with note := t.flags.note || (firedOn s.watch w).note } } with
    watch := consulted s.watch w
    edges := { s.edges with watchHit := s.edges.watchHit || (firedOn s.watch w).any } }

theorem State.applyWatch_eq {s : State} {i : Fin 24} {t : Ticket} (ht : s.ticketAt i = some t) (w : Watched) :
    s.applyWatch i w (firedOn s.watch w) = s.consult i t w := by
  have ht' : ({ s with watch := consulted s.watch w } : State).ticketAt i = some t := ht
  unfold State.applyWatch State.consult
  dsimp only
  rw [State.modifyTicket_eq_put ht']
  cases (firedOn s.watch w).any with
  | true => simp [State.raiseWatchHit, State.modifyEdges, State.putTicket, State.modifyTicket]
  | false => simp [State.putTicket, State.modifyTicket]

/-- The values by which an entry with a live ticket is judged (R68). -/
def State.caseOf (s : State) (n : Lane) (e : Entry) (i : Fin 24) (t : Ticket) (number : Nat) : Case :=
  ⟨n, e, i, number, judgedClass e.item, gradeOf e.item.grade, ownershipOf s.settings.ownCode e.item.owner, s.register.lookupItem e.item,
    (firedOn s.watch (watchedOf s n e t number)).note⟩

/-- The causes found of an entry with a live ticket. -/
def State.causesOf (s : State) (n : Lane) (e : Entry) (t : Ticket) (number : Nat) : List Cause :=
  foundCauses ((s.tariff.bank t.bank).classes.get (judgedClass e.item)) (ownershipOf s.settings.ownCode e.item.owner) e.mode e.item
    (firedOn s.watch (watchedOf s n e t number)) number (s.register.lookupItem e.item) s.register.guardEnd.isSome

/-- An entry that is not MALFORMED is judged by its causes, after the consultation of the watch table (R72, R74). -/
theorem State.judgeEntry_of_live {s : State} {n : Lane} {e : Entry} {number : Nat} {i : Fin 24} {t : Ticket} (hn : e.ticket = some number)
    (ht : s.holdsTicket number i t) (live : t.state ∈ [.opened, .closing]) (good : e.malformed.any = false) : s.judgeEntry n e =
      (s.consult i t (watchedOf s n e t number)).judgeCauses (s.caseOf n e i t number) (s.causesOf n e t number) := by
  obtain ⟨hi, hnumber⟩ := State.lookupTicket_eq_some.mp ht
  have hlive : s.liveTicket e = some (i, t) := State.liveTicket_eq_some.mpr ⟨number, hn, ht, live⟩
  unfold State.judgeEntry
  simp only [hlive, good]
  unfold State.judgeLive
  simp only [hnumber, State.applyWatch_eq hi]
  rfl

/-! ## The judgement (R74, R75, R79) -/

section Judgement

variable {s : State} {c : Case}

theorem State.judgeCauses_of_refuse {first : Cause} {rest : List Cause} (h : first.verdict = .refuse) :
    s.judgeCauses c (first :: rest) = (s, c.frame .refuse (some first) (first :: rest) 0xFFFF) :=
  if_neg (by rw [h]; decide)

theorem State.judgeCauses_of_hold {first : Cause} {rest : List Cause} (h : first.verdict = .hold) :
    s.judgeCauses c (first :: rest) = s.judgeHold c first (first :: rest) :=
  if_pos h

theorem State.judgeAccept_of_entered {r : Register} (item : itemInRegister c.entry.item = true)
    (hr : s.register.insert s.clock.minute c.keg = some r) :
    s.judgeAccept c = (({ s with register := r } : State).countCase c, c.frame .accept none [] 0xFFFF) := by
  unfold State.judgeAccept
  rw [if_pos item, hr]

theorem State.judgeAccept_of_full (item : itemInRegister c.entry.item = true) (hr : s.register.insert s.clock.minute c.keg = none) :
    s.judgeAccept c = s.judgeHold c .registerFull [.registerFull] := by
  unfold State.judgeAccept
  rw [if_pos item, hr]

theorem State.judgeAccept_of_counted (item : ¬ itemInRegister c.entry.item = true) :
    s.judgeAccept c = (s.countCase c, c.frame .accept none [] 0xFFFF) := if_neg item

end Judgement

/-- Settles O48. -/
theorem causesAreFoundInPriority : Obligations.CausesAreFoundInPriority := by
  refine ⟨fun ce owns mode it f number found cold c => ⟨mem_foundCauses ce owns mode it f number found cold c,
    foundCauses_rising ce owns mode it f number found cold, foundCauses_verdict ce owns mode it f number found cold⟩, ?_⟩
  intro s n e number i t cls first rest hn ht live good hcls ownership grade registerItem found w f causes c watched
  obtain rfl := judgedClass_of hcls
  have hgrade : gradeOf e.item.grade = grade := gradeOf_eq _
  have hitem : itemInRegister e.item = true ↔ registerItem := by rw [itemInRegister_iff_grade, hgrade]
  have hfound : s.register.lookupItem e.item = found := if_congr hitem rfl rfl
  have hcase : s.caseOf n e i t number = c := by unfold State.caseOf; rw [hfound, hgrade]; rfl
  have hcauses : s.causesOf n e t number = causes := by unfold State.causesOf; rw [hfound]; rfl
  have judged : s.judgeEntry n e = watched.judgeCauses c causes := by
    rw [State.judgeEntry_of_live hn ht live good, hcase, hcauses]
    rfl
  have verdict (h : causes = first :: rest) : first.verdict = if first.code ≤ 6 then .refuse else .hold := by
    have found : first ∈ causes := by rw [h]; exact List.mem_cons_self
    exact foundCauses_verdict _ _ _ _ _ _ _ _ found
  refine ⟨fun h low => ?_, fun h high => ?_, fun h item full => ?_⟩
  · rw [judged, h, State.judgeCauses_of_refuse ((verdict h).trans (if_pos low))]
    rfl
  · rw [judged, h, State.judgeCauses_of_hold ((verdict h).trans (if_neg (by omega)))]
  · rw [judged, h]
    exact State.judgeAccept_of_full (hitem.mpr item) full

/-! ## Entries that are blocked, and entries with no cause (R69, R70, R77, R79) -/

theorem State.liveTicket_eq_none {s : State} {e : Entry} : s.liveTicket e = none ↔
    ¬∃ number i t, e.ticket = some number ∧ s.holdsTicket number i t ∧ t.state ∈ [.opened, .closing] := by
  constructor
  · rintro h ⟨number, i, t, hlive⟩
    rw [State.liveTicket_eq_some.mpr ⟨number, hlive⟩] at h
    cases h
  · intro h
    refine Option.eq_none_iff_forall_ne_some.mpr (fun p hp => h ?_)
    obtain ⟨number, hlive⟩ := State.liveTicket_eq_some.mp (show s.liveTicket e = some (p.1, p.2) from hp)
    exact ⟨number, p.1, p.2, hlive⟩

/-- A blocked entry is refused by its first cause, and nothing changes. -/
theorem State.judgeEntry_of_blocked {s : State} {e : Entry} (h : s.liveTicket e = none ∨ e.malformed.any = true) (n : Lane) :
    s.judgeEntry n e = (s, ⟨e.item.sequence, .refuse, (blockedCauses e (s.liveTicket e).isNone).head?,
      blockedCauses e (s.liveTicket e).isNone, 0xFFFF, false⟩) := by
  unfold State.judgeEntry
  cases hl : s.liveTicket e with
  | none => rfl
  | some p => exact if_pos (h.resolve_left (by rw [hl]; exact Option.some_ne_none p))

theorem blockedCauses_sublist (e : Entry) (noTicket : Bool) : (blockedCauses e noTicket).Sublist [.malformed, .noTicket, .weakRead] :=
  causeList_sublist _

theorem blockedCauses_rising (e : Entry) (noTicket : Bool) : (blockedCauses e noTicket).Pairwise (fun a b => a.code < b.code) :=
  List.Pairwise.sublist (blockedCauses_sublist e noTicket) (by decide)

theorem mem_blockedCauses {c : Cause} {e : Entry} {noTicket : Bool} : c ∈ blockedCauses e noTicket ↔
    (c = .malformed ∧ e.malformed.any = true) ∨ (c = .noTicket ∧ noTicket = true) ∨ (c = .weakRead ∧ e.item.weak = true) := by
  unfold blockedCauses
  rw [mem_causeList]
  simp

/-- The cause of highest priority stands first: MALFORMED, else NO_TICKET. -/
theorem blockedCauses_first {e : Entry} {noTicket : Bool} (h : noTicket = true ∨ e.malformed.any = true) :
    ∃ cause rest, blockedCauses e noTicket = cause :: rest ∧ (e.malformed.any = true → cause = .malformed)
      ∧ (¬e.malformed.any = true → cause = .noTicket) := by
  unfold blockedCauses
  cases hbad : e.malformed.any with
  | true => exact ⟨.malformed, _, rfl, fun _ => rfl, fun good => absurd rfl good⟩
  | false =>
    obtain rfl : noTicket = true := h.resolve_right (by simp [hbad])
    exact ⟨.noTicket, _, rfl, nofun, fun _ => rfl⟩

/-- An item with no fault found has no cause (R71 to R73). -/
theorem foundCauses_eq_nil {ce : ClassEntry} {owns : Ownership} {mode : Option Mode} {it : Item} {f : Fired} {number : Nat} {found : Option KegEntry}
    {cold : Bool} (isOpen : ce.isOpen = true) (void : f.void = false) (hold : f.hold = false)
    (foreign : ¬(owns = .foreign ∧ gradeOf it.grade ≠ .scrap ∧ ce.pool = 0)) (absent : found = none)
    (warm : itemInRegister it = true → cold = false) (serial : ce.serialRequired = true → it.serial ≠ 0 ∧ mode = some .serial)
    (read : it.weak = false) (tally : mode = some .tally → it.quantity ≤ ce.tallyLimit) :
    foundCauses ce owns mode it f number found cold = [] := by
  refine List.eq_nil_iff_forall_not_mem.mpr (fun c hc => ?_)
  have applies := (mem_foundCauses ce owns mode it f number found cold c).mp hc
  rw [gradeOf_ne_scrap] at foreign
  rw [itemInRegister_iff] at warm
  subst absent
  cases c with
  | foreignRefused => exact foreign applies
  | noSerial =>
    obtain ⟨required, missing⟩ := applies
    obtain ⟨present, inSerial⟩ := serial required
    exact missing.elim present (fun h => h inSerial)
  | tallyLimit =>
    obtain ⟨inTally, exceeds⟩ := applies
    exact absurd (tally inTally) (by omega)
  | registerCold =>
    obtain ⟨item, hcold⟩ := applies
    exact Bool.false_ne_true ((warm item).symm.trans hcold)
  | _ => simp [isOpen, void, hold, read] at applies

/-- The ticket noted by a consultation is counted on. -/
theorem State.consult_countCase {s : State} {i : Fin 24} {t : Ticket} (ht : s.ticketAt i = some t) (w : Watched) (r : Register) {c : Case}
    (hc : c.slot = i) : ({ s.consult i t w with register := r } : State).countCase c =
      { s.putTicket i (({ t with flags := { t.flags with note := t.flags.note || (firedOn s.watch w).note } } : Ticket).addCount c.cls c.grade
          c.ownership c.entry.item.quantity) with
        register := r
        watch := consulted s.watch w
        edges := { s.edges with watchHit := s.edges.watchHit || (firedOn s.watch w).any } } := by
  let noted : Ticket := { t with flags := { t.flags with note := t.flags.note || (firedOn s.watch w).note } }
  have hnoted : ({ s.consult i t w with register := r } : State).ticketAt i = some noted := State.putTicket_ticketAt_same ht
  have twice := State.putTicket_putTicket s i noted (noted.addCount c.cls c.grade c.ownership c.entry.item.quantity)
  unfold State.countCase
  rw [hc, State.modifyTicket_eq_put hnoted]
  rw [← twice]
  rfl

/-- Settles O47. -/
theorem entryIsRefusedOrCounted : Obligations.EntryIsRefusedOrCounted := by
  refine ⟨?_, ?_⟩
  · intro s n e live bad hblocked
    have hlive : (s.liveTicket e).isNone = true ↔ ¬live := Option.isNone_iff_eq_none.trans State.liveTicket_eq_none
    have judged := State.judgeEntry_of_blocked (hblocked.imp_left State.liveTicket_eq_none.mpr) n
    obtain ⟨cause, rest, first, hbad, hgood⟩ := blockedCauses_first (hblocked.imp_left hlive.mpr)
    refine ⟨_, cause, rest, ?_, first, hbad, hgood, blockedCauses_rising e _, ?_, ?_, ?_, fun c hc => ?_⟩
    · rw [judged, first]; rfl
    · simp [mem_blockedCauses, bad]
    · rw [mem_blockedCauses, ← hlive]; simp
    · simp [mem_blockedCauses]
    · exact (mem_blockedCauses.mp hc).imp And.left (Or.imp And.left And.left)
  · intro s n e number i t cls r hn ht live good hcls ownership grade ce w f registerItem isOpen void hold foreign clear serial read tally noted
      counted v
    obtain rfl := judgedClass_of hcls
    have hgrade : gradeOf e.item.grade = grade := gradeOf_eq _
    have hitem : itemInRegister e.item = true ↔ registerItem := by rw [itemInRegister_iff_grade, hgrade]
    have absent : s.register.lookupItem e.item = none := by
      by_cases item : itemInRegister e.item = true
      · rw [Register.lookupItem_of_item item, (clear (hitem.mp item)).1]
      · exact Register.lookupItem_of_other item
    have noCause : s.causesOf n e t number = [] :=
      foundCauses_eq_nil isOpen void hold (hgrade ▸ foreign) absent (fun item => by rw [(clear (hitem.mp item)).2]; rfl) serial read tally
    have judged : s.judgeEntry n e = (s.consult i t w).judgeAccept (s.caseOf n e i t number) := by
      rw [State.judgeEntry_of_live hn ht live good, noCause]
      rfl
    have enters (r : Register) :
        (({ s.consult i t w with register := r } : State).countCase (s.caseOf n e i t number), (s.caseOf n e i t number).frame .accept none [] 0xFFFF)
          = (counted r, v) := by
      rw [State.consult_countCase (State.lookupTicket_eq_some.mp ht).1 w r rfl]
      simp only [State.caseOf, hgrade]
      rfl
    refine ⟨fun item => ?_, fun item hr => ?_⟩
    · rw [judged, State.judgeAccept_of_counted (mt hitem.mp item)]
      exact enters s.register
    · rw [judged, State.judgeAccept_of_entered (r := r) (hitem.mpr item) hr]
      exact enters r

end Sys2Proof.Machine

/-! PROOFS. Watch entries: what a consultation fires (R92 to R98), and their three office requests (R100 to R105). -/

namespace Sys2Proof.Machine

open Sys2Proof

/-! ## Pairs (R90) -/

@[simp] theorem pairHead_pairTail (i : Fin 8) : pairHead (pairTail i) = pairHead i := by
  apply Fin.ext; simp only [pairHead, pairTail]; omega

@[simp] theorem pairTail_pairTail (i : Fin 8) : pairTail (pairTail i) = pairTail i := by
  apply Fin.ext; simp only [pairTail]; omega

theorem pairTail_ne_pairHead (i : Fin 8) : pairTail i ≠ pairHead i := by
  rw [Ne, Fin.ext_iff]; simp [pairHead, pairTail]

theorem eq_pairHead_iff {i : Fin 8} : i = pairHead i ↔ i.val % 2 = 0 := by
  rw [Fin.ext_iff]; simp only [pairHead]; omega

theorem eq_pairTail_of_ne {i : Fin 8} (h : i ≠ pairHead i) : i = pairTail i := by
  rw [Ne, eq_pairHead_iff] at h
  apply Fin.ext; simp only [pairTail]; omega

/-- The other entry of entry `i`'s pair. -/
def pairPartner (i : Fin 8) : Fin 8 :=
  ⟨if i.val % 2 = 0 then i.val + 1 else i.val - 1, by have := i.isLt; split <;> omega⟩

theorem pairPartner_of_even {i : Fin 8} (h : i.val % 2 = 0) : pairPartner i = pairTail i := by
  apply Fin.ext; simp only [pairPartner, pairTail, h, if_true]; omega

theorem pairPartner_of_odd {i : Fin 8} (h : ¬ i.val % 2 = 0) : pairPartner i = pairHead i := by
  apply Fin.ext; simp only [pairPartner, pairHead, if_neg h]; omega

/-! ## What a consultation fires and changes (R92 to R98) -/

section Consultation

variable (t : Table WatchEntry 8) (w : Watched)

/-- The rule is enabled and, by the field it names, matches the item (R92, R93). -/
theorem WatchRule.ready_iff (r : WatchRule) : r.ready w = true ↔ r.enabled = true ∧
    ((r.field = .serial ∧ w.serial ≠ 0 ∧ w.serial / 2 ^ r.exponent = r.value / 2 ^ r.exponent)
      ∨ (r.field = .owner ∧ w.owner ≠ 0 ∧ w.owner = r.value)
      ∨ (r.field = .account ∧ w.account = r.value) ∨ (r.field = .cls ∧ w.cls = r.value)) := by
  unfold WatchRule.ready WatchRule.matchesItem
  cases r.field <;> simp

/-- A chained pair fires as one, an unchained entry by itself (R94, R95). -/
theorem fires_iff (i : Fin 8) : fires t w i = true ↔
    ((t.get (pairHead i)).rule.chain = true ∧ (t.get (pairHead i)).rule.ready w = true ∧ (t.get (pairTail i)).rule.ready w = true)
      ∨ ((t.get (pairHead i)).rule.chain = false ∧ (t.get i).rule.ready w = true) := by
  unfold fires
  cases hc : (t.get (pairHead i)).rule.chain <;> simp [hc]

theorem fires_pairTail_of_chained {i : Fin 8} (hc : (t.get (pairHead i)).rule.chain = true) : fires t w (pairTail i) = fires t w i := by
  simp [fires, hc]

/-- The action of a firing is the tail's for a chained pair and the entry's own otherwise: the entry that acts itself is the tail of the
chained pair (R95, R98). -/
theorem firesWith_iff (a : WatchAction) : firesWith t w a = true ↔ ∃ i, fires t w i = true ∧
    (if (t.get (pairHead i)).rule.chain then (t.get (pairTail i)).rule.action else (t.get i).rule.action) = a := by
  have acting : firesWith t w a = true ↔ ∃ i, fires t w i = true ∧ actsItself t i = true ∧ (t.get i).rule.action = a := by
    simp [firesWith, and_assoc]
  rw [acting]
  constructor
  · rintro ⟨i, hf, hi, ha⟩
    refine ⟨i, hf, ?_⟩
    split
    next hc =>
      have odd : i ≠ pairHead i := by simpa [actsItself, hc] using hi
      rwa [← eq_pairTail_of_ne odd]
    next => exact ha
  · rintro ⟨i, hf, ha⟩
    split at ha
    next hc => exact ⟨pairTail i, by rwa [fires_pairTail_of_chained t w hc], by simp [actsItself, pairTail_ne_pairHead], ha⟩
    next hc => exact ⟨i, hf, by simp [actsItself, hc], ha⟩

theorem firedOn_any_iff : (firedOn t w).any = true ↔ ∃ i, fires t w i = true := by simp [firedOn]

/-- Cells changed one after the other, each at most once. -/
theorem Table.get_foldl_modify {α : Type} {n : Nat} (p : Fin n → Bool) (f : α → α) (j : Fin n) :
    ∀ (l : List (Fin n)) (t : Table α n), l.Nodup →
      (l.foldl (fun acc i => if p i then acc.modify i f else acc) t).get j = if j ∈ l ∧ p j = true then f (t.get j) else t.get j
  | [], _, _ => by simp
  | i :: l, t, h => by
    obtain ⟨fresh, hl⟩ := List.nodup_cons.mp h
    have here : (if p i then t.modify i f else t).get j = if j = i ∧ p j = true then f (t.get j) else t.get j := by
      by_cases hij : j = i
      · subst hij; split <;> simp [*]
      · split <;> simp [Table.get_modify, hij, Ne.symm hij]
    rw [List.foldl_cons, Table.get_foldl_modify p f j l _ hl, here]
    by_cases hij : j = i
    · subst hij; simp [fresh]
    · simp [hij]

theorem consulted_get (i : Fin 8) : (consulted t w).get i = if fires t w i then (t.get i).fire w.capture else t.get i := by
  unfold consulted
  rw [Table.get_foldl_modify _ _ _ _ _ (List.nodup_finRange 8)]
  simp

end Consultation

theorem WatchEntry.fire_eq (e : WatchEntry) (c : Capture) : e.fire c =
    { rule := { e.rule with enabled := e.rule.enabled && !e.rule.oneShot }
      hit := true
      count := min 65535 (e.count + 1)
      capture := if e.locked then e.capture else some c
      locked := true } := by
  rw [WatchEntry.fire, bump_eq_min]

/-- Settles O31. -/
theorem consultationFiresWhatMatches : Obligations.ConsultationFiresWhatMatches := by
  intro t w head tail hits fired acts
  have ready_iff (r : WatchRule) : r.ready w = true ↔ hits r := by
    rw [WatchRule.ready_iff]
    cases hf : r.field <;> simp [hits, hf]
  have fired_iff (i : Fin 8) : fires t w i = true ↔ fired i := by
    rw [fires_iff, ready_iff, ready_iff, ready_iff]
    rfl
  have acts_iff (a : WatchAction) : firesWith t w a = true ↔ acts a := by
    rw [firesWith_iff]
    exact exists_congr fun i => and_congr (fired_iff i) Iff.rfl
  refine ⟨fun i => ⟨fun h => ?_, fun h => ?_⟩, ?_, acts_iff .void, acts_iff .hold, acts_iff .note⟩
  · rw [consulted_get, if_pos ((fired_iff i).mpr h), WatchEntry.fire_eq]
  · rw [consulted_get, if_neg (mt (fired_iff i).mp h)]
  · rw [firedOn_any_iff]
    exact exists_congr fired_iff

/-! ## The form of a rule (R90, R100, R215, R216) -/

theorem yesNo_eq_some {n : Nat} {b : Bool} : yesNo n = some b ↔ n = b.toNat := by
  refine ⟨fun h => ?_, fun h => h ▸ yesNo_toNat b⟩
  unfold yesNo at h
  split at h <;> cases h <;> rfl

theorem watchFieldOfCode_eq_some {n : Nat} {f : WatchField} : watchFieldOfCode n = some f ↔ n = f.code := by
  refine ⟨fun h => ?_, fun h => ?_⟩
  · unfold watchFieldOfCode at h
    split at h <;> cases h <;> rfl
  · subst h; cases f <;> rfl

theorem watchActionOfCode_eq_some {n : Nat} {a : WatchAction} : watchActionOfCode n = some a ↔ n = a.code := by
  refine ⟨fun h => ?_, fun h => ?_⟩
  · unfold watchActionOfCode at h
    split at h <;> cases h <;> rfl
  · subst h; cases a <;> rfl

theorem ruleOfRaw_eq_some {raw : RawRule} {r : WatchRule} : ruleOfRaw raw = some r ↔
    raw.enabled = r.enabled.toNat ∧ raw.oneShot = r.oneShot.toNat ∧ raw.chain = r.chain.toNat ∧ raw.supervisor = r.supervisor.toNat
      ∧ raw.field = r.field.code ∧ raw.action = r.action.code ∧ raw.value = r.value ∧ r.value ≤ r.field.top
      ∧ raw.exponent = r.exponent ∧ r.exponent ≤ 20 := by
  simp only [← yesNo_eq_some, ← watchFieldOfCode_eq_some, ← watchActionOfCode_eq_some]
  constructor
  · intro h
    unfold ruleOfRaw at h
    split at h
    next hen hfi hac hos hch hsu =>
      split at h
      next hrange => cases h; exact ⟨hen, hos, hch, hsu, hfi, hac, rfl, hrange.1, rfl, hrange.2⟩
      next => cases h
    next => cases h
  · rintro ⟨hen, hos, hch, hsu, hfi, hac, hvalue, hv, hexponent, he⟩
    unfold ruleOfRaw
    simp only [hen, hfi, hac, hos, hch, hsu, hvalue, hexponent, hv, he, and_self, if_true]

/-! ## The office requests (R100 to R105) -/

theorem watchIndex_val (i : Fin 8) : watchIndex i.val = some i := dif_pos i.isLt

theorem watchIndex_of_gt {n : Nat} (h : 7 < n) : watchIndex n = none := dif_neg (by omega)

/-- Chaining a supervisor tail under a head without the flag, seen from the entry written and from the other entry of its pair (R103). -/
theorem chainConflict_iff (t : Table WatchEntry 8) (key : Bool) (i : Fin 8) (r : WatchRule) :
    chainConflict t key i r = true ↔
      (i.val % 2 = 0 ∧ key = true ∧ r.chain = true ∧ (t.get (pairPartner i)).rule.supervisor = true ∧ r.supervisor = false)
      ∨ (¬ i.val % 2 = 0 ∧ r.supervisor = true ∧ (t.get (pairPartner i)).rule.chain = true
        ∧ (t.get (pairPartner i)).rule.supervisor = false) := by
  unfold chainConflict
  by_cases even : i.val % 2 = 0
  · rw [if_pos (eq_pairHead_iff.mpr even), pairPartner_of_even even]
    simp [even, and_assoc]
  · rw [if_neg (mt eq_pairHead_iff.mp even), pairPartner_of_odd even]
    simp [even, and_assoc]

/-- The rule as stored, seen from the entry written and from the other entry of its pair (R101, R103). -/
theorem storedRule_eq (t : Table WatchEntry 8) (key : Bool) (i : Fin 8) (r : WatchRule) : storedRule t key i r =
    { r with
      exponent := if r.field = .serial then r.exponent else 0
      chain := r.chain && decide (i.val % 2 = 0) && !(!key && (t.get (pairPartner i)).rule.supervisor) } := by
  unfold storedRule
  by_cases even : i.val % 2 = 0
  · rw [pairPartner_of_even even, beq_iff_eq.mpr (eq_pairHead_iff.mpr even), decide_eq_true even]
  · rw [beq_eq_false_iff_ne.mpr (mt eq_pairHead_iff.mp even), decide_eq_false even]
    simp

theorem chainedAs_eq (t : Table WatchEntry 8) (i : Fin 8) : chainedAs t i =
    if (t.get (pairHead i)).rule.chain then (if i.val % 2 = 0 then .head else .tail) else .no := by
  simp only [chainedAs, eq_pairHead_iff]

section Handling

variable {s : State} {key : Bool} {entry : Nat} {i : Fin 8} {raw : RawRule} {r : WatchRule}

theorem State.handleWatchWrite_of_bad (h : 7 < entry ∨ ruleOfRaw raw = none) :
    s.handleWatchWrite key entry raw = s.replyCode .f .malformed := by
  unfold State.handleWatchWrite
  rcases h with h | h
  · rw [watchIndex_of_gt h]
  · rw [h]; cases watchIndex entry <;> rfl

theorem State.handleWatchWrite_of_form (hr : ruleOfRaw raw = some r) : s.handleWatchWrite key i.val raw =
    if !key && ((s.watch.get i).rule.supervisor || r.supervisor) then s.replyCode .f .locked
    else if chainConflict s.watch key i r then s.replyCode .f .chainConflict
    else ({ s with watch := s.watch.set i (WatchEntry.fresh (storedRule s.watch key i r)) } : State).reply .f
      ⟨if storedRule s.watch key i r = r then .ok else .clamped, .watchRule i.val (storedRule s.watch key i r)⟩ := by
  unfold State.handleWatchWrite
  simp only [watchIndex_val, hr]

theorem State.handleCaptureRead_of_index : s.handleCaptureRead key i.val =
    if !key && (s.watch.get i).rule.supervisor then s.replyCode .f .locked
    else ({ s with watch := s.watch.set i { s.watch.get i with hit := false, locked := false } } : State).reply .f
      ⟨.ok, .capture i.val (s.watch.get i).capture (s.watch.get i).hit (s.watch.get i).count⟩ := by
  unfold State.handleCaptureRead
  simp only [watchIndex_val]

theorem State.handleCaptureRead_of_gt (h : 7 < entry) : s.handleCaptureRead key entry = s.replyCode .f .malformed := by
  unfold State.handleCaptureRead
  rw [watchIndex_of_gt h]

end Handling

/-- Settles O30. -/
theorem watchEntriesAreWrittenAndRead : Obligations.WatchEntriesAreWrittenAndRead := by
  refine ⟨fun s key tag entry i raw r htake => ?_, fun s key tag entry i htake => ?_, fun raw r => ruleOfRaw_eq_some⟩
  · intro old partner even conflict stored
    have htake' : (s.withKey key).canTake .f := (s.withKey_canTake key .f).mpr htake
    have hconflict : chainConflict s.watch key i r = true ↔ conflict := chainConflict_iff s.watch key i r
    have hstored : storedRule s.watch key i r = stored := storedRule_eq s.watch key i r
    refine ⟨fun hbad => congrArg _ (State.takeRequest_refused htake' (State.handleWatchWrite_of_bad hbad)), ?_⟩
    rintro rfl hr
    refine ⟨fun hkey hsup => congrArg _ (State.takeRequest_refused htake' ?_), fun hopen => ?_⟩
    · have locked : (!key && (old.supervisor || r.supervisor)) = true := by simpa [hkey] using hsup
      rw [State.handleWatchWrite_of_form hr]
      exact if_pos locked
    have unlocked : ¬ (!key && (old.supervisor || r.supervisor)) = true := by
      rcases hopen with hkey | ⟨hold, hnew⟩
      · simp [hkey]
      · simp [hold, hnew]
    refine ⟨fun hc => congrArg _ (State.takeRequest_refused htake' ?_), fun hc => congrArg _ (State.takeRequest_answered htake' ?_)⟩
    · rw [State.handleWatchWrite_of_form hr]
      exact (if_neg unlocked).trans (if_pos (hconflict.mpr hc))
    · rw [State.handleWatchWrite_of_form hr, ← hstored]
      exact (if_neg unlocked).trans (if_neg (mt hconflict.mp hc))
  · intro e head chained
    have htake' : (s.withKey key).canTake .f := (s.withKey_canTake key .f).mpr htake
    refine ⟨fun high => ⟨congrArg _ (State.takeRequest_refused htake ?_),
      congrArg _ (State.takeRequest_refused htake' (State.handleCaptureRead_of_gt high))⟩, ?_⟩
    · rw [watchIndex_of_gt high]
    rintro rfl
    refine ⟨congrArg _ (State.takeRequest_answered htake ?_), fun hkey hsup => congrArg _ (State.takeRequest_refused htake' ?_),
      fun hopen => congrArg _ (State.takeRequest_answered htake' ?_)⟩
    · have hchained : chainedAs s.watch i = chained := chainedAs_eq s.watch i
      rw [watchIndex_val, ← hchained]
      rfl
    · have locked : (!key && e.rule.supervisor) = true := by simp [hkey, hsup]
      rw [State.handleCaptureRead_of_index]
      exact if_pos locked
    · have unlocked : ¬ (!key && e.rule.supervisor) = true := by
        rcases hopen with h | h <;> simp [h]
      rw [State.handleCaptureRead_of_index]
      exact if_neg unlocked

end Sys2Proof.Machine

/-! PROOFS. The law of the keg register (R106, R114): which commands leave the register as it is, and that the changes of the others keep its
canonical form. -/

namespace Sys2Proof.Machine

open Sys2Proof

/-! ## Handlings that leave the register as it is -/

/-- A request leaves the register as it is when its handling does. -/
theorem State.takeRequest_register (s : State) (l : Link) (kind tag : Nat)
    {handle : State → State} (h : ∀ u : State, (handle u).register = u.register) :
    (s.takeRequest l kind tag handle).register = s.register := by
  unfold State.takeRequest
  split
  · split
    · rw [State.heardLane_register, h]
      exact s.heardDesk_register l
    · rfl
  · rfl

section Handlings

variable (s : State)

/-! ### Lanes -/

@[simp] theorem State.refuseOffer_register (n : Lane) (o : LaneOffer) : (s.refuseOffer n o).register = s.register := rfl

@[simp] theorem State.listenOffer_register (n : Lane) (o : LaneOffer) : (s.listenOffer n o).register = s.register := by
  unfold State.listenOffer
  split <;> rfl

@[simp] theorem State.offeringOffer_register (n : Lane) (o : LaneOffer) : (s.offeringOffer n o).register = s.register := by
  unfold State.offeringOffer
  (repeat' split) <;> rfl

@[simp] theorem State.ackingOffer_register (n : Lane) (o : LaneOffer) (ack : Bool) : (s.ackingOffer n o ack).register = s.register := by
  unfold State.ackingOffer
  dsimp only
  (repeat' split) <;> rfl

@[simp] theorem State.answerOffer_register (n : Lane) : (s.answerOffer n).register = s.register := rfl

theorem State.handleOffer_register (n : Lane) (o : LaneOffer) (ack : Bool) : (s.handleOffer n o ack).register = s.register := by
  unfold State.handleOffer
  (repeat' split) <;> simp

@[simp] theorem State.itemBurst_register (n : Lane) : (s.itemBurst n).register = s.register := by
  unfold State.itemBurst
  dsimp only
  (repeat' split) <;> rfl

@[simp] theorem State.handleItem_register (n : Lane) (it : Item) : (s.handleItem n it).register = s.register := by
  unfold State.handleItem
  dsimp only
  (repeat' split) <;> simp

@[simp] theorem State.senseItem_register (n : Lane) (it : Item) : (s.senseItem n it).register = s.register := by
  unfold State.senseItem
  split <;> simp

@[simp] theorem State.checkSensed_register (n : Lane) (it : Item) : (s.checkSensed n it).register = s.register := by
  unfold State.checkSensed
  split <;> simp

@[simp] theorem State.itemByState_register (n : Lane) (it : Item) : (s.itemByState n it).register = s.register := by
  unfold State.itemByState
  (repeat' split) <;> simp

theorem State.takeItem_register (n : Lane) (it : Item) : (s.takeItem n it).register = s.register := by
  unfold State.takeItem
  (repeat' split) <;> simp

theorem State.handleBind_register (n : Lane) (number : Nat) : (s.handleBind n number).register = s.register := by
  unfold State.handleBind State.bindTicket
  (repeat' split) <;> rfl

theorem State.handleUnbind_register (n : Lane) : (s.handleUnbind n).register = s.register := by
  unfold State.handleUnbind
  (repeat' split) <;> simp

theorem State.recogniseGate_register (n : Lane) : (s.recogniseGate n).register = s.register := by
  unfold State.recogniseGate State.countEdge
  dsimp only
  (repeat' split) <;> rfl

/-! ### Tickets, settlement and the till -/

theorem State.handleOpen_register (l : Link) (account : Nat) (cash : Bool) : (s.handleOpen l account cash).register = s.register := by
  unfold State.handleOpen
  (repeat' split) <;> rfl

@[simp] theorem State.answerQuote_register (i : Fin 24) : (s.answerQuote i).register = s.register := by
  unfold State.answerQuote
  split <;> rfl

theorem State.handleQuote_register (number : Nat) : (s.handleQuote number).register = s.register := by
  unfold State.handleQuote
  (repeat' split) <;> simp

theorem State.handleClose_register (number : Nat) : (s.handleClose number).register = s.register := by
  unfold State.handleClose
  dsimp only
  (repeat' split) <;> simp

theorem State.handleAdjust_register (number cls grade ownership : Nat) (delta : Int) :
    (s.handleAdjust number cls grade ownership delta).register = s.register := by
  unfold State.handleAdjust State.adjustTicket
  (repeat' split) <;> rfl

theorem State.handleConfirmCount_register (number : Nat) : (s.handleConfirmCount number).register = s.register := by
  unfold State.handleConfirmCount
  (repeat' split) <;> simp

theorem State.handleCollect_register (number : Nat) : (s.handleCollect number).register = s.register := by
  unfold State.handleCollect
  (repeat' split) <;> rfl

theorem State.handlePay_register (number : Nat) : (s.handlePay number).register = s.register := by
  unfold State.handlePay State.payPriced
  dsimp only
  (repeat' split) <;> simp [State.startPaying]

theorem State.handleDispensed_register (number d : Nat) : (s.handleDispensed number d).register = s.register := by
  unfold State.handleDispensed State.takeReport
  (repeat' split) <;> rfl

theorem State.handleResolve_register (key : Bool) (number amount : Nat) : (s.handleResolve key number amount).register = s.register := by
  unfold State.handleResolve
  (repeat' split) <;> simp

theorem State.handleTillLoad_register (key : Bool) (amount : Nat) : (s.handleTillLoad key amount).register = s.register := by
  unfold State.handleTillLoad
  (repeat' split) <;> rfl

theorem State.handleTillCount_register (key : Bool) (balance : Nat) : (s.handleTillCount key balance).register = s.register := by
  unfold State.handleTillCount
  (repeat' split) <;> rfl

/-! ### Tariff, watch table, clock and settings -/

theorem State.handleBankWrite_register (cls : Nat) (e : RawClassEntry) : (s.handleBankWrite cls e).register = s.register := by
  unfold State.handleBankWrite
  dsimp only
  (repeat' split) <;> rfl

theorem State.handleFeeWrite_register (fee : Nat) : (s.handleFeeWrite fee).register = s.register := by
  unfold State.handleFeeWrite
  dsimp only
  split <;> rfl

theorem State.handleWatchWrite_register (key : Bool) (entry : Nat) (raw : RawRule) :
    (s.handleWatchWrite key entry raw).register = s.register := by
  unfold State.handleWatchWrite
  dsimp only
  (repeat' split) <;> rfl

theorem State.handleCaptureRead_register (key : Bool) (entry : Nat) : (s.handleCaptureRead key entry).register = s.register := by
  unfold State.handleCaptureRead
  dsimp only
  (repeat' split) <;> rfl

theorem State.handleSetClock_register (minute second : Nat) : (s.handleSetClock minute second).register = s.register := by
  unfold State.handleSetClock
  (repeat' split) <;> rfl

theorem State.handleSettingsWrite_register (identifier index value : Nat) :
    (s.handleSettingsWrite identifier index value).register = s.register := by
  unfold State.handleSettingsWrite State.afterWrite
  (repeat' split) <;> simp

theorem State.minuteBoundary_register : s.minuteBoundary.register = s.register := by
  unfold State.minuteBoundary
  dsimp only
  split <;> simp

/-! ### Links and starts -/

theorem State.rejectFrame_register (l : Link) (kind tag : Nat) : (s.rejectFrame l kind tag).register = s.register :=
  s.takeRequest_register l kind tag (fun _ => rfl)

@[simp] theorem State.discardLength_register (l : Link) (len : Byte) : (s.discardLength l len).register = s.register := by
  unfold State.discardLength
  split <;> simp

theorem State.takeBadLength_register (l : Link) (kind tag : Nat) : (s.takeBadLength l kind tag).register = s.register := by
  unfold State.takeBadLength State.takeBadItem
  split
  · (repeat' split) <;> simp
  · exact s.takeRequest_register l kind tag (fun _ => rfl)

@[simp] theorem State.startAtReset_register : s.startAtReset.register = s.register := by
  simp [State.startAtReset]

theorem State.answerFrameSent_register (l : Link) : (s.answerFrameSent l).register = s.register := by
  unfold State.answerFrameSent
  dsimp only
  (repeat' split) <;> simp

@[simp] theorem State.holdReset_register (powerOn : Bool) : (s.holdReset powerOn).register = s.register := by
  simp [State.holdReset, State.cutShort]

end Handlings

/-! ## Commands that leave the register as it is -/

/-- The commands that may change the register, and the byte that may complete the frame of one. -/
def mayChangeRegister : Instr → Bool
  | .voidWalk => true
  | .settleWalk => true
  | .release _ _ _ _ => true
  | .releaseOperation => true
  | .issueOperation => true
  | .clearGuardOperation => true
  | .rebase => true
  | .takeInHand _ => true
  | .verdictOperation => true
  | .holdExpiryOperation => true
  | .sweep => true
  | .powerOnReset => true
  | .resetInputRelease => true
  | .byteReceived _ _ _ => true
  | _ => false

/-- A command that leaves the register as it is. -/
def LeavesRegister (s : State) (o : Outcome) : Prop := ∀ t, o = .next t → t.register = s.register

theorem LeavesRegister.next {s t : State} (h : t.register = s.register) : LeavesRegister s (.next t) := fun _ e => by cases e; exact h

/-- A request whose handling leaves the register as it is. -/
theorem LeavesRegister.request (s : State) (l : Link) (kind tag : Nat) {handle : State → State}
    (h : ∀ u : State, (handle u).register = u.register) : LeavesRegister s (.next (s.takeRequest l kind tag handle)) :=
  .next (s.takeRequest_register l kind tag h)

/-- The same, for a request that reads the supervisor key. -/
theorem LeavesRegister.keyed (s : State) (key : Bool) (l : Link) (kind tag : Nat) {handle : State → State}
    (h : ∀ u : State, (handle u).register = u.register) : LeavesRegister s (.next ((s.withKey key).takeRequest l kind tag handle)) :=
  .next ((s.withKey key).takeRequest_register l kind tag h)

theorem exec_leavesRegister {c : Instr} (hc : mayChangeRegister c = false) (s : State) : LeavesRegister s (exec c s) := by
  cases c with
  | offer n tag ability version ack => exact .request s _ _ _ (fun u => u.handleOffer_register n _ ack)
  | item n it => exact .next (s.takeItem_register n it)
  | bind n tag ticket => exact .request s _ _ _ (fun u => u.handleBind_register n ticket)
  | unbind n tag => exact .request s _ _ _ (fun u => u.handleUnbind_register n)
  | keepalive l tag =>
    refine .next ?_
    split
    · exact s.rejectFrame_register .f _ tag
    · exact s.takeRequest_register _ _ _ (fun _ => rfl)
  | openTicket tag account cash =>
    refine .next ?_
    split
    · exact s.takeRequest_register _ _ _ (fun u => u.handleOpen_register _ _ _)
    · refine s.takeRequest_register _ _ _ (fun u => ?_)
      split
      · exact u.handleOpen_register _ _ _
      · rfl
  | quote tag ticket => exact .request s _ _ _ (fun u => u.handleQuote_register ticket)
  | close tag ticket => exact .request s _ _ _ (fun u => u.handleClose_register ticket)
  | adjust tag ticket cls grade ownership delta =>
    exact .request s _ _ _ (fun u => u.handleAdjust_register ticket cls grade ownership delta)
  | confirmCount tag ticket => exact .request s _ _ _ (fun u => u.handleConfirmCount_register ticket)
  | void tag ticket =>
    refine .request s _ _ _ (fun u => ?_)
    split
    · rfl
    · exact u.raiseOrBusy_register _ _
  | settleToAccount tag ticket =>
    refine .request s _ _ _ (fun u => ?_)
    split
    · rfl
    · exact u.raiseOrBusy_register _ _
  | collect tag ticket => exact .request s _ _ _ (fun u => u.handleCollect_register ticket)
  | ticketRead tag ticket =>
    refine .request s _ _ _ (fun u => ?_)
    split <;> rfl
  | pay tag ticket => exact .request s _ _ _ (fun u => u.handlePay_register ticket)
  | dispensed tag ticket amount => exact .request s _ _ _ (fun u => u.handleDispensed_register ticket amount)
  | payTimeout =>
    refine .next ?_
    split
    · rfl
    · dsimp only
      split <;> rfl
  | resolve key tag ticket amount => exact .keyed s _ _ _ _ (fun u => u.handleResolve_register key ticket amount)
  | tillLoad key tag amount => exact .keyed s _ _ _ _ (fun u => u.handleTillLoad_register key amount)
  | tillCount key tag balance => exact .keyed s _ _ _ _ (fun u => u.handleTillCount_register key balance)
  | holdRead tag selector number =>
    refine .request s _ _ _ (fun u => ?_)
    (repeat' split) <;> rfl
  | bankWrite tag cls entry => exact .request s _ _ _ (fun u => u.handleBankWrite_register cls entry)
  | feeWrite tag fee => exact .request s _ _ _ (fun u => u.handleFeeWrite_register fee)
  | bankRead tag bank cls =>
    refine .request s _ _ _ (fun u => ?_)
    split <;> rfl
  | changeoverArm tag time =>
    refine .request s _ _ _ (fun u => ?_)
    split
    · rfl
    · exact State.reachedTest_register _
  | changeoverDisarm tag => exact .request s _ _ _ (fun _ => rfl)
  | watchWrite key tag entry rule => exact .keyed s _ _ _ _ (fun u => u.handleWatchWrite_register key entry rule)
  | watchRead tag entry =>
    refine .request s _ _ _ (fun u => ?_)
    split <;> rfl
  | captureRead key tag entry => exact .keyed s _ _ _ _ (fun u => u.handleCaptureRead_register key entry)
  | issue tag serials =>
    refine .request s _ _ _ (fun u => ?_)
    split
    · rfl
    · exact u.raiseOrBusy_register _ _
  | registerQuery tag serial =>
    refine .request s _ _ _ (fun u => ?_)
    split
    · rfl
    · exact u.raiseOrBusy_register _ _
  | registerQueryOperation =>
    refine .next ?_
    split
    · exact State.completeOperation_register _
    · rfl
  | clearGuard key tag =>
    refine .keyed s _ _ _ _ (fun u => ?_)
    split
    · exact u.raiseOrBusy_register _ _
    · rfl
  | setClock tag minute second => exact .request s _ _ _ (fun u => u.handleSetClock_register minute second)
  | clockRead tag => exact .request s _ _ _ (fun _ => rfl)
  | settingsWrite tag identifier index value => exact .request s _ _ _ (fun u => u.handleSettingsWrite_register identifier index value)
  | settingsRead tag => exact .request s _ _ _ (fun _ => rfl)
  | saveSettings tag =>
    refine .request s _ _ _ (fun u => ?_)
    split <;> rfl
  | saveComplete same =>
    refine .next ?_
    (repeat' split) <;> rfl
  | linkStatus tag => exact .request s _ _ _ (fun _ => rfl)
  | restartLane tag lane =>
    refine .request s _ _ _ (fun u => ?_)
    split
    · rfl
    · exact State.enterDown_register _ _
  | attentionRead tag => exact .request s _ _ _ (fun _ => rfl)
  | resetUnit tag => exact .request s _ _ _ (fun _ => rfl)
  | reject l kind tag =>
    refine .next ?_
    split
    · rfl
    · exact s.rejectFrame_register l kind tag
  | frameOverflow l =>
    refine .next ?_
    split <;> rfl
  | frameDiscard l why =>
    refine .next ?_
    (repeat' split) <;> simp
  | gapTimerExpiry l =>
    refine .next ?_
    split <;> simp
  | frameSent l =>
    refine .next ?_
    split
    · rfl
    · exact s.answerFrameSent_register l
    · rfl
  | laneSilenceExpiry n =>
    refine .next ?_
    split <;> simp
  | breakIntervalEnd n =>
    refine .next ?_
    split <;> rfl
  | muteRelease n => exact .next rfl
  | burstWindowRestart =>
    refine .next ?_
    split <;> rfl
  | linkSilenceExpiry l =>
    refine .next ?_
    split <;> rfl
  | gateInputChange n broken => exact .next rfl
  | gateEdge n =>
    refine .next ?_
    split
    · rfl
    · exact s.recogniseGate_register n
  | minuteBoundary => exact .next s.minuteBoundary_register
  | endOfStartUp =>
    refine .next ?_
    split <;> simp
  | resetInput =>
    refine .next ?_
    split <;> simp
  | supplyLoss =>
    refine .next ?_
    split <;> simp [State.cutShort]
  | batteryFall =>
    refine .next ?_
    split <;> rfl
  | clockSecond =>
    refine .next ?_
    split
    · rfl
    · exact s.minuteBoundary_register
  | batteryLevelChange low =>
    refine .next ?_
    split <;> rfl
  | _ => cases hc

/-! ## Commands that change the register -/

/-- A change of the state that keeps the register's law. -/
def KeepsRegister (s t : State) : Prop := s.register.ok → t.register.ok

theorem KeepsRegister.of_same {s t : State} (h : t.register = s.register) : KeepsRegister s t := by
  unfold KeepsRegister
  rw [h]
  exact id

theorem KeepsRegister.trans {s t u : State} (h : KeepsRegister s t) (h' : KeepsRegister t u) : KeepsRegister s u := fun hs => h' (h hs)

/-- A change beside the register after one that keeps its law. -/
theorem KeepsRegister.beside {s t u : State} (h : KeepsRegister s t) (same : u.register = t.register) : KeepsRegister s u :=
  h.trans (.of_same same)

theorem KeepsRegister.request (s : State) (l : Link) (kind tag : Nat)
    {handle : State → State} (h : ∀ u : State, KeepsRegister u (handle u)) :
    KeepsRegister s (s.takeRequest l kind tag handle) := by
  unfold State.takeRequest
  split
  · split
    · have listed : KeepsRegister s (s.received l kind tag) := .of_same (by simp)
      exact (listed.trans (h _)).beside (State.heardLane_register _ l)
    · exact .of_same rfl
  · exact .of_same rfl

/-! ### Verdicts (R73 to R78, R114) -/

/-- What the judgement was handed of the register is what the register holds of the item (R73). -/
def Case.asRegistered (c : Case) (r : Register) : Prop := c.found = r.lookupItem c.entry.item

/-- An entry is written for a register item whose serial has none. -/
theorem Case.insert_ok {c : Case} {r r' : Register} {minute : Nat} (hc : c.asRegistered r) (item : itemInRegister c.entry.item = true)
    (absent : c.found = none) (hi : r.insert minute c.keg = some r') (h : r.ok) : r'.ok := by
  have unlisted : r.find c.keg.serial = none := (Register.lookupItem_of_item item).symm.trans (hc.symm.trans absent)
  exact Register.insert_ok h unlisted ((itemInRegister_iff _).mp item).1 hi

theorem State.judgeHold_keepsRegister {s : State} {c : Case} (hc : c.asRegistered s.register) (cause : Cause) (also : List Cause) :
    KeepsRegister s (s.judgeHold c cause also).1 := by
  unfold State.judgeHold
  split
  · exact .of_same rfl
  · dsimp only
    split
    next entering =>
      obtain ⟨-, item, absent⟩ := entering
      split
      next r hi =>
        have entered : KeepsRegister s { s with register := r } := Case.insert_ok hc item absent hi
        exact entered.beside (State.makeHold_register _ _ _ _ _ _)
      next => exact .of_same (State.makeHold_register _ _ _ _ _ _)
    next => exact .of_same (State.makeHold_register _ _ _ _ _ _)

/-- An item of which the register has an entry has a cause: it was read twice, or it is a duplicate (R73). -/
theorem absent_of_no_cause {ce : ClassEntry} {owns : Ownership} {mode : Option Mode} {it : Item} {f : Fired} {number : Nat}
    {found : Option KegEntry} {cold : Bool} (h : foundCauses ce owns mode it f number found cold = []) : found = none := by
  have uncaused (c : Cause) : c ∉ foundCauses ce owns mode it f number found cold := by rw [h]; exact List.not_mem_nil
  have once := mt (mem_foundCauses ce owns mode it f number found cold .doubleRead).mpr (uncaused _)
  have other := mt (mem_foundCauses ce owns mode it f number found cold .duplicate).mpr (uncaused _)
  cases found with
  | none => rfl
  | some k =>
    by_cases hk : k.state = .pending number
    · exact absurd ⟨k, rfl, hk⟩ once
    · exact absurd ⟨k, rfl, hk⟩ other

theorem State.judgeCauses_keepsRegister {s : State} {c : Case} {also : List Cause} (hc : c.asRegistered s.register)
    (absent : also = [] → c.found = none) : KeepsRegister s (s.judgeCauses c also).1 := by
  unfold State.judgeCauses
  split
  · unfold State.judgeAccept
    split
    next item =>
      split
      next r hi =>
        have entered : KeepsRegister s { s with register := r } := Case.insert_ok hc item (absent rfl) hi
        exact entered.beside rfl
      next => exact State.judgeHold_keepsRegister hc _ _
    next => exact .of_same rfl
  · split
    · exact State.judgeHold_keepsRegister hc _ _
    · exact .of_same rfl

theorem State.judgeEntry_keepsRegister (s : State) (n : Lane) (e : Entry) : KeepsRegister s (s.judgeEntry n e).1 := by
  unfold State.judgeEntry
  dsimp only
  split
  · exact .of_same rfl
  · split
    · exact .of_same rfl
    · unfold State.judgeLive
      dsimp only
      have consulted (i : Fin 24) (w : Watched) (f : Fired) : KeepsRegister s (s.applyWatch i w f) := .of_same (by simp)
      refine (consulted _ _ _).trans (State.judgeCauses_keepsRegister ?_ absent_of_no_cause)
      rw [Case.asRegistered, State.applyWatch_register]

theorem State.completeHead_keepsRegister (s : State) (n : Lane) (e : Entry) : KeepsRegister s (s.completeHead n e) :=
  (s.judgeEntry_keepsRegister n e).beside (by simp [State.completeHead])

theorem State.takeInHand_keepsRegister (s : State) (n : Lane) : KeepsRegister s (s.takeInHand n) := by
  unfold State.takeInHand
  split
  · exact .of_same rfl
  · split
    · exact .of_same rfl
    · split
      · exact .of_same rfl
      · split
        · exact .of_same rfl
        · exact s.completeHead_keepsRegister n _

/-! ### Walks, releases and starts (R84, R85, R116, R117, R212) -/

theorem State.carryVoid_keepsRegister (s : State) (number : Nat) : KeepsRegister s (s.carryVoid number).1 := by
  unfold State.carryVoid
  split
  · exact .of_same rfl
  next i t ht =>
    split
    · rw [State.voidTicket_eq (State.lookupTicket_eq_some.mp ht).1]
      have voided : KeepsRegister s (s.voidRecord number i t) := by
        unfold KeepsRegister
        rw [State.voidRecord_register]
        exact fun h => s.register.voidTicket_ok h number
      exact voided.beside (State.closeBatches_register _ _ _)
    · exact .of_same rfl

theorem State.carrySettle_keepsRegister (s : State) (w : Settler) : KeepsRegister s (s.carrySettle w).1 := by
  unfold State.carrySettle
  split
  · exact .of_same rfl
  · split
    · exact .of_same rfl
    · exact fun h => s.register.creditTicket_ok h _ _

theorem State.carryRelease_keepsRegister (s : State) (j : Fin 64) (h : Hold) (v : Verdict) (am : Option Grade) :
    KeepsRegister s (s.carryRelease j h v am).1 := by
  unfold State.carryRelease
  split
  next => exact .of_same rfl
  next r hr =>
    have released : KeepsRegister s { s with register := r } := fun hs => s.register.release_ok hs hr
    refine released.beside ?_
    dsimp only
    split <;> simp

theorem State.handleRelease_keepsRegister (s : State) (hold verdict amended : Nat) :
    KeepsRegister s (s.handleRelease hold verdict amended) := by
  unfold State.handleRelease
  split
  · split
    · exact .of_same rfl
    · split
      · exact .of_same (s.raiseOrBusy_register _ _)
      · exact (s.carryRelease_keepsRegister _ _ _ _).beside rfl
  · exact .of_same rfl

theorem Register.cold_ok (lockout : Nat) : (Register.cold lockout).ok := by
  simp [Register.cold, Register.ok]

theorem State.startAtPowerOn_keepsRegister (s : State) : KeepsRegister s s.startAtPowerOn := by
  unfold State.startAtPowerOn
  dsimp only
  split
  · exact .of_same (by simp [State.cutShort])
  · exact fun _ => Register.cold_ok _

/-- A command that keeps the register's law wherever it goes. -/
def KeepsRegisterTo (s : State) (o : Outcome) : Prop := ∀ t, o = .next t → KeepsRegister s t

theorem KeepsRegisterTo.next {s t : State} (h : KeepsRegister s t) : KeepsRegisterTo s (.next t) := fun _ e => by cases e; exact h

/-- An operation whose work keeps the law is answered and completed. -/
theorem KeepsRegister.finished {s t : State} (h : KeepsRegister s t) (l : Link) (kind : Nat) (a : Answer) :
    KeepsRegister s (t.replyOldest l kind a).completeOperation :=
  h.beside (by simp)

/-- The commands other than BYTE_RECEIVED keep the register's law. -/
theorem exec_keepsRegister_of_ne_byte {c : Instr} (hc : ∀ l key byte, c ≠ .byteReceived l key byte) (s : State) :
    KeepsRegisterTo s (exec c s) := by
  cases hm : mayChangeRegister c with
  | false => exact fun t ht => .of_same (exec_leavesRegister hm s t ht)
  | true =>
    cases c with
    | voidWalk =>
      refine .next ?_
      split
      · exact (s.carryVoid_keepsRegister _).finished _ _ _
      · exact .of_same rfl
    | settleWalk =>
      refine .next ?_
      split
      · exact (s.carrySettle_keepsRegister _).finished _ _ _
      · exact .of_same rfl
    | release tag hold verdict amended =>
      exact .next (.request s _ _ _ (fun u => u.handleRelease_keepsRegister hold verdict amended))
    | releaseOperation =>
      refine .next ?_
      split
      · split
        · exact .of_same (by simp)
        · exact (s.carryRelease_keepsRegister _ _ _ _).finished _ _ _
      · exact .of_same rfl
    | issueOperation =>
      refine .next ?_
      split
      next serials _ =>
        have issued : KeepsRegister s { s with register := (s.register.issueAll s.clock.minute s.settings.lockout serials).1 } :=
          Register.issueAll_ok
        exact issued.finished _ _ _
      next => exact .of_same rfl
    | clearGuardOperation =>
      refine .next ?_
      split
      · have cleared : KeepsRegister s { s with register := { s.register with guardEnd := none } } := fun h => s.register.guard_ok h none
        exact cleared.finished _ _ _
      · exact .of_same rfl
    | rebase =>
      refine .next ?_
      split
      next c _ _ =>
        have moved : KeepsRegister s (s.rebaseTo c) := fun h => s.register.rebase_ok h _
        exact moved.beside (by simp)
      next => exact .of_same rfl
    | takeInHand n =>
      refine .next ?_
      split
      · exact s.takeInHand_keepsRegister n
      · exact .of_same rfl
    | verdictOperation =>
      refine .next ?_
      split
      next n _ =>
        split
        next => exact .of_same (by simp)
        next e _ _ => exact (s.completeHead_keepsRegister n e).beside (State.completeOperation_register _)
      next => exact .of_same rfl
    | holdExpiryOperation =>
      refine .next ?_
      split
      · split
        · exact .of_same (by simp)
        next h _ =>
          have dropped : KeepsRegister s { s with register := s.register.dropPending h.serial h.ticket } :=
            fun hr => s.register.dropPending_ok hr _ _
          exact dropped.beside (by simp)
      · exact .of_same rfl
    | sweep =>
      refine .next ?_
      split
      · have swept : KeepsRegister s
            { s with register := s.register.sweep s.clock.minute s.settings.lockout s.settings.retention } :=
          fun h => s.register.sweep_ok h _ _ _
        exact swept.beside (by simp)
      · exact .of_same rfl
    | powerOnReset => exact .next s.startAtPowerOn_keepsRegister
    | resetInputRelease =>
      refine .next ?_
      split
      · exact s.startAtPowerOn_keepsRegister
      · exact .of_same (by simp)
      · exact .of_same rfl
    | byteReceived l key byte => exact absurd rfl (hc l key byte)
    | _ => cases hm

/-! ### Bytes received -/

theorem takeFrame_keepsRegister (l : Link) (key : Bool) (kind tag : Nat) (payload : List Byte) (s : State) :
    KeepsRegisterTo s (takeFrame l key kind tag payload s) := by
  unfold takeFrame
  split
  · exact .next (.of_same (s.rejectFrame_register l kind tag))
  · exact .next (.of_same (s.rejectFrame_register l kind tag))
  · exact .next (.of_same (s.takeBadLength_register l kind tag))
  next c _ =>
    rcases runFrame_eq c s with ⟨h, hc⟩ | h
    · rw [h]; exact exec_keepsRegister_of_ne_byte hc s
    · rw [h]; exact .next (.of_same rfl)

theorem execByteReceived_keepsRegister (l : Link) (key : Bool) (byte : Byte) (s : State) :
    KeepsRegisterTo s (execByteReceived l key byte s) := by
  unfold execByteReceived
  split
  · exact .next (.of_same rfl)
  · unfold State.receive
    split
    · refine .next (.of_same ?_)
      split <;> rfl
    · refine .next (.of_same ?_)
      split <;> simp
    · exact .next (.of_same rfl)
    · split
      · exact .next (.of_same rfl)
      · unfold State.endFrame
        dsimp only
        split
        · intro t ht
          have hunting : KeepsRegister s ((s.withKey key).modifyPort l Port.toHunt) := .of_same rfl
          exact hunting.trans (takeFrame_keepsRegister l key _ _ _ _ t ht)
        · exact .next (.of_same (by simp))

/-- Every command keeps the register's law. -/
theorem exec_keepsRegister (c : Instr) (s : State) : KeepsRegisterTo s (exec c s) := by
  by_cases hc : ∀ l key byte, c ≠ .byteReceived l key byte
  · exact exec_keepsRegister_of_ne_byte hc s
  · push Not at hc
    obtain ⟨l, key, byte, rfl⟩ := hc
    exact execByteReceived_keepsRegister l key byte s

/-- Settles O53: the case analysis over commands is `exec_keepsRegister`. -/
theorem everyStepKeepsTheRegister : Obligations.EveryStepKeepsTheRegister := by
  intro s t hs hstep
  unfold step at hstep
  split at hstep
  · cases hstep; exact hs
  next c rest _ =>
    have taken : KeepsRegister s { s with pending := rest } := .of_same rfl
    exact taken.trans (exec_keepsRegister c _ t hstep) hs

end Sys2Proof.Machine

/-! PROOFS. The rotation of the register: what is raised at an idle and at a busy register, and what a completed operation hands it to
(R110, R111). -/

namespace Sys2Proof.Machine

open Sys2Proof

/-- The first position of the rotation at which an operation waits is served. -/
theorem Arbiter.rotate_of_split {a : Arbiter} {p : Position} {before after : List Position} (hr : a.last.rotation = before ++ p :: after)
    (hb : ∀ q ∈ before, a.waits q = false) (hp : a.waits p = true) : a.rotate = a.serve p := by
  refine Arbiter.rotate_of_first (List.find?_eq_some_iff_append.mpr ⟨hp, before, after, hr, fun q hq => ?_⟩)
  rw [hb q hq]
  rfl

/-- The one position at which an operation waits is served, whichever was served last. -/
theorem Arbiter.rotate_of_only {a : Arbiter} {p : Position} (hp : a.waits p = true) (h : ∀ q, a.waits q = true → q = p) :
    a.rotate = a.serve p := by
  obtain ⟨q, hq⟩ := Option.isSome_iff_exists.mp (List.find?_isSome.mpr ⟨p, Position.mem_rotation a.last p, hp⟩)
  exact Arbiter.rotate_of_first (hq.trans (congrArg some (h q (List.find?_some hq))))

theorem Arbiter.rotate_of_none {a : Arbiter} (h : ∀ q, a.waits q = false) : a.rotate = { a with serving := none } :=
  Arbiter.rotate_of_idle (List.find?_eq_none.mpr (fun q _ => by rw [h q]; exact Bool.false_ne_true))

/-- An operation raised at an idle register with nothing else waiting is served at once. -/
theorem Arbiter.settle_of_idle {a : Arbiter} {p : Position} (hs : a.serving = none) (hp : a.waits p = true)
    (h : ∀ q, a.waits q = true → q = p) : a.settle = a.serve p := by
  unfold Arbiter.settle
  rw [hs]
  exact Arbiter.rotate_of_only hp h

theorem Arbiter.settle_of_busy {a : Arbiter} (h : a.serving ≠ none) : a.settle = a :=
  Arbiter.settle_of_serving (Option.isSome_iff_ne_none.mpr h)

theorem State.completeOperation_of_split {s : State} {p : Position} {before after : List Position} (hset : s.setPending = none)
    (hr : s.arbiter.last.rotation = before ++ p :: after) (hb : ∀ q ∈ before, s.arbiter.waits q = false) (hp : s.arbiter.waits p = true) :
    s.completeOperation = { s with arbiter := { s.arbiter with serving := none }.serve p } := by
  rw [State.completeOperation_of_rotation (by rw [hset]; rfl)]
  have serves : ({ s.arbiter with serving := none } : Arbiter).rotate = ({ s.arbiter with serving := none } : Arbiter).serve p :=
    Arbiter.rotate_of_split hr hb hp
  exact congrArg (fun a => { s with arbiter := a }) serves

section Idle

variable {a : Arbiter} (hs : a.serving = none) (hl : a.lanes = LaneSet.empty) (ho : a.office = []) (hw : a.sweeps = [])
include hs hl ho hw

theorem Arbiter.raiseOffice_of_idle (op : OfficeOp) : a.raiseOffice op = { a with serving := some (.office op), last := .office } := by
  have only (q : Position) (hq : ({ a with office := a.office ++ [op] } : Arbiter).waits q = true) : q = .office := by
    cases q with
    | lane n => simp [Arbiter.waits, hl, LaneSet.mem_empty] at hq
    | office => rfl
    | sweep => simp [Arbiter.waits, hw] at hq
  refine (Arbiter.settle_of_idle (by exact hs) (by simp [Arbiter.waits]) only).trans ?_
  simp [Arbiter.serve, ho]

theorem Arbiter.raiseVerdict_of_idle (n : Lane) : a.raiseVerdict n = { a with serving := some (.verdict n), last := .lane n } := by
  have only (q : Position) (hq : ({ a with lanes := a.lanes.add n } : Arbiter).waits q = true) : q = .lane n := by
    cases q with
    | lane m => simpa [Arbiter.waits, hl, LaneSet.mem_add, LaneSet.mem_empty] using hq
    | office => simp [Arbiter.waits, ho] at hq
    | sweep => simp [Arbiter.waits, hw] at hq
  have emptied : (a.lanes.add n).drop n = a.lanes := by rw [hl]; cases n <;> rfl
  refine (Arbiter.settle_of_idle (by exact hs) (by simp [Arbiter.waits, LaneSet.mem_add]) only).trans ?_
  simp [Arbiter.serve, emptied]

theorem Arbiter.raiseSweeps_of_idle (sw : SweepOp) (sws : List SweepOp) :
    a.raiseSweeps (sw :: sws) = { a with serving := some (.sweep sw), sweeps := sws, last := .sweep } := by
  have only (q : Position) (hq : ({ a with sweeps := a.sweeps ++ sw :: sws } : Arbiter).waits q = true) : q = .sweep := by
    cases q with
    | lane m => simp [Arbiter.waits, hl, LaneSet.mem_empty] at hq
    | office => simp [Arbiter.waits, ho] at hq
    | sweep => rfl
  refine (Arbiter.settle_of_idle (by exact hs) (by simp [Arbiter.waits]) only).trans ?_
  simp [Arbiter.serve, hw]

end Idle

theorem Arbiter.waits_office_iff (a : Arbiter) : a.waits .office = true ↔ a.office ≠ [] := by simp [Arbiter.waits]
theorem Arbiter.waits_sweep_iff (a : Arbiter) : a.waits .sweep = true ↔ a.sweeps ≠ [] := by simp [Arbiter.waits]

/-- Settles O17. -/
theorem registerServesInRotation : Obligations.RegisterServesInRotation := by
  intro s p n op ops sw sws a served
  refine ⟨State.completeOperation_of_rebase, fun hset idle => ?_, fun hset before after hr hb => ⟨?_, ?_, ?_⟩,
    fun hs => Arbiter.settle_of_busy (a := { a with office := a.office ++ [op] }) hs,
    fun hs hl ho hw => Arbiter.raiseOffice_of_idle hs hl ho hw op,
    fun hs => ⟨Arbiter.settle_of_busy (a := { a with lanes := a.lanes.add n }) hs,
      Arbiter.settle_of_busy (a := { a with sweeps := a.sweeps ++ sws }) hs⟩,
    fun hs hl ho hw => ⟨Arbiter.raiseVerdict_of_idle hs hl ho hw n, Arbiter.raiseSweeps_of_idle hs hl ho hw sw sws⟩,
    fun ls m => ⟨?_, ?_⟩, ⟨rfl, a.waits_office_iff, a.waits_sweep_iff⟩, rfl, rfl, rfl, rfl, rfl⟩
  · rw [State.completeOperation_of_rotation (by rw [hset]; rfl)]
    exact congrArg served (Arbiter.rotate_of_none (a := { a with serving := none }) idle)
  · rintro rfl hn
    exact State.completeOperation_of_split hset hr hb hn
  · rintro rfl ho
    rw [State.completeOperation_of_split hset hr hb (a.waits_office_iff.mpr (ho ▸ List.cons_ne_nil _ _))]
    exact congrArg served (by simp [Arbiter.serve, a, ho])
  · rintro rfl hw
    rw [State.completeOperation_of_split hset hr hb (a.waits_sweep_iff.mpr (hw ▸ List.cons_ne_nil _ _))]
    exact congrArg served (by simp [Arbiter.serve, a, hw])
  · rw [LaneSet.mem_add, Bool.or_comm]
  · rw [LaneSet.mem_drop, Bool.and_comm]

end Sys2Proof.Machine

/-! PROOFS. What a SETTINGS_WRITE stores (R124, R205, R207, R219). -/

namespace Sys2Proof.Machine

open Sys2Proof

/-! ## Values brought into range (R207) -/

theorem clampTo_eq {low high : Nat} (h : low ≤ high) (v : Nat) :
    clampTo low high v = if v < low then low else if high < v then high else v := by
  unfold clampTo
  split
  · omega
  · split <;> omega

theorem clampFilter_eq (v : Nat) : clampFilter v = 2 * ((if v < 2 then 2 else if 40 < v then 40 else v) / 2) := by
  rw [← clampTo_eq (by decide) v]
  unfold clampFilter
  dsimp only
  omega

/-- Of permitted values in rising order the largest not above the one carried is taken, or the smallest when all lie above it. -/
theorem largestNotAbove_spec {allowed : List Nat} (v : Nat) : ∀ {least : Nat}, (least :: allowed).Pairwise (· < ·) →
    (∀ a ∈ least :: allowed, a ≤ v → a ≤ largestNotAbove least allowed v)
      ∧ (largestNotAbove least allowed v ≤ v ∨ ∀ a ∈ least :: allowed, largestNotAbove least allowed v ≤ a ∧ v < a) := by
  unfold largestNotAbove
  induction allowed with
  | nil =>
    intro least _
    simp only [List.mem_singleton, forall_eq, List.foldl_nil]
    omega
  | cons next rest ih =>
    intro least hrise
    obtain ⟨hleast, hrest⟩ := List.pairwise_cons.mp hrise
    have hnext : least < next := hleast next List.mem_cons_self
    rw [List.foldl_cons]
    by_cases reached : next ≤ v
    · obtain ⟨above, below⟩ := ih hrest
      have step := above next List.mem_cons_self reached
      rw [if_pos reached]
      refine ⟨fun a ha hav => ?_, .inl ?_⟩
      · rcases List.mem_cons.mp ha with rfl | ha
        · omega
        · exact above a ha hav
      · rcases below with h | h
        · exact h
        · exact absurd (h next List.mem_cons_self).2 (by omega)
    · obtain ⟨above, below⟩ := ih (hrise.sublist (List.Sublist.cons_cons _ (List.sublist_cons_self _ _)))
      rw [if_neg reached]
      refine ⟨fun a ha hav => ?_, below.imp_right (fun h a ha => ?_)⟩
      · rcases List.mem_cons.mp ha with rfl | ha
        · exact above _ List.mem_cons_self hav
        · rcases List.mem_cons.mp ha with rfl | ha
          · exact absurd hav reached
          · exact above a (List.mem_cons_of_mem _ ha) hav
      · have small := h least List.mem_cons_self
        rcases List.mem_cons.mp ha with rfl | ha
        · exact small
        · rcases List.mem_cons.mp ha with rfl | ha
          · omega
          · exact h a (List.mem_cons_of_mem _ ha)

/-! ## Indices (R219) -/

theorem linkOfIndex_eq (index : Nat) : linkOfIndex index = [Link.lane .l0, .lane .l1, .lane .l2, .k, .f][index]? := by
  match index with
  | 0 | 1 | 2 | 3 | 4 => rfl
  | _ + 5 => rfl

theorem Settings.write_of_malformed {st : Settings} {identifier index value : Nat}
    (h : 15 < identifier ∨ (identifier = 0 ∧ 4 < index) ∨ (identifier = 1 ∧ (2 < index ∨ 7 < value))) :
    st.write identifier index value = none := by
  rcases h with h | ⟨rfl, h⟩ | ⟨rfl, h⟩
  · obtain ⟨k, rfl⟩ := Nat.exists_eq_add_of_lt h
    rw [show 15 + k + 1 = k + 16 by omega]
    rfl
  · have unnamed : linkOfIndex index = none := by
      rw [linkOfIndex_eq]
      exact List.getElem?_eq_none h
    simp only [Settings.write, unnamed]
  · rcases h with h | h
    · simp only [Settings.write, laneOfNumber_eq_none h]
    · cases hn : laneOfNumber index with
      | none => simp only [Settings.write, hn]
      | some n => simp only [Settings.write, hn, gt_iff_lt, if_pos h]

/-! ## The request -/

/-- A write of the lockout or the retention raises a sweep, unless one waits (R124). -/
theorem State.afterWrite_eq (s : State) (identifier : Nat) : s.afterWrite identifier =
    { s with arbiter :=
        if identifier ∈ [10, 11] ∧ SweepOp.sweep ∉ s.arbiter.sweeps then s.arbiter.raiseSweeps [.sweep] else s.arbiter } := by
  unfold State.afterWrite State.raiseSweep
  by_cases named : identifier = 10 ∨ identifier = 11
  · by_cases waits : SweepOp.sweep ∈ s.arbiter.sweeps
    · simp [named, waits]
    · simp [named, waits, State.modifyArbiter]
  · simp [named]

section Write

variable {s : State} {tag identifier index value : Nat} (htake : s.canTake .f)
include htake

theorem execSettingsWrite_of_none (h : s.settings.write identifier index value = none) :
    exec (.settingsWrite tag identifier index value) s = .next (s.refusedWith .f 0x50 tag .malformed) := by
  refine congrArg _ (State.takeRequest_refused htake ?_)
  unfold State.handleSettingsWrite
  rw [State.received_settings, h]

theorem execSettingsWrite_of_some {st : Settings} {v : Nat} (h : s.settings.write identifier index value = some (st, v)) :
    exec (.settingsWrite tag identifier index value) s =
      .next { s.answered .f 0x50 tag ⟨if v = value then .ok else .clamped, .setting identifier index v⟩ with
        settings := st
        arbiter := if identifier ∈ [10, 11] ∧ SweepOp.sweep ∉ s.arbiter.sweeps then s.arbiter.raiseSweeps [.sweep] else s.arbiter } := by
  refine congrArg _ ((State.takeRequest_of_canTake htake _ _ _).trans ?_)
  unfold State.handleSettingsWrite
  have same : ((s.heardDesk .f).modifyPort .f (Port.enqueue 0x50 tag)).settings = s.settings := s.received_settings .f 0x50 tag
  rw [same, h]
  dsimp only
  rw [State.afterWrite_eq]
  rfl

end Write

/-- Settles O36. -/
theorem settingsAreStoredInRange : Obligations.SettingsAreStoredInRange := by
  intro s tag identifier index value htake st req stored within permitted
  have store {u : Settings} {v : Nat} (hw : st.write identifier index value = some (u, v)) : stored u v := execSettingsWrite_of_some htake hw
  have clamped {low high : Nat} (h : low ≤ high) : clampTo low high value = within low high := clampTo_eq h value
  have allowed {least : Nat} {rest : List Nat} (h : (least :: rest).Pairwise (· < ·)) :
      permitted (least :: rest) (largestNotAbove least rest value) :=
    ⟨largestNotAbove_mem least rest value, largestNotAbove_spec value h⟩
  have inRange {low high : Nat} (h : low ≤ high) {f : Nat → Settings}
      (hw : st.write identifier index value = some (f (clampTo low high value), clampTo low high value)) :
      stored (f (within low high)) (within low high) := by
    rw [← clamped h]
    exact store hw
  refine ⟨fun h => execSettingsWrite_of_none htake (Settings.write_of_malformed h),
    ?_, ?_, ?_, ?_, ?_, ?_, ?_, ?_, ?_, ?_, ?_, ?_, ?_, ?_, ?_, ?_⟩
  · rintro rfl l hl
    refine ⟨_, allowed (by decide), store ?_⟩
    simp only [Settings.write, linkOfIndex_eq, hl]
  · rintro rfl n rfl hv
    refine store ?_
    simp only [Settings.write, laneOfNumber_num, if_neg (Nat.not_lt.mpr hv)]
    rfl
  · rintro rfl; exact inRange (by decide) (f := fun v => { st with silence := v }) rfl
  · rintro rfl; exact inRange (by decide) (f := fun v => { st with burst := v }) rfl
  · rintro rfl
    have even : clampFilter value = 2 * (within 2 40 / 2) := clampFilter_eq value
    dsimp only
    rw [← even]
    exact store rfl
  · rintro rfl; exact inRange (by decide) (f := fun v => { st with tolerance := v }) rfl
  · rintro rfl; exact ⟨_, allowed (by decide), store rfl⟩
  · rintro rfl; exact inRange (by decide) (f := fun v => { st with ownCode := v }) rfl
  · rintro rfl; exact inRange (by decide) (f := fun v => { st with ticketLife := v }) rfl
  · rintro rfl; exact inRange (by decide) (f := fun v => { st with holdTime := v }) rfl
  · rintro rfl
    dsimp only
    rw [← clamped (by decide), Nat.min_comm]
    exact store rfl
  · rintro rfl
    dsimp only
    rw [Nat.max_comm, Nat.min_comm]
    exact store rfl
  · rintro rfl; exact inRange (by decide) (f := fun v => { st with payTimeout := v }) rfl
  · rintro rfl; exact ⟨_, allowed (by decide), store rfl⟩
  · rintro rfl; exact inRange (by decide) (f := fun v => { st with cashCap := v }) rfl
  · rintro rfl; exact inRange (by decide) (f := fun v => { st with tillLow := v }) rfl

end Sys2Proof.Machine

/-! PROOFS. SET_CLOCK and its rebase (R111, R141, R181, R182). -/

namespace Sys2Proof.Machine

open Sys2Proof

theorem State.handleSetClock_of_malformed (s : State) {minute second : Nat} (h : 1048576 ≤ minute ∨ 59 < second) :
    s.handleSetClock minute second = s.replyCode .f .malformed := if_pos h

theorem State.handleSetClock_of_busy {s : State} {minute second : Nat} (hm : minute < 1048576) (hs : second ≤ 59)
    (h : s.setPending ≠ none) :
    s.handleSetClock minute second = s.replyCode .f .busy := by
  have form : ¬(minuteMod ≤ minute ∨ 59 < second) := by unfold minuteMod; omega
  unfold State.handleSetClock
  rw [if_neg form, if_pos (Option.isSome_iff_ne_none.mpr h)]

/-- A SET_CLOCK in range makes set pending and raises its rebase. -/
theorem State.handleSetClock_of_free {s : State} {minute second : Nat} (hm : minute < 1048576) (hs : second ≤ 59) (h : s.setPending = none) :
    s.handleSetClock minute second = { s with setPending := some ⟨minute, second⟩, arbiter := s.arbiter.raiseRebase } := by
  have form : ¬(minuteMod ≤ minute ∨ 59 < second) := by unfold minuteMod; omega
  unfold State.handleSetClock
  rw [if_neg form, h]
  rfl

theorem Arbiter.raiseRebase_of_idle {a : Arbiter} (h : a.serving = none) : a.raiseRebase = { a with serving := some .rebase } := by
  simp [Arbiter.raiseRebase, h]

theorem Arbiter.raiseRebase_of_busy {a : Arbiter} (h : a.serving ≠ none) : a.raiseRebase = a := by
  simp [Arbiter.raiseRebase, h]

theorem execSetClock_of_free {s : State} {minute second : Nat} (htake : s.canTake .f) (hm : minute < 1048576) (hs : second ≤ 59)
    (h : s.setPending = none) (tag : Nat) : exec (.setClock tag minute second) s =
      .next { s.waiting .f 0x48 tag with setPending := some ⟨minute, second⟩, arbiter := s.arbiter.raiseRebase } := by
  have handled := State.handleSetClock_of_free (s := s.received .f 0x48 tag) hm hs h
  exact congrArg _ ((State.takeRequest_of_canTake htake _ _ _).trans (congrArg (fun u => State.heardLane u .f) handled))

theorem execRebase_of_serving {s : State} {c : ClockSet} (hs : s.arbiter.serving = some .rebase) (hc : s.setPending = some c) :
    execRebase s = .next (((s.rebaseTo c).replyOldest .f 0x48 ⟨.ok, .clockSet c.minute c.second⟩).reachedTest.completeOperation) := by
  unfold execRebase
  rw [hs, hc]

/-- Settles O33. -/
theorem setClockRebasesTheStamps : Obligations.SetClockRebasesTheStamps := by
  intro s tag minute second c
  refine ⟨fun htake => ⟨fun bad => ?_, fun hm hs => ⟨fun pending => ?_, fun free => ⟨fun idle => ?_, fun busy => ?_⟩⟩⟩,
    fun serving hset => execRebase_of_serving serving hset⟩
  · exact congrArg _ (State.takeRequest_refused htake (State.handleSetClock_of_malformed _ bad))
  · exact congrArg _ (State.takeRequest_refused htake (State.handleSetClock_of_busy (s := s.received .f 0x48 tag) hm hs pending))
  · rw [execSetClock_of_free htake hm hs free, Arbiter.raiseRebase_of_idle idle]
  · rw [execSetClock_of_free htake hm hs free, Arbiter.raiseRebase_of_busy busy]
    rfl

end Sys2Proof.Machine

/-! PROOFS. What the operations of the keg register make of its entries: entries removed and entries changed, an insert, an ISSUE, a query, the
guard, the sweep, and the void of a ticket (R18, R19, R114, R117 to R127). -/

namespace Sys2Proof.Machine

open Sys2Proof

/-! ## Entries by serial (R106) -/

/-- Rising serials name the entries. -/
theorem eq_of_serial {es : List KegEntry} (hp : es.Pairwise (fun a b => a.serial < b.serial)) {e k : KegEntry} (he : e ∈ es) (hk : k ∈ es)
    (h : e.serial = k.serial) : e = k := by
  have nodup : (es.map KegEntry.serial).Nodup := List.pairwise_map.mpr (hp.imp (fun h => Nat.ne_of_lt h))
  exact List.inj_on_of_nodup_map nodup he hk h

theorem Register.find_of_unique {r : Register} {serial : Nat} {e : KegEntry} (he : e ∈ r.entries) (hs : e.serial = serial)
    (unique : ∀ k ∈ r.entries, k.serial = serial → k = e) : r.find serial = some e := by
  unfold Register.find
  cases hf : r.entries.find? (fun k => k.serial == serial) with
  | none => simpa [hs] using List.find?_eq_none.mp hf e he
  | some k => rw [unique k (List.mem_of_find?_eq_some hf) (by simpa using List.find?_some hf)]

/-- The entries that satisfy a test go, and the count falls by their number. -/
theorem Register.keep_not_eq (r : Register) (goes : KegEntry → Bool) : r.keep (fun e => !goes e) =
    { r with entries := r.entries.filter (fun e => !goes e), entryCount := r.entryCount - r.entries.countP goes } := by
  have number : r.entries.length - (r.entries.filter (fun e => !goes e)).length = r.entries.countP goes := by
    have := r.entries.length_eq_countP_add_countP goes
    rw [← List.countP_eq_length_filter]
    simp only [Bool.not_eq_true, Bool.decide_eq_false] at this
    omega
  unfold Register.keep
  dsimp only
  rw [number]

/-! ## Inserts (R114) -/

/-- The age of an ISSUED entry; an entry in another state has none. -/
def KegEntry.issuedAge (minute : Nat) (e : KegEntry) : Option Nat :=
  match e.state with
  | .issued st => some (ageAt minute st)
  | _ => none

/-- An ISSUED entry of the greatest age, of the lowest serial among those of that age. -/
structure IsOldest (minute : Nat) (es : List KegEntry) (old : KegEntry) (a : Nat) : Prop where
  mem : old ∈ es
  age : old.issuedAge minute = some a
  oldest : ∀ e ∈ es, ∀ b, e.issuedAge minute = some b → b < a ∨ (b = a ∧ old.serial ≤ e.serial)

theorem IsOldest.cons_young {minute a : Nat} {es : List KegEntry} {e old : KegEntry} (h : IsOldest minute es old a)
    (he : ∀ b, e.issuedAge minute = some b → b < a) : IsOldest minute (e :: es) old a := by
  refine ⟨List.mem_cons_of_mem _ h.mem, h.age, fun k hk b hb => ?_⟩
  rcases List.mem_cons.mp hk with rfl | hk
  · exact .inl (he b hb)
  · exact h.oldest k hk b hb

theorem IsOldest.cons_old {minute a : Nat} {es : List KegEntry} {e : KegEntry} (ha : e.issuedAge minute = some a)
    (he : ∀ k ∈ es, ∀ b, k.issuedAge minute = some b → b ≤ a ∧ e.serial ≤ k.serial) : IsOldest minute (e :: es) e a := by
  refine ⟨List.mem_cons_self, ha, fun k hk b hb => ?_⟩
  rcases List.mem_cons.mp hk with rfl | hk
  · rw [ha] at hb
    cases hb
    exact .inr ⟨rfl, Nat.le_refl _⟩
  · obtain ⟨hle, hserial⟩ := he k hk b hb
    exact (Nat.lt_or_eq_of_le hle).imp_right (fun h => ⟨h, hserial⟩)

theorem oldestIssued_cons (minute : Nat) (e : KegEntry) (es : List KegEntry) : oldestIssued minute (e :: es) =
    match e.issuedAge minute, oldestIssued minute es with
    | some a, some (serial, age) => if age ≤ a then some (e.serial, a) else some (serial, age)
    | some a, none => some (e.serial, a)
    | none, rest => rest := by
  rw [oldestIssued]
  unfold KegEntry.issuedAge
  cases e.state <;> cases oldestIssued minute es <;> rfl

theorem oldestIssued_eq_none {minute : Nat} :
    ∀ {es : List KegEntry}, oldestIssued minute es = none → ∀ e ∈ es, e.issuedAge minute = none
  | [], _, e, he => by cases he
  | k :: es, h, e, he => by
    rw [oldestIssued_cons] at h
    split at h
    · split at h <;> cases h
    · cases h
    next young =>
      rcases List.mem_cons.mp he with rfl | he
      · exact young
      · exact oldestIssued_eq_none h e he

theorem oldestIssued_eq_some {minute : Nat} : ∀ {es : List KegEntry}, es.Pairwise (fun a b => a.serial < b.serial) →
    ∀ {serial a : Nat}, oldestIssued minute es = some (serial, a) → ∃ old, IsOldest minute es old a ∧ old.serial = serial
  | [], _, _, _, h => by cases h
  | e :: es, hp, serial, a, h => by
    obtain ⟨hfirst, hrest⟩ := List.pairwise_cons.mp hp
    rw [oldestIssued_cons] at h
    split at h
    next b other c hb hr =>
      obtain ⟨old, hold, hserial⟩ := oldestIssued_eq_some hrest hr
      split at h
      next older =>
        cases h
        refine ⟨e, .cons_old hb (fun k hk d hd => ⟨?_, Nat.le_of_lt (hfirst k hk)⟩), rfl⟩
        rcases hold.oldest k hk d hd with h | ⟨h, -⟩
        · omega
        · omega
      next younger =>
        cases h
        refine ⟨old, hold.cons_young (fun d hd => ?_), hserial⟩
        rw [hb] at hd
        cases hd
        omega
    next b hb hr =>
      cases h
      refine ⟨e, .cons_old hb (fun k hk d hd => ?_), rfl⟩
      rw [oldestIssued_eq_none hr k hk] at hd
      cases hd
    next young =>
      obtain ⟨old, hold, hserial⟩ := oldestIssued_eq_some hrest h
      exact ⟨old, hold.cons_young (fun d hd => by rw [young] at hd; cases hd), hserial⟩

theorem Register.insert_of_room {r : Register} (h : r.entryCount < 4096) (minute : Nat) (k : KegEntry) : r.insert minute k =
    some { r with entries := insertSorted k r.entries, entryCount := r.entryCount + 1 } := if_pos h

theorem Register.insert_of_full {r : Register} (h : r.entryCount = 4096) (minute : Nat) (k : KegEntry) : r.insert minute k =
    (oldestIssued minute r.entries).map (fun p =>
      { r with
        entries := insertSorted k (r.entries.filter (fun e => e.serial != p.1))
        replacements := bump 65535 r.replacements }) := by
  have full : ¬ r.entryCount < capacity := by unfold capacity; omega
  unfold Register.insert
  rw [if_neg full]
  cases oldestIssued minute r.entries <;> rfl

/-- Settles O22. -/
theorem insertReplacesTheOldestIssued : Obligations.InsertReplacesTheOldestIssued := by
  intro r r1 minute k hok absent age
  obtain ⟨rising, -⟩ := hok
  have hage : age = KegEntry.issuedAge minute := rfl
  refine ⟨fun room => ?_, fun full => ?_, fun full hi => ?_⟩
  · exact ⟨_, r.insert_of_room room minute k, fun e => mem_insertSorted, rfl, rfl, rfl⟩
  · rw [r.insert_of_full full, Option.isSome_map]
    cases ho : oldestIssued minute r.entries with
    | none =>
      have young := oldestIssued_eq_none ho
      simp +contextual [hage, young]
    | some p =>
      obtain ⟨old, hold, -⟩ := oldestIssued_eq_some rising (serial := p.1) (a := p.2) ho
      exact iff_of_true ⟨old, hold.mem, by rw [hage, hold.age]; rfl⟩ rfl
  · rw [r.insert_of_full full] at hi
    obtain ⟨⟨serial, a⟩, ho, rfl⟩ := Option.map_eq_some_iff.mp hi
    obtain ⟨old, hold, rfl⟩ := oldestIssued_eq_some rising ho
    refine ⟨old, hold.mem, a, hold.age, hold.oldest, fun e => ?_, full, bump_eq_min _ _, rfl⟩
    have other (he : e ∈ r.entries) : e.serial ≠ old.serial ↔ e ≠ old :=
      not_congr ⟨eq_of_serial rising he hold.mem, fun h => h ▸ rfl⟩
    rw [mem_insertSorted, List.mem_filter, bne_iff_ne]
    exact or_congr_right (and_congr_right other)

/-! ## ISSUE (R118, R119) -/

theorem Register.issueAll_cons {r r' : Register} {minute lockout serial : Nat} {a : Result} (h : r.issueOne minute lockout serial = (r', a))
    (serials : List Nat) : r.issueAll minute lockout (serial :: serials) =
      ((r'.issueAll minute lockout serials).1, a :: (r'.issueAll minute lockout serials).2) := by
  rw [Register.issueAll, h]

theorem Register.removeSerial_eq (r : Register) (serial : Nat) : r.removeSerial serial =
    { r with
      entries := r.entries.filter (fun e => e.serial != serial)
      entryCount := r.entryCount - r.entries.countP (fun e => e.serial == serial) } :=
  r.keep_not_eq (fun e => e.serial == serial)

theorem Register.markIssued_eq (r : Register) (serial stamp : Nat) : r.updateSerial serial (fun e => { e with state := .issued stamp }) =
    { r with entries := r.entries.map (fun e => if e.serial = serial then { e with state := .issued stamp } else e) } := by
  have entry (e : KegEntry) : ({ (if e.serial = serial then { e with state := .issued stamp } else e) with serial := e.serial } : KegEntry) =
      if e.serial = serial then { e with state := .issued stamp } else e := by
    split <;> rfl
  unfold Register.updateSerial Register.update
  simp only [entry]

section Issue

variable {r : Register} {minute lockout serial stamp : Nat} {e : KegEntry}

theorem Register.issueOne_of_absent (h : r.find serial = none) : r.issueOne minute lockout serial = (r, .notFound) := by
  simp only [Register.issueOne, h]

variable (found : r.find serial = some e)
include found

theorem Register.issueOne_of_pending {number : Nat} (he : e.state = .pending number) :
    r.issueOne minute lockout serial = (r, .issueConflict) := by
  simp only [Register.issueOne, found, he]

theorem Register.issueOne_of_aged (he : e.state = .credited stamp ∨ e.state = .issued stamp) (aged : lockout ≤ ageAt minute stamp) :
    r.issueOne minute lockout serial = (r.removeSerial serial, .removed) := by
  rcases he with he | he <;> simp only [Register.issueOne, found, he, if_pos aged]

theorem Register.issueOne_of_credited (he : e.state = .credited stamp) (young : ¬ lockout ≤ ageAt minute stamp) :
    r.issueOne minute lockout serial = (r.updateSerial serial (fun e => { e with state := .issued stamp }), .issued) := by
  simp only [Register.issueOne, found, he, if_neg young]

theorem Register.issueOne_of_issued (he : e.state = .issued stamp) (young : ¬ lockout ≤ ageAt minute stamp) :
    r.issueOne minute lockout serial = (r, .issued) := by
  simp only [Register.issueOne, found, he, if_neg young]

end Issue

theorem execIssueOperation_of_serving {s : State} {serials : List Nat} (hs : s.arbiter.serving = some (.office (.issue serials))) :
    execIssueOperation s =
      .next (({ s with register := (s.register.issueAll s.clock.minute s.settings.lockout serials).1 } : State).finished .f 0x40
        ⟨.ok, .issue (s.register.issueAll s.clock.minute s.settings.lockout serials).2⟩) := by
  unfold execIssueOperation
  rw [hs]
  rfl

/-- Settles O20. -/
theorem issueOperationIssues : Obligations.IssueOperationIssues := by
  refine ⟨fun s serials hs => execIssueOperation_of_serving hs, ?_⟩
  intro r minute lockout serial st number serials e age removed marked answered
  have hremoved : r.removeSerial serial = removed := r.removeSerial_eq serial
  have hmarked : r.updateSerial serial (fun e => { e with state := .issued st }) = marked := r.markIssued_eq serial st
  refine ⟨rfl, fun absent => ?_, fun he hs unique => ?_⟩
  · exact Register.issueAll_cons (Register.issueOne_of_absent (find_eq_none_iff.mpr absent)) serials
  · have found := Register.find_of_unique he hs unique
    refine ⟨fun pending => ?_, fun credited aged => ?_, fun credited young => ?_, fun issued aged => ?_, fun issued young => ?_⟩
    · exact Register.issueAll_cons (Register.issueOne_of_pending found pending) serials
    · rw [← hremoved]
      exact Register.issueAll_cons (Register.issueOne_of_aged found (.inl credited) aged) serials
    · rw [← hmarked]
      exact Register.issueAll_cons (Register.issueOne_of_credited found credited (Nat.not_le.mpr young)) serials
    · rw [← hremoved]
      exact Register.issueAll_cons (Register.issueOne_of_aged found (.inr issued) aged) serials
    · exact Register.issueAll_cons (Register.issueOne_of_issued found issued (Nat.not_le.mpr young)) serials

/-! ## REGISTER_QUERY, CLEAR_GUARD and the sweep (R121 to R127) -/

section Served

variable {s : State}

theorem execRegisterQueryOperation_of_serving {serial : Nat} (hs : s.arbiter.serving = some (.office (.query serial))) :
    execRegisterQueryOperation s = .next (s.finished .f 0x41 (s.register.queryAnswer s.clock.minute serial)) := by
  unfold execRegisterQueryOperation
  rw [hs]
  rfl

theorem execClearGuardOperation_of_serving (hs : s.arbiter.serving = some (.office .clearGuard)) : execClearGuardOperation s =
    .next (({ s with register := { s.register with guardEnd := none } } : State).finished .f 0x42 ⟨.ok, .empty⟩) := by
  unfold execClearGuardOperation
  rw [hs]
  rfl

theorem execSweep_of_serving (hs : s.arbiter.serving = some (.sweep .sweep)) : execSweep s =
    .next ({ s with register := s.register.sweep s.clock.minute s.settings.lockout s.settings.retention } : State).completeOperation := by
  unfold execSweep
  rw [hs]

end Served

theorem Register.sweep_eq (r : Register) (minute lockout retention : Nat) : r.sweep minute lockout retention =
    { r with
      entries := r.entries.filter (fun e => !swept minute lockout retention e)
      entryCount := r.entryCount - r.entries.countP (swept minute lockout retention)
      guardEnd := match r.guardEnd with
        | none => none
        | some stop => if (minute + (1048576 - stop % 1048576)) % 1048576 < 524288 then none else some stop } := by
  unfold Register.sweep
  rw [Register.keep_not_eq]
  cases r.guardEnd with
  | none => rfl
  | some stop =>
    dsimp only
    rw [if_congr atOrAfter_iff rfl rfl]

theorem Register.count_eq (r : Register) {test : KegState → Bool} {p : KegEntry → Bool} (h : ∀ e, test e.state = p e) :
    r.count test = r.entries.countP p := congrArg (fun q => r.entries.countP q) (funext h)

/-- Settles O21. -/
theorem queryGuardAndSweepAreServed : Obligations.QueryGuardAndSweepAreServed := by
  intro s serial e r age gone guardEnd
  refine ⟨fun hs => ⟨fun absent => ?_, fun found => ?_⟩, execClearGuardOperation_of_serving, fun hs => ?_, ?_⟩
  · refine (execRegisterQueryOperation_of_serving hs).trans ?_
    rw [Register.queryAnswer, absent]
  · refine (execRegisterQueryOperation_of_serving hs).trans ?_
    rw [Register.queryAnswer, found]
    rfl
  · refine (execSweep_of_serving hs).trans ?_
    rw [Register.sweep_eq]
    rfl
  · rw [Register.summary, RegisterSummary.mk.injEq]
    refine ⟨rfl, r.count_eq (fun e => ?_), r.count_eq (fun e => ?_), r.count_eq (fun e => ?_), rfl, rfl, ?_⟩
    · cases e.state <;> rfl
    · cases e.state <;> rfl
    · cases e.state <;> rfl
    · cases r.guardEnd with
      | none => rfl
      | some stop => exact if_congr atOrAfter_iff rfl rfl

/-! ## The void walk (R18, R19, R117) -/

section Void

variable {s : State} {number : Nat} (hs : s.arbiter.serving = some (.office (.voidWalk number)))
include hs

theorem execVoidWalk_of_carried {u : State} {a : Result} (h : s.carryVoid number = (u, a)) :
    execVoidWalk s = .next (u.finished .f 0x15 ⟨a, .empty⟩) := by
  unfold execVoidWalk
  rw [hs]
  dsimp only
  rw [h]
  rfl

end Void

theorem Ticket.voidable_iff {t : Ticket} : (t.counting || t.state == .priced) = true ↔ t.state ∈ [.opened, .closing, .priced] := by
  simp [Ticket.counting, or_assoc]

theorem State.carryVoid_of_gone {s : State} {number : Nat} (h : ∀ j u, s.ticketAt j = some u → s.ticketNumber j ≠ number) :
    s.carryVoid number = (s, .noSuchTicket) := by
  unfold State.carryVoid
  rw [State.lookupTicket_eq_none.mpr h]

section Held

variable {s : State} {number : Nat} {i : Fin 24} {t : Ticket} (ht : s.lookupTicket number = some (i, t))
include ht

theorem State.carryVoid_of_wrongState (h : t.state ∉ [.opened, .closing, .priced]) : s.carryVoid number = (s, .wrongState) := by
  simp only [State.carryVoid, ht, if_neg (mt Ticket.voidable_iff.mp h)]

theorem State.carryVoid_of_voidable (h : t.state ∈ [.opened, .closing, .priced]) : s.carryVoid number = (s.voidTicket number i t, .ok) := by
  simp only [State.carryVoid, ht, if_pos (Ticket.voidable_iff.mpr h)]

end Held

theorem Register.voidTicket_eq (r : Register) (number : Nat) : r.voidTicket number =
    { r with
      entries := r.entries.filter (fun e => e.state != .pending number)
      entryCount := r.entryCount - r.entries.countP (fun e => e.state == .pending number) } :=
  r.keep_not_eq (KegEntry.pendingOn number)

/-- What a void leaves, the closed batches and all, before the reference is given up (R19). -/
def State.voidBeforeRef (s : State) (number : Nat) (i : Fin 24) (t : Ticket) : State :=
  (({ s.putTicket i t.toVoid with register := s.register.voidTicket number } : State).dropHolds number).closeBatches t.lanes.members .voided

theorem State.voidTicket_eq_voidBeforeRef {s : State} {i : Fin 24} {t : Ticket} (h : s.ticketAt i = some t) (number : Nat) :
    s.voidTicket number i t =
    if t.counting then { s.voidBeforeRef number i t with tariff := (s.voidBeforeRef number i t).tariff.dropRef t.bank }
    else s.voidBeforeRef number i t := by
  unfold State.voidTicket
  rw [State.modifyTicket_eq_put h]
  rfl

/-- The reference goes from a ticket that was OPEN or CLOSING, at the counter of its bank; a PRICED ticket gave it up before (R18). -/
theorem State.dropRef_of_counting (u : State) {t : Ticket} (h : t.state ∈ [.opened, .closing, .priced]) :
    (if t.counting then { u with tariff := u.tariff.dropRef t.bank } else u) =
      { u with
        tariff := match t.state, t.bank with
          | .priced, _ => u.tariff
          | _, .a => { u.tariff with refA := u.tariff.refA - 1 }
          | _, .b => { u.tariff with refB := u.tariff.refB - 1 } } := by
  simp only [List.mem_cons, List.not_mem_nil, or_false] at h
  rcases h with hstate | hstate | hstate
  · rw [if_pos (by simp [Ticket.counting, hstate]), hstate]
    cases t.bank <;> rfl
  · rw [if_pos (by simp [Ticket.counting, hstate]), hstate]
    cases t.bank <;> rfl
  · rw [if_neg (by simp [Ticket.counting, hstate]), hstate]

/-- Settles O18. -/
theorem voidWalkVoids : Obligations.VoidWalkVoids := by
  intro s number i t hs
  refine ⟨fun gone => execVoidWalk_of_carried hs (State.carryVoid_of_gone gone), fun ht => ⟨fun wrong => ?_, fun voidable => ?_⟩⟩
  · exact execVoidWalk_of_carried hs (State.carryVoid_of_wrongState ht wrong)
  · intro dropped closed tariff
    have hclosed : s.voidBeforeRef number i t = closed := by
      unfold State.voidBeforeRef
      rw [Register.voidTicket_eq]
      rfl
    have hvoid : s.voidTicket number i t = { closed with tariff := tariff } := by
      rw [State.voidTicket_eq_voidBeforeRef (State.lookupTicket_eq_some.mp ht).1, hclosed]
      exact State.dropRef_of_counting closed voidable
    rw [← hvoid]
    exact execVoidWalk_of_carried hs (State.carryVoid_of_voidable ht voidable)

end Sys2Proof.Machine

/-! PROOFS. The standby bank written, both banks read, and the changeover armed, made and disarmed (R131 to R139). -/

namespace Sys2Proof.Machine

open Sys2Proof

/-! ## The standby bank (R129, R131, R132) -/

theorem Tariff.standby_eq (t : Tariff) : t.standby = match t.active with | .a => .b | .b => .a := rfl

theorem beq_standby (bank : BankId) (t : Tariff) : (bank == t.standby) = decide (bank ≠ t.active) := by
  rw [Tariff.standby_eq]
  cases bank <;> cases t.active <;> rfl

theorem Tariff.modifyBank_standby (t : Tariff) (f : Bank → Bank) : t.modifyBank t.standby f =
    match t.active with
    | .a => { t with bankB := f (t.bank t.standby) }
    | .b => { t with bankA := f (t.bank t.standby) } := by
  obtain ⟨bankA, bankB, active, refA, refB, armed⟩ := t
  cases active <;> rfl

/-- The standby bank changed. -/
def State.writeStandby (s : State) (f : Bank → Bank) : State := { s with tariff := s.tariff.modifyBank s.tariff.standby f }

theorem State.writeStandby_eq (s : State) (f : Bank → Bank) : s.writeStandby f =
    { s with
      tariff := match s.tariff.active with
        | .a => { s.tariff with bankB := f (s.tariff.bank s.tariff.standby) }
        | .b => { s.tariff with bankA := f (s.tariff.bank s.tariff.standby) } } :=
  congrArg (fun t => { s with tariff := t }) (s.tariff.modifyBank_standby f)

theorem State.received_writeStandby (s : State) (l : Link) (kind tag : Nat) (f : Bank → Bank) :
    (s.received l kind tag).writeStandby f = (s.writeStandby f).received l kind tag := by
  cases l <;> rfl

/-! ## BANK_WRITE (R131) -/

/-- The class entry a BANK_WRITE in form stores. -/
def writtenEntry (e : RawClassEntry) : ClassEntry := storedClassEntry (e.opened == 1) (e.serialRequired == 1) e

theorem classEntryClamped_eq_false_iff (e : RawClassEntry) : classEntryClamped e = false ↔
    e.deposit ≤ 50000 ∧ e.worn ≤ 100 ∧ e.pool ≤ 100 ∧ 1 ≤ e.tallyLimit ∧ e.tallyLimit ≤ 64 := by
  simp [classEntryClamped, and_assoc, Nat.one_le_iff_ne_zero]

theorem State.handleBankWrite_of_bad {s : State} {cls : Nat} {e : RawClassEntry} (h : 15 < cls ∨ 1 < e.opened ∨ 1 < e.serialRequired) :
    s.handleBankWrite cls e = s.replyCode .f .malformed := by
  unfold State.handleBankWrite
  split
  next c op sr hc ho hs =>
    rcases h with h | h | h
    · rw [classIndex_of_gt h] at hc; contradiction
    · rw [yesNo_of_gt h] at ho; contradiction
    · rw [yesNo_of_gt h] at hs; contradiction
  next => rfl

theorem State.handleBankWrite_of_form {e : RawClassEntry} (ho : e.opened ≤ 1) (hs : e.serialRequired ≤ 1) (s : State) (c : Fin 16) :
    s.handleBankWrite c.val e =
      if 0 < s.tariff.refs s.tariff.standby then s.replyCode .f .bankInUse
      else (s.writeStandby fun k => { k with classes := k.classes.set c (writtenEntry e) }).reply .f
        ⟨okOrClamped (classEntryClamped e), .classEntry s.tariff.standby c.val (writtenEntry e)⟩ := by
  unfold State.handleBankWrite
  simp only [classIndex_val, yesNo_of_le ho, yesNo_of_le hs]
  rfl

/-! ## BANK_READ (R134) -/

theorem bankOfCode_code (bank : BankId) : bankOfCode bank.code = some bank := by cases bank <;> rfl

theorem bankOfCode_of_gt {n : Nat} (h : 1 < n) : bankOfCode n = none := by
  match n, h with
  | _ + 2, _ => rfl

/-! ## The reached test at an ARM (R136, R138, R139) -/

/-- The armed time set, and tested at once. -/
def State.armAt (s : State) (time : Nat) : State := ({ s with tariff := { s.tariff with armed := some time } } : State).reachedTest

theorem State.armAt_of_reached {s : State} {time : Nat} (h : atOrAfter s.clock.minute time = true) : s.armAt time =
    { s with
      tariff := { s.tariff with active := s.tariff.active.other, armed := none }
      edges := { s.edges with changeoverDone := true } } :=
  if_pos h

theorem State.armAt_of_ahead {s : State} {time : Nat} (h : ¬ atOrAfter s.clock.minute time = true) : s.armAt time =
    { s with tariff := { s.tariff with armed := some time } } :=
  if_neg h

theorem State.received_armAt (s : State) (l : Link) (kind tag time : Nat) :
    (s.received l kind tag).armAt time = (s.armAt time).received l kind tag := by
  by_cases h : atOrAfter s.clock.minute time = true
  · rw [State.armAt_of_reached (by rwa [State.received_clock]), State.armAt_of_reached h]
    cases l <;> rfl
  · rw [State.armAt_of_ahead (by rwa [State.received_clock]), State.armAt_of_ahead h]
    cases l <;> rfl

/-! ## The requests taken -/

section Taken

variable {s : State} (htake : s.canTake .f)
include htake

theorem exec_bankWrite_of_bad {cls : Nat} {e : RawClassEntry} (h : 15 < cls ∨ 1 < e.opened ∨ 1 < e.serialRequired) (tag : Nat) :
    exec (.bankWrite tag cls e) s = .next (s.refusedWith .f 0x30 tag .malformed) :=
  congrArg _ (State.takeRequest_refused htake (State.handleBankWrite_of_bad h))

theorem exec_bankWrite_of_inUse {e : RawClassEntry} (ho : e.opened ≤ 1) (hs : e.serialRequired ≤ 1)
    (hrefs : 0 < s.tariff.refs s.tariff.standby) (tag : Nat) (c : Fin 16) :
    exec (.bankWrite tag c.val e) s = .next (s.refusedWith .f 0x30 tag .bankInUse) := by
  refine congrArg _ (State.takeRequest_refused htake ?_)
  rw [State.handleBankWrite_of_form ho hs, State.received_tariff, if_pos hrefs]

theorem exec_bankWrite_of_free {e : RawClassEntry} (ho : e.opened ≤ 1) (hs : e.serialRequired ≤ 1)
    (hrefs : s.tariff.refs s.tariff.standby = 0) (tag : Nat) (c : Fin 16) :
    exec (.bankWrite tag c.val e) s = .next
      ((s.writeStandby fun k => { k with classes := k.classes.set c (writtenEntry e) }).answered .f 0x30 tag
        ⟨okOrClamped (classEntryClamped e), .classEntry s.tariff.standby c.val (writtenEntry e)⟩) := by
  refine congrArg _ (State.takeRequest_answered htake ?_)
  rw [State.handleBankWrite_of_form ho hs, State.received_tariff, if_neg (by omega), State.received_writeStandby]

theorem exec_feeWrite_of_inUse (hrefs : 0 < s.tariff.refs s.tariff.standby) (tag fee : Nat) :
    exec (.feeWrite tag fee) s = .next (s.refusedWith .f 0x31 tag .bankInUse) := by
  refine congrArg _ (State.takeRequest_refused htake ?_)
  unfold State.handleFeeWrite
  rw [State.received_tariff]
  exact if_pos hrefs

theorem exec_feeWrite_of_free (hrefs : s.tariff.refs s.tariff.standby = 0) (tag fee : Nat) :
    exec (.feeWrite tag fee) s = .next ((s.writeStandby fun k => { k with fee := min 10000 fee }).answered .f 0x31 tag
      ⟨okOrClamped (decide (10000 < fee)), .fee s.tariff.standby (min 10000 fee)⟩) := by
  refine congrArg _ (State.takeRequest_answered htake ?_)
  unfold State.handleFeeWrite
  rw [← State.received_writeStandby, State.received_tariff]
  exact if_neg (by omega)

theorem exec_bankRead_of_codes (tag : Nat) (bank : BankId) (c : Fin 16) : exec (.bankRead tag bank.code c.val) s =
    .next (s.answered .f 0x32 tag ⟨.ok, .bank bank c.val ((s.tariff.bank bank).classes.get c) (s.tariff.bank bank).fee
      (decide (bank ≠ s.tariff.active)) (s.tariff.refs bank) s.tariff.armed⟩) := by
  refine congrArg _ (State.takeRequest_answered htake ?_)
  simp only [bankOfCode_code, classIndex_val, State.received_tariff, beq_standby]

theorem exec_bankRead_of_bad {code cls : Nat} (h : 1 < code ∨ 15 < cls) (tag : Nat) :
    exec (.bankRead tag code cls) s = .next (s.refusedWith .f 0x32 tag .malformed) := by
  refine congrArg _ (State.takeRequest_refused htake ?_)
  rcases h with h | h
  · rw [bankOfCode_of_gt h]
  · rw [classIndex_of_gt h]
    cases bankOfCode code <;> rfl

theorem exec_changeoverArm_of_high {time : Nat} (h : 1048576 ≤ time) (tag : Nat) :
    exec (.changeoverArm tag time) s = .next (s.refusedWith .f 0x33 tag .malformed) := by
  refine congrArg _ (State.takeRequest_refused htake ?_)
  exact if_pos h

theorem exec_changeoverArm_of_low {time : Nat} (h : time < 1048576) (tag : Nat) : exec (.changeoverArm tag time) s =
    .next ((s.armAt time).answered .f 0x33 tag ⟨.ok, .changeover (s.armAt time).tariff.armed (s.armAt time).tariff.active⟩) := by
  have armed : ((s.received .f 0x33 tag).armAt time).tariff = (s.armAt time).tariff := by
    rw [State.received_armAt, State.received_tariff]
  refine congrArg _ (State.takeRequest_answered htake ?_)
  rw [← State.received_armAt, ← armed]
  exact if_neg (Nat.not_le.mpr h)

theorem exec_changeoverDisarm_taken (tag : Nat) : exec (.changeoverDisarm tag) s =
    .next (({ s with tariff := { s.tariff with armed := none } } : State).answered .f 0x34 tag ⟨.ok, .changeover none s.tariff.active⟩) :=
  congrArg _ (State.takeRequest_answered htake rfl)

end Taken

/-- Settles O29. -/
theorem banksAreWrittenAndChangedOver : Obligations.BanksAreWrittenAndChangedOver := by
  refine ⟨fun s tag cls fee e c htake => ?_, fun s tag cls time code bank c htake => ?_⟩
  · intro stored inRange standby with_ bank
    have hwritten (f : Bank → Bank) : s.writeStandby f = with_ (f bank) := s.writeStandby_eq f
    refine ⟨fun bad => exec_bankWrite_of_bad htake bad tag, ?_, fun inUse => exec_feeWrite_of_inUse htake inUse tag fee,
      fun free low => ?_, fun free high => ?_⟩
    · rintro rfl ho hs
      refine ⟨fun inUse => exec_bankWrite_of_inUse htake ho hs inUse tag c, fun free => ?_⟩
      have hexec := exec_bankWrite_of_free htake ho hs free tag c
      rw [hwritten] at hexec
      refine ⟨fun good => ?_, fun bad => ?_⟩
      · rwa [(classEntryClamped_eq_false_iff e).mpr good] at hexec
      · rwa [(Bool.not_eq_false _).mp (mt (classEntryClamped_eq_false_iff e).mp bad)] at hexec
    · have hexec := exec_feeWrite_of_free htake free tag fee
      rwa [hwritten, Nat.min_eq_right low, decide_eq_false (Nat.not_lt.mpr low)] at hexec
    · have hexec := exec_feeWrite_of_free htake free tag fee
      rwa [hwritten, Nat.min_eq_left high.le, decide_eq_true high] at hexec
  · intro reached other armed swapped
    have hreached : atOrAfter s.clock.minute time = true ↔ reached := atOrAfter_iff
    refine ⟨?_, fun bad => exec_bankRead_of_bad htake bad tag, fun high => exec_changeoverArm_of_high htake high tag,
      fun low ahead => ?_, fun low now => ?_, exec_changeoverDisarm_taken htake tag⟩
    · rintro rfl rfl
      exact exec_bankRead_of_codes htake tag bank c
    · have hexec := exec_changeoverArm_of_low htake low tag
      rwa [State.armAt_of_ahead (mt hreached.mp ahead)] at hexec
    · have hexec := exec_changeoverArm_of_low htake low tag
      rwa [State.armAt_of_reached (hreached.mpr now)] at hexec

end Sys2Proof.Machine

/-! PROOFS. The priced amounts: lines, sum, gross, fee, net and quotes (R147 to R155). -/

namespace Sys2Proof.Machine

open Sys2Proof

/-! ## Lines and their sum (R147 to R149) -/

/-- Rounding to the nearest minor unit, halves up: the value is less than half a unit below the product and at most half a unit above it. -/
theorem lineValue_nearest (n d gp op : Nat) : 2 * 10000 * lineValue n d gp op ≤ 2 * (n * d * gp * op) + 10000
    ∧ 2 * (n * d * gp * op) < 2 * 10000 * lineValue n d gp op + 10000 := by
  unfold lineValue
  omega

theorem classValue_of_open {e : ClassEntry} (h : e.isOpen = true) (t : Ticket) (c : Fin 16) : classValue e t c =
    lineValue (t.counter c .full .own) e.deposit 100 100 + lineValue (t.counter c .full .foreign) e.deposit 100 e.pool
      + lineValue (t.counter c .worn .own) e.deposit e.worn 100 + lineValue (t.counter c .worn .foreign) e.deposit e.worn e.pool :=
  if_pos h

theorem classValue_of_not_open {e : ClassEntry} (h : ¬ e.isOpen = true) (t : Ticket) (c : Fin 16) : classValue e t c = 0 :=
  if_neg h

theorem lineSum_eq_sum (b : Bank) (t : Ticket) : lineSum b t = ∑ c : Fin 16, classValue (b.classes.get c) t c :=
  (Fin.sum_univ_def _).symm

/-- The lines read the line counts only, so the SCRAP counts are worth nothing. -/
theorem lineSum_scrap (b : Bank) (t : Ticket) (scrap : Table Nat 16) : lineSum b { t with scrap := scrap } = lineSum b t :=
  rfl

/-! ## The record (R150 to R155) -/

theorem priceTicket_gross (b : Bank) (step cap : Nat) (t : Ticket) : (priceTicket b step cap t).gross = min 99999999 (lineSum b t) :=
  rfl

theorem priceTicket_fee (b : Bank) (step cap : Nat) (t : Ticket) :
    (priceTicket b step cap t).fee = min (priceTicket b step cap t).gross b.fee :=
  rfl

theorem priceTicket_cash (b : Bank) (step cap : Nat) (t : Ticket) :
    (priceTicket b step cap t).cash = cashQuote t.cashAllowed step cap (priceTicket b step cap t).net :=
  rfl

theorem cashQuote_of_not_allowed (step cap net : Nat) : cashQuote false step cap net = 0 :=
  rfl

/-- With `cashQuote_le` and `cashQuote_mod`: no larger multiple of the step is within the net and the cap. -/
theorem lt_cashQuote_add_step {step : Nat} (h : 0 < step) (cap net : Nat) : min net cap < cashQuote true step cap net + step :=
  Nat.lt_div_mul_add h

/-- Settles O13. -/
theorem pricedAmountsFollowTheBank : Obligations.PricedAmountsFollowTheBank := by
  refine ⟨⟨lineValue_nearest, fun b step cap t hstep => ?_⟩, fun b t scrap => ⟨lineSum_scrap b t scrap, ?_⟩⟩
  · intro p
    obtain ⟨hsplit, -, hquotes, -, -⟩ := priceTicket_ok b step cap t
    have hgross : p.gross = min 99999999 (lineSum b t) := priceTicket_gross b step cap t
    have hfee : p.fee = min p.gross b.fee := priceTicket_fee b step cap t
    have hcash : p.cash = cashQuote t.cashAllowed step cap p.net := priceTicket_cash b step cap t
    refine ⟨fun within => ?_, fun above => ?_, hsplit, fun covered => ?_, fun short => ?_, hquotes, rfl, rfl, fun barred => ?_,
      fun allowed => ?_⟩
    · rw [hgross, Nat.min_eq_right within]
    · rw [hgross, Nat.min_eq_left above.le]
    · rw [hfee, Nat.min_eq_right covered]
    · rw [hfee, Nat.min_eq_left short.le]
    · rw [hcash, barred, cashQuote_of_not_allowed]
    · rw [hcash, allowed]
      exact ⟨cashQuote_mod true step cap p.net, cashQuote_le true step cap p.net, lt_cashQuote_add_step hstep cap p.net⟩
  · -- By `lineIndex`, a class's four counters are the line counts of places 4 c to 4 c + 3.
    rw [lineSum_eq_sum]
    refine Finset.sum_congr rfl fun c _ => ?_
    dsimp only
    split
    next hopen => exact classValue_of_open hopen t c
    next hnot => exact classValue_of_not_open hnot t c

end Sys2Proof.Machine

/-! PROOFS. The law of the till (R157). It reads the till and what each slot of the ticket table has at stake; most commands leave both as they
are, and PAY, the pay timer, the settle walk, TILL_LOAD, TILL_COUNT and the starts change them within the law. -/

namespace Sys2Proof.Machine

open Sys2Proof

/-! ## What the law reads -/

/-- What the law of the till reads of a slot of the ticket table: whether its ticket is PAYING, and its reservation. -/
structure Stake where
  paying : Bool
  reservation : Nat

/-- Neither PAYING nor in DOUBT, or FREE. -/
def Stake.none : Stake := ⟨false, 0⟩

/-- What a record has at stake. -/
def Ticket.stake (t : Ticket) : Stake := ⟨t.state == .paying, t.reservation⟩

/-- What a slot has at stake. -/
def TicketSlot.stake (sl : TicketSlot) : Stake := sl.ticket.elim .none Ticket.stake

/-- The part of the state that the law of the till reads. -/
structure Cash where
  till : Till
  stakes : Table Stake 24

/-- The cash of a state. -/
def State.cash (s : State) : Cash := ⟨s.till, s.tickets.map TicketSlot.stake⟩

/-- The sum of the reservations at stake. -/
def Cash.reservations (c : Cash) : Nat := (c.stakes.cells.map Stake.reservation).sum

/-- The law of the till. -/
def Cash.ok (c : Cash) : Prop :=
  c.till.reserved ≤ c.till.balance ∧ c.till.balance ≤ maxAmount ∧ c.till.reserved = c.reservations
    ∧ ∀ i j : Fin 24, (c.stakes.get i).paying = true → (c.stakes.get j).paying = true → i = j

theorem State.cash_reservations (s : State) : s.cash.reservations = s.reservations := by
  unfold Cash.reservations State.cash State.reservations Table.map
  rw [List.map_map]
  refine congrArg List.sum (List.map_congr_left (fun sl _ => ?_))
  rw [Function.comp_apply, TicketSlot.stake]
  cases sl.ticket <;> rfl

theorem State.stake_of_ticketAt {s : State} {i : Fin 24} {t : Ticket} (h : s.ticketAt i = some t) : s.cash.stakes.get i = t.stake := by
  have ht : (s.tickets.get i).ticket = some t := h
  simp [State.cash, TicketSlot.stake, ht]

/-- A slot is PAYING when its record is. -/
theorem State.stake_paying_iff {s : State} {i : Fin 24} :
    (s.cash.stakes.get i).paying = true ↔ ∃ t, s.ticketAt i = some t ∧ t.state = .paying := by
  cases ht : s.ticketAt i with
  | none =>
    have hfree : (s.tickets.get i).ticket = none := ht
    simp [State.cash, TicketSlot.stake, hfree, Stake.none]
  | some t => simp [State.stake_of_ticketAt ht, Ticket.stake]

theorem State.tillOk_iff {s : State} : s.tillOk ↔ s.cash.ok := by
  have hpaying : (∀ i j : Fin 24, ∀ t ∈ s.ticketAt i, ∀ u ∈ s.ticketAt j, t.state = .paying → u.state = .paying → i = j) ↔
      ∀ i j : Fin 24, (s.cash.stakes.get i).paying = true → (s.cash.stakes.get j).paying = true → i = j := by
    simp only [State.stake_paying_iff]
    constructor
    · rintro h i j ⟨t, ht, hpt⟩ ⟨u, hu, hpu⟩
      exact h i j t ht u hu hpt hpu
    · exact fun h i j t ht u hu hpt hpu => h i j ⟨t, ht, hpt⟩ ⟨u, hu, hpu⟩
  unfold State.tillOk Cash.ok
  rw [hpaying, State.cash_reservations]
  rfl

/-! ## Changes of one slot -/

/-- A cell replaced by one of the same image leaves the images as they are. -/
theorem Table.map_set_of_eq {α β : Type} {n : Nat} {t : Table α n} {i : Fin n} {x : α} {f : α → β} (h : f x = f (t.get i)) :
    (t.set i x).map f = t.map f := by
  rw [Table.map_set, h, ← Table.get_map f t i, Table.set_get_self]

theorem Table.sum_map_set {α : Type} {n : Nat} (t : Table α n) (i : Fin n) (x : α) (f : α → Nat) :
    ((t.set i x).cells.map f).sum + f (t.get i) = (t.cells.map f).sum + f x := by
  have hi : i.val < (t.cells.map f).length := by simpa using Nat.lt_of_lt_of_eq i.isLt t.size.symm
  have hsplit := List.sum_take_add_sum_drop (t.cells.map f) i.val
  rw [List.drop_eq_getElem_cons hi, List.sum_cons, List.getElem_map] at hsplit
  have hset : ((t.set i x).cells.map f).sum =
      ((t.cells.map f).take i.val).sum + f x + ((t.cells.map f).drop (i.val + 1)).sum := by
    simp only [Table.set, List.map_set]
    rw [List.sum_set, if_pos hi]
  rw [hset]
  unfold Table.get
  omega

/-- One slot and the till change within the law: the till within its bounds, the reserved amount following the slot's reservation, and the
slot PAYING only where no slot was. -/
theorem Cash.ok_set {c : Cash} {till : Till} {i : Fin 24} {x : Stake} (hc : c.ok) (hle : till.reserved ≤ till.balance)
    (hmax : till.balance ≤ maxAmount) (hres : till.reserved + (c.stakes.get i).reservation = c.till.reserved + x.reservation)
    (hpay : x.paying = true → ∀ j, (c.stakes.get j).paying = false) : Cash.ok ⟨till, c.stakes.set i x⟩ := by
  obtain ⟨-, -, hsum, hone⟩ := hc
  have hset := Table.sum_map_set c.stakes i x Stake.reservation
  unfold Cash.reservations at hsum
  refine ⟨hle, hmax, ?_, fun j k hj hk => ?_⟩
  · show till.reserved = ((c.stakes.set i x).cells.map Stake.reservation).sum
    omega
  · simp only [Table.get_set] at hj hk
    split at hj
    next hij =>
      split at hk
      next hik => exact hij.symm.trans hik
      next => simp [hpay hj k] at hk
    next =>
      split at hk
      next => simp [hpay hk j] at hj
      next => exact hone j k hj hk

/-- A reservation is part of the reserved amount. -/
theorem Cash.reservation_le {c : Cash} (hc : c.ok) (i : Fin 24) : (c.stakes.get i).reservation ≤ c.till.reserved := by
  obtain ⟨-, -, hsum, -⟩ := hc
  have hset := Table.sum_map_set c.stakes i .none Stake.reservation
  unfold Cash.reservations at hsum
  simp only [Stake.none] at hset
  omega

/-- Slots that stop PAYING keep the law while their reservations stand. -/
theorem Cash.ok_map {c : Cash} {f : Stake → Stake} (hc : c.ok) (hf : ∀ x, (f x).reservation = x.reservation ∧ (f x).paying = false) :
    Cash.ok ⟨c.till, c.stakes.map f⟩ := by
  obtain ⟨hle, hmax, hsum, -⟩ := hc
  refine ⟨hle, hmax, hsum.trans ?_, fun i j hi => ?_⟩
  · simp only [Cash.reservations, Table.map, List.map_map, Function.comp_def, hf]
  · simp [hf] at hi

end Sys2Proof.Machine

/-! PROOFS. What leaves the cash as it is: no other change of a record touches its reservation, and no other command touches the till. -/

namespace Sys2Proof.Machine

open Sys2Proof

/-! ## Changes that leave the stakes as they are -/

theorem Ticket.stake_congr {t u : Ticket} (hs : u.state = t.state) (hp : u.payout = t.payout) : u.stake = t.stake := by
  unfold Ticket.stake Ticket.reservation
  rw [hs, hp]

/-- A record in neither PAYING nor DOUBT has nothing at stake. -/
theorem Ticket.stake_of_idle {t : Ticket} (hp : t.state ≠ .paying) (hd : t.state ≠ .doubt) : t.stake = .none := by
  unfold Ticket.stake Ticket.reservation
  split
  · contradiction
  · contradiction
  · simp [Stake.none, hp]

theorem State.modifyTicket_stakes {s : State} {i : Fin 24} {f : Ticket → Ticket} (h : ∀ t, s.ticketAt i = some t → (f t).stake = t.stake) :
    (s.modifyTicket i f).tickets.map TicketSlot.stake = s.tickets.map TicketSlot.stake := by
  refine Table.map_set_of_eq ?_
  cases ht : (s.tickets.get i).ticket with
  | none => simp [TicketSlot.stake, ht]
  | some t => simpa [TicketSlot.stake, ht] using h t ht

/-- A change of one record outside its state and its payout record. -/
theorem State.modifyTicket_stakes_of_same {s : State} {i : Fin 24} {f : Ticket → Ticket}
    (h : ∀ t, (f t).state = t.state ∧ (f t).payout = t.payout) :
    (s.modifyTicket i f).tickets.map TicketSlot.stake = s.tickets.map TicketSlot.stake :=
  State.modifyTicket_stakes (fun t _ => Ticket.stake_congr (h t).1 (h t).2)

theorem Ticket.addCount_state (t : Ticket) (c : Fin 16) (g : Grade) (o : Ownership) (q : Nat) :
    (t.addCount c g o q).state = t.state ∧ (t.addCount c g o q).payout = t.payout := by
  cases g <;> exact ⟨rfl, rfl⟩

theorem Ticket.adjust_state (t : Ticket) (c : Fin 16) (g : Grade) (o : Ownership) (delta : Int) :
    (t.adjust c g o delta).state = t.state ∧ (t.adjust c g o delta).payout = t.payout := by
  cases g <;> exact ⟨rfl, rfl⟩

theorem Ticket.toClosing_stake (t : Ticket) : t.toClosing.stake = t.stake := by
  unfold Ticket.toClosing
  split
  next h => rw [Ticket.stake_of_idle (t := t) (by simp [h]) (by simp [h])]; rfl
  next => rfl

theorem Ticket.toVoid_stake {t : Ticket} (h : t.counting = true ∨ t.state = .priced) : t.toVoid.stake = t.stake := by
  rw [Ticket.counting_iff] at h
  rw [Ticket.stake_of_idle (t := t) (by rcases h with (h | h) | h <;> simp [h]) (by rcases h with (h | h) | h <;> simp [h])]
  rfl

/-- Every record changed. -/
theorem TicketSlot.stake_map {f : Ticket → Ticket} {g : Stake → Stake} (hf : ∀ t, (f t).stake = g t.stake) (hg : g .none = .none)
    (tickets : Table TicketSlot 24) :
    (tickets.map (fun sl => { sl with ticket := sl.ticket.map f })).map TicketSlot.stake = (tickets.map TicketSlot.stake).map g := by
  rw [Table.map_map, Table.map_map]
  congr 1
  funext sl
  unfold TicketSlot.stake
  cases sl.ticket with
  | none => exact hg.symm
  | some t => exact hf t

section Stakes

variable (s : State)

@[simp] theorem State.priceTest_stakes (i : Fin 24) : (s.priceTest i).tickets.map TicketSlot.stake = s.tickets.map TicketSlot.stake := by
  unfold State.priceTest
  split
  · rfl
  next t ht =>
    split
    next hc =>
      refine State.modifyTicket_stakes (fun u hu => ?_)
      obtain rfl : t = u := Option.some.inj (ht.symm.trans hu)
      have hs := (Ticket.clearToPrice_iff.mp hc).1
      rw [Ticket.stake_of_idle (t := t) (by simp [hs]) (by simp [hs])]
      rfl
    next => rfl

@[simp] theorem State.ticketRelease_stakes (n : Lane) (number : Nat) (failed : Bool) :
    (s.ticketRelease n number failed).tickets.map TicketSlot.stake = s.tickets.map TicketSlot.stake := by
  unfold State.ticketRelease
  split
  · rfl
  · split
    · rw [State.priceTest_stakes]
      exact State.modifyTicket_stakes_of_same (fun _ => ⟨rfl, rfl⟩)
    · rfl

@[simp] theorem State.releaseBatch_stakes (n : Lane) (lost : Bool) :
    (s.releaseBatch n lost).tickets.map TicketSlot.stake = s.tickets.map TicketSlot.stake := by
  unfold State.releaseBatch
  dsimp only
  (repeat' split) <;> simp

@[simp] theorem State.closeBatch_stakes (n : Lane) (why : CloseReason) :
    (s.closeBatch n why).tickets.map TicketSlot.stake = s.tickets.map TicketSlot.stake := by
  unfold State.closeBatch
  dsimp only
  (repeat' split) <;> simp

@[simp] theorem State.closeBatches_stakes (ns : List Lane) (why : CloseReason) :
    (s.closeBatches ns why).tickets.map TicketSlot.stake = s.tickets.map TicketSlot.stake :=
  fold_keeps (fun s => s.tickets.map TicketSlot.stake) _ (fun s n => s.closeBatch_stakes n why) ns s

@[simp] theorem State.enterDown_stakes (n : Lane) : (s.enterDown n).tickets.map TicketSlot.stake = s.tickets.map TicketSlot.stake := by
  simp [State.enterDown]

@[simp] theorem State.removeHead_stakes (n : Lane) (e : Entry) :
    (s.removeHead n e).tickets.map TicketSlot.stake = s.tickets.map TicketSlot.stake := by
  unfold State.removeHead
  dsimp only
  (repeat' split) <;> simp

@[simp] theorem State.placeEntry_stakes (n : Lane) (e : Entry) :
    (s.placeEntry n e).tickets.map TicketSlot.stake = s.tickets.map TicketSlot.stake := by
  unfold State.placeEntry State.overrun
  dsimp only
  (repeat' split) <;> simp

@[simp] theorem State.closeTicket_stakes (i : Fin 24) : (s.closeTicket i).tickets.map TicketSlot.stake = s.tickets.map TicketSlot.stake := by
  unfold State.closeTicket
  rw [State.priceTest_stakes]
  exact State.modifyTicket_stakes (fun t _ => t.toClosing_stake)

@[simp] theorem State.deadlineTests_stakes : s.deadlineTests.tickets.map TicketSlot.stake = s.tickets.map TicketSlot.stake := by
  refine fold_keeps (fun s => s.tickets.map TicketSlot.stake) _ (fun s i => ?_) _ s
  unfold State.deadlineTest
  split
  · rfl
  · split
    · rw [State.closeTicket_stakes, State.closeBatches_stakes]
      exact State.modifyTicket_stakes_of_same (fun _ => ⟨rfl, rfl⟩)
    · rfl

@[simp] theorem State.resolveHold_stakes (j : Fin 64) (h : Hold) (expired : Bool) :
    (s.resolveHold j h expired).tickets.map TicketSlot.stake = s.tickets.map TicketSlot.stake := by
  unfold State.resolveHold
  dsimp only
  split
  · rfl
  · rw [State.priceTest_stakes]
    exact State.modifyTicket_stakes_of_same (fun _ => ⟨rfl, rfl⟩)

@[simp] theorem State.expireHolds_stakes : s.expireHolds.tickets.map TicketSlot.stake = s.tickets.map TicketSlot.stake := by
  refine fold_keeps (fun s => s.tickets.map TicketSlot.stake) _ (fun s j => ?_) _ s
  unfold State.expireAtTest
  (repeat' split) <;> simp

@[simp] theorem State.handBoundary_stakes : s.handBoundary.tickets.map TicketSlot.stake = s.tickets.map TicketSlot.stake := by
  simp [State.handBoundary]

@[simp] theorem State.applyWatch_stakes (i : Fin 24) (w : Watched) (f : Fired) :
    (s.applyWatch i w f).tickets.map TicketSlot.stake = s.tickets.map TicketSlot.stake := by
  have noted : (({ s with watch := consulted s.watch w } : State).modifyTicket i
      (fun t => { t with flags := { t.flags with note := t.flags.note || f.note } })).tickets.map TicketSlot.stake =
        s.tickets.map TicketSlot.stake :=
    State.modifyTicket_stakes_of_same (fun _ => ⟨rfl, rfl⟩)
  unfold State.applyWatch
  dsimp only
  split
  · exact noted
  · exact noted

@[simp] theorem State.makeHold_stakes (j : Fin 64) (c : Case) (cause : Cause) (also : List Cause) (entryMade : Bool) :
    (s.makeHold j c cause also entryMade).tickets.map TicketSlot.stake = s.tickets.map TicketSlot.stake :=
  State.modifyTicket_stakes_of_same (fun _ => ⟨rfl, rfl⟩)

@[simp] theorem State.countCase_stakes (c : Case) : (s.countCase c).tickets.map TicketSlot.stake = s.tickets.map TicketSlot.stake :=
  State.modifyTicket_stakes_of_same (fun t => t.addCount_state _ _ _ _)

@[simp] theorem State.rebaseTo_stakes (c : ClockSet) : (s.rebaseTo c).tickets.map TicketSlot.stake = s.tickets.map TicketSlot.stake := by
  refine (TicketSlot.stake_map (f := Ticket.rebase _) (g := id) (fun t => Ticket.stake_congr rfl rfl) rfl s.tickets).trans ?_
  simp [Table.map]

theorem State.voidTicket_stakes {i : Fin 24} {t : Ticket} (ht : s.ticketAt i = some t) (h : t.counting = true ∨ t.state = .priced)
    (number : Nat) : (s.voidTicket number i t).tickets.map TicketSlot.stake = s.tickets.map TicketSlot.stake := by
  rw [State.voidTicket_eq ht, State.closeBatches_stakes, State.voidRecord_tickets]
  refine State.modifyTicket_stakes (fun u hu => ?_)
  obtain rfl : t = u := Option.some.inj (ht.symm.trans hu)
  exact Ticket.toVoid_stake h

theorem State.makeTicket_stakes {i : Fin 24} (h : s.ticketAt i = none) (account : Nat) (cash : Bool) :
    (s.makeTicket i account cash).tickets.map TicketSlot.stake = s.tickets.map TicketSlot.stake := by
  have hfree : (s.tickets.get i).ticket = none := h
  refine Table.map_set_of_eq ?_
  simp [TicketSlot.stake, hfree, Ticket.stake, Ticket.reservation, Ticket.fresh, Stake.none]

theorem State.freeTicket_stakes {i : Fin 24} {t : Ticket} (ht : s.ticketAt i = some t) (h : t.state = .settled ∨ t.state = .voided) :
    (s.freeTicket i).tickets.map TicketSlot.stake = s.tickets.map TicketSlot.stake := by
  have hget : (s.tickets.get i).ticket = some t := ht
  refine Table.map_set_of_eq ?_
  have hidle : t.stake = .none := Ticket.stake_of_idle (by rcases h with h | h <;> simp [h]) (by rcases h with h | h <;> simp [h])
  simp [TicketSlot.stake, hget, hidle]

end Stakes

/-! ## Handlings that leave the cash as it is -/

section Handlings

variable (s : State)

theorem State.raiseOrBusy_cash (l : Link) (op : OfficeOp) : (s.raiseOrBusy l op).cash = s.cash := by
  simp [State.cash]

/-! ### Lanes and verdicts -/

theorem State.handleOffer_cash (n : Lane) (o : LaneOffer) (ack : Bool) : (s.handleOffer n o ack).cash = s.cash := by
  have listen (u : State) : (u.listenOffer n o).cash = u.cash := by
    unfold State.listenOffer
    split <;> rfl
  have offering : (s.offeringOffer n o).cash = s.cash := by
    unfold State.offeringOffer
    (repeat' split) <;> rfl
  have acking : (s.ackingOffer n o ack).cash = s.cash := by
    unfold State.ackingOffer
    dsimp only
    (repeat' split) <;> rfl
  have answer (u : State) : (u.answerOffer n).cash = u.cash := rfl
  unfold State.handleOffer
  split
  · rfl
  · exact (answer _).trans (listen s)
  · exact (answer _).trans offering
  · exact (answer _).trans acking
  · rfl
  · split
    · rfl
    · exact (answer _).trans (listen _)
  · split
    · rfl
    · exact (answer _).trans (listen _)
  · split
    · rfl
    · exact (answer _).trans (listen _)

theorem State.handleItem_cash (n : Lane) (it : Item) : (s.handleItem n it).cash = s.cash := by
  have burst : (s.itemBurst n).cash = s.cash := by
    unfold State.itemBurst
    dsimp only
    (repeat' split) <;> rfl
  have placed (u : State) (e : Entry) : (u.placeEntry n e).cash = u.cash := by simp [State.cash]
  rw [← burst]
  unfold State.handleItem
  dsimp only
  split
  · rfl
  · split
    · rfl
    · exact placed _ _

theorem State.takeItem_cash (n : Lane) (it : Item) : (s.takeItem n it).cash = s.cash := by
  have sensed : (s.senseItem n it).cash = s.cash := by
    unfold State.senseItem
    split
    · exact State.handleItem_cash _ n it
    · simp [State.cash]
  have checked : (s.checkSensed n it).cash = s.cash := by
    unfold State.checkSensed
    split
    · exact State.handleItem_cash _ n it
    · simp [State.cash]
  have byState : (s.itemByState n it).cash = s.cash := by
    unfold State.itemByState
    split
    · rfl
    · exact sensed
    · rfl
    · rfl
    · rfl
    · exact s.handleItem_cash n it
    · exact s.handleItem_cash n it
    · split
      · exact checked
      · exact s.handleItem_cash n it
  unfold State.takeItem
  split
  · split
    · exact byState
    · rfl
  · rfl

theorem State.handleBind_cash (n : Lane) (number : Nat) : (s.handleBind n number).cash = s.cash := by
  have listed (i : Fin 24) : (s.modifyTicket i (fun t => { t with lanes := t.lanes.add n })).tickets.map TicketSlot.stake =
      s.tickets.map TicketSlot.stake :=
    State.modifyTicket_stakes_of_same (fun _ => ⟨rfl, rfl⟩)
  unfold State.handleBind State.bindTicket
  (repeat' split) <;> simp [State.cash, listed]

theorem State.handleUnbind_cash (n : Lane) : (s.handleUnbind n).cash = s.cash := by
  unfold State.handleUnbind
  (repeat' split) <;> simp [State.cash]

theorem State.recogniseGate_cash (n : Lane) : (s.recogniseGate n).cash = s.cash := by
  unfold State.recogniseGate State.countEdge
  dsimp only
  (repeat' split) <;> rfl

theorem State.judgeHold_cash (c : Case) (cause : Cause) (also : List Cause) : (s.judgeHold c cause also).1.cash = s.cash := by
  unfold State.judgeHold
  dsimp only
  (repeat' split) <;> simp [State.cash, State.judgeRefuse]

theorem State.judgeAccept_cash (c : Case) : (s.judgeAccept c).1.cash = s.cash := by
  have counted (u : State) : (u.countCase c).cash = u.cash := congrArg (Cash.mk u.till) (u.countCase_stakes c)
  unfold State.judgeAccept
  split
  · split
    · exact counted _
    · exact s.judgeHold_cash c _ _
  · exact counted s

theorem State.judgeCauses_cash (c : Case) (also : List Cause) : (s.judgeCauses c also).1.cash = s.cash := by
  unfold State.judgeCauses
  split
  · exact s.judgeAccept_cash c
  · split
    · exact s.judgeHold_cash c _ _
    · rfl

theorem State.completeHead_cash (n : Lane) (e : Entry) : (s.completeHead n e).cash = s.cash := by
  have judged : (s.judgeEntry n e).1.cash = s.cash := by
    have watched (i : Fin 24) (w : Watched) (f : Fired) : (s.applyWatch i w f).cash = s.cash := by simp [State.cash]
    unfold State.judgeEntry
    dsimp only
    split
    · rfl
    · split
      · rfl
      · exact (State.judgeCauses_cash _ _ _).trans (watched _ _ _)
  have removed (u : State) : ((u.sendVerdict n e (s.judgeEntry n e).2).removeHead n e).cash = u.cash := by simp [State.cash]
  exact (removed _).trans judged

theorem State.takeInHand_cash (n : Lane) : (s.takeInHand n).cash = s.cash := by
  unfold State.takeInHand
  split
  · rfl
  · split
    · rfl
    · split
      · rfl
      · split
        · rfl
        · exact s.completeHead_cash n _

/-! ### Tickets and holds -/

theorem State.handleOpen_cash (l : Link) (account : Nat) (cash : Bool) : (s.handleOpen l account cash).cash = s.cash := by
  unfold State.handleOpen
  split
  · rfl
  · split
    · rfl
    next i hi => exact congrArg (Cash.mk s.till) (s.makeTicket_stakes (State.freeTicketSlot_eq_some.mp hi).1 account cash)

theorem State.closeTicket_cash (i : Fin 24) : (s.closeTicket i).cash = s.cash := by simp [State.cash]

theorem State.handleQuote_cash (number : Nat) : (s.handleQuote number).cash = s.cash := by
  have answered (u : State) (i : Fin 24) : (u.answerQuote i).cash = u.cash := by
    unfold State.answerQuote
    split <;> rfl
  unfold State.handleQuote
  split
  · rfl
  · split
    · exact (answered _ _).trans (s.closeTicket_cash _)
    · exact answered _ _

theorem State.handleClose_cash (number : Nat) : (s.handleClose number).cash = s.cash := by
  unfold State.handleClose
  split
  · rfl
  · split
    · exact s.closeTicket_cash _
    · split <;> rfl

theorem State.handleAdjust_cash (number cls grade ownership : Nat) (delta : Int) :
    (s.handleAdjust number cls grade ownership delta).cash = s.cash := by
  unfold State.handleAdjust State.adjustTicket
  split
  · split
    · split
      · rfl
      · split
        · exact congrArg (Cash.mk s.till) (State.modifyTicket_stakes_of_same (fun t => t.adjust_state _ _ _ _))
        · rfl
    · rfl
  · rfl

theorem State.handleConfirmCount_cash (number : Nat) : (s.handleConfirmCount number).cash = s.cash := by
  have cleared (i : Fin 24) : (s.modifyTicket i Ticket.clearRecount).tickets.map TicketSlot.stake = s.tickets.map TicketSlot.stake :=
    State.modifyTicket_stakes_of_same (fun _ => ⟨rfl, rfl⟩)
  unfold State.handleConfirmCount
  (repeat' split) <;> simp [State.cash, cleared]

theorem State.handleCollect_cash (number : Nat) : (s.handleCollect number).cash = s.cash := by
  unfold State.handleCollect
  split
  · rfl
  next ht =>
    split
    next hs => exact congrArg (Cash.mk s.till) (s.freeTicket_stakes (State.lookupTicket_eq_some.mp ht).1 hs)
    next => rfl

theorem State.carryVoid_cash (number : Nat) : (s.carryVoid number).1.cash = s.cash := by
  unfold State.carryVoid
  split
  · rfl
  next ht =>
    split
    next hs =>
      have voided := s.voidTicket_stakes (State.lookupTicket_eq_some.mp ht).1 (by simpa using hs) number
      simp [State.cash, voided]
    next => rfl

theorem State.handleDispensed_cash (number d : Nat) : (s.handleDispensed number d).cash = s.cash := by
  have reported (i : Fin 24) {f : PayoutRecord → PayoutRecord} (hf : ∀ o, (f o).reservation = o.reservation) :
      (s.modifyTicket i (fun t => { t with payout := t.payout.map f })).cash = s.cash := by
    refine congrArg (Cash.mk s.till) (State.modifyTicket_stakes (fun t _ => ?_))
    unfold Ticket.stake Ticket.reservation
    cases t.state <;> cases t.payout <;> simp [hf]
  unfold State.handleDispensed State.takeReport
  split
  · rfl
  · split
    · rfl
    · split
      · split
        · rfl
        · split
          · exact reported _ (fun _ => rfl)
          · rfl
      · split
        · exact reported _ (fun _ => rfl)
        · rfl

theorem State.carryRelease_cash (j : Fin 64) (h : Hold) (v : Verdict) (am : Option Grade) : (s.carryRelease j h v am).1.cash = s.cash := by
  have resolved (u : State) : (u.resolveHold j h false).cash = u.cash := by simp [State.cash]
  unfold State.carryRelease
  split
  · rfl
  · dsimp only
    split
    · exact (resolved _).trans (congrArg (Cash.mk s.till) (State.modifyTicket_stakes_of_same (fun t => t.addCount_state _ _ _ _)))
    · exact resolved _

theorem State.handleRelease_cash (hold verdict amended : Nat) : (s.handleRelease hold verdict amended).cash = s.cash := by
  unfold State.handleRelease
  split
  · split
    · rfl
    · split
      · simp [State.cash]
      · exact s.carryRelease_cash _ _ _ _
  · rfl

theorem State.handleResolve_cash (key : Bool) (number amount : Nat) : (s.handleResolve key number amount).cash = s.cash := by
  unfold State.handleResolve
  (repeat' split) <;> simp [State.cash]

/-! ### Tariff, watch table, clock and settings -/

theorem State.handleBankWrite_cash (cls : Nat) (e : RawClassEntry) : (s.handleBankWrite cls e).cash = s.cash := by
  unfold State.handleBankWrite
  dsimp only
  (repeat' split) <;> rfl

theorem State.handleFeeWrite_cash (fee : Nat) : (s.handleFeeWrite fee).cash = s.cash := by
  unfold State.handleFeeWrite
  dsimp only
  split <;> rfl

theorem State.handleWatchWrite_cash (key : Bool) (entry : Nat) (raw : RawRule) : (s.handleWatchWrite key entry raw).cash = s.cash := by
  unfold State.handleWatchWrite
  dsimp only
  (repeat' split) <;> rfl

theorem State.handleCaptureRead_cash (key : Bool) (entry : Nat) : (s.handleCaptureRead key entry).cash = s.cash := by
  unfold State.handleCaptureRead
  dsimp only
  (repeat' split) <;> rfl

theorem State.handleSetClock_cash (minute second : Nat) : (s.handleSetClock minute second).cash = s.cash := by
  unfold State.handleSetClock
  (repeat' split) <;> rfl

theorem State.handleSettingsWrite_cash (identifier index value : Nat) : (s.handleSettingsWrite identifier index value).cash = s.cash := by
  unfold State.handleSettingsWrite State.afterWrite
  (repeat' split) <;> simp [State.cash]

theorem State.minuteBoundary_cash : s.minuteBoundary.cash = s.cash := by
  unfold State.minuteBoundary
  dsimp only
  split <;> simp [State.cash]

/-! ### Links and starts -/

theorem State.discardLength_cash (l : Link) (len : Byte) : (s.discardLength l len).cash = s.cash := by
  unfold State.discardLength
  split <;> simp [State.cash]

theorem State.holdReset_cash (powerOn : Bool) : (s.holdReset powerOn).cash = s.cash := by
  simp [State.cash, State.holdReset, State.cutShort]

end Handlings

end Sys2Proof.Machine

/-! PROOFS. The law of the till is kept by PAY, the pay timer, the settle walk, TILL_LOAD, TILL_COUNT and the starts, and so by every step. -/

namespace Sys2Proof.Machine

open Sys2Proof

/-! ## Changes that keep the law -/

/-- A change of the state that keeps the law of the till. -/
def KeepsTill (s t : State) : Prop := s.tillOk → t.tillOk

theorem KeepsTill.of_cash {s t : State} (h : t.cash = s.cash) : KeepsTill s t := by
  unfold KeepsTill
  rw [State.tillOk_iff, State.tillOk_iff, h]
  exact id

theorem KeepsTill.trans {s t u : State} (h : KeepsTill s t) (h' : KeepsTill t u) : KeepsTill s u := fun hs => h' (h hs)

/-- A change beside the cash after one that keeps the law. -/
theorem KeepsTill.beside {s t u : State} (h : KeepsTill s t) (same : u.cash = t.cash) : KeepsTill s u := h.trans (.of_cash same)

theorem KeepsTill.completed {s t : State} (h : KeepsTill s t) : KeepsTill s t.completeOperation := h.beside (by simp [State.cash])

theorem KeepsTill.finished {s t : State} (h : KeepsTill s t) (l : Link) (kind : Nat) (a : Answer) :
    KeepsTill s (t.replyOldest l kind a).completeOperation :=
  h.beside (by simp [State.cash])

theorem KeepsTill.request (s : State) (l : Link) (kind tag : Nat) {handle : State → State} (h : ∀ u : State, KeepsTill u (handle u)) :
    KeepsTill s (s.takeRequest l kind tag handle) := by
  unfold State.takeRequest
  split
  · split
    · have listed : KeepsTill s (s.received l kind tag) := .of_cash (by simp [State.cash, State.received])
      have heard (u : State) : (u.heardLane l).cash = u.cash := by simp [State.cash]
      exact (listed.trans (h _)).beside (heard _)
    · exact .of_cash rfl
  · exact .of_cash rfl

/-- A request whose handling leaves the cash as it is. -/
theorem KeepsTill.still (s : State) (l : Link) (kind tag : Nat) {handle : State → State} (h : ∀ u : State, (handle u).cash = u.cash) :
    KeepsTill s (s.takeRequest l kind tag handle) :=
  .request s l kind tag (fun u => .of_cash (h u))

/-! ### TILL_LOAD and TILL_COUNT (R159, R160) -/

/-- A balance within its limit and not below the reserved amount. -/
theorem State.setBalance_keepsTill (s : State) {balance : Nat} (hmin : s.tillOk → s.till.reserved ≤ balance) (hmax : balance ≤ maxAmount) :
    KeepsTill s { s with till := { s.till with balance := balance } } := fun hs =>
  have ⟨_, _, hsum, hone⟩ := hs
  ⟨hmin hs, hmax, hsum, hone⟩

theorem State.handleTillLoad_keepsTill (s : State) (key : Bool) (amount : Nat) : KeepsTill s (s.handleTillLoad key amount) := by
  have loaded := s.setBalance_keepsTill (balance := min maxAmount (s.till.balance + amount))
    (fun ⟨hle, hmax, _, _⟩ => Nat.le_min.mpr ⟨hle.trans hmax, hle.trans (Nat.le_add_right _ _)⟩) (Nat.min_le_left _ _)
  unfold State.handleTillLoad
  split
  · exact .of_cash rfl
  · split
    · exact .of_cash rfl
    · exact loaded.beside rfl

theorem State.handleTillCount_keepsTill (s : State) (key : Bool) (balance : Nat) : KeepsTill s (s.handleTillCount key balance) := by
  unfold State.handleTillCount
  split
  · exact .of_cash rfl
  · split
    · exact .of_cash rfl
    next hmin => exact (s.setBalance_keepsTill (fun _ => Nat.not_lt.mp hmin) (Nat.min_le_left _ _)).beside rfl

/-! ### One record and the till -/

/-- A till follows a record whose reservation was `before` and is `after`: the reserved amount by the reservation, the balance downwards only
and never below the reserved amount. -/
def Till.follows (till was : Till) (before after : Nat) : Prop :=
  till.reserved ≤ till.balance ∧ till.balance ≤ was.balance ∧ till.reserved + before = was.reserved + after

/-- A record put in the place of another, with the till that follows its reservation, and in PAYING only where no record was. -/
theorem State.putTicket_keepsTill {s t : State} {i : Fin 24} {u v : Ticket} (hu : s.ticketAt i = some u)
    (ht : t.tickets = (s.putTicket i v).tickets)
    (htill : s.till.reserved ≤ s.till.balance → u.reservation ≤ s.till.reserved → t.till.follows s.till u.reservation v.reservation)
    (hpay : v.state = .paying → ∀ j w, s.ticketAt j = some w → w.state ≠ .paying) : KeepsTill s t := fun hs => by
  rw [State.tillOk_iff] at *
  have hstake : s.cash.stakes.get i = u.stake := State.stake_of_ticketAt hu
  have hget : (s.tickets.get i).ticket = some u := hu
  have hcash : t.cash = ⟨t.till, s.cash.stakes.set i v.stake⟩ := by
    simp [State.cash, ht, State.putTicket, State.modifyTicket, Table.modify, Table.map_set, hget, TicketSlot.stake]
  have hpart : u.stake.reservation ≤ s.till.reserved := hstake ▸ Cash.reservation_le hs i
  have ⟨hbal, hlim, _, _⟩ := hs
  obtain ⟨hle, hmax, hres⟩ := htill hbal hpart
  rw [hcash]
  refine Cash.ok_set hs hle (hmax.trans hlim) ?_ (fun hv j => ?_)
  · rw [hstake]
    exact hres
  · rw [← Bool.not_eq_true, State.stake_paying_iff]
    rintro ⟨w, hw, hp⟩
    exact hpay (by simpa [Ticket.stake] using hv) j w hw hp

/-! ### PAY and the pay timer (R164, R168) -/

theorem reservationOf_le_available (available step cash : Nat) : reservationOf available step cash ≤ available :=
  (Nat.min_le_right _ _).trans (Nat.div_mul_le_self _ _)

theorem State.payingTicket_isSome_iff {s : State} : s.payingTicket.isSome = true ↔ ∃ j w, s.ticketAt j = some w ∧ w.state = .paying := by
  unfold State.payingTicket
  rw [List.find?_isSome]
  constructor
  · rintro ⟨j, -, hj⟩
    split at hj
    next w hw => exact ⟨j, w, hw, by simpa using hj⟩
    next => cases hj
  · rintro ⟨j, w, hw, hp⟩
    exact ⟨j, List.mem_finRange j, by simp [hw, hp]⟩

theorem State.startPaying_keepsTill {s : State} {i : Fin 24} {t : Ticket} {r : Nat} (ht : s.ticketAt i = some t) (hs : t.state = .priced)
    (hr : r ≤ s.till.available) (hnone : s.payingTicket.isSome = false) (p : PricedRecord) : KeepsTill s (s.startPaying i p r) := by
  have hidle : t.reservation = 0 := congrArg Stake.reservation (Ticket.stake_of_idle (t := t) (by simp [hs]) (by simp [hs]))
  have hroom : r ≤ s.till.balance - s.till.reserved := hr
  refine State.putTicket_keepsTill (v := t.toPaying r) ht ?_ (fun hle _ => ⟨?_, Nat.le_refl _, ?_⟩) (fun _ j w hw hp => ?_)
  · rw [← State.modifyTicket_eq_put ht]
    rfl
  · show s.till.reserved + r ≤ s.till.balance
    omega
  · rw [hidle]
    rfl
  · rw [State.payingTicket_isSome_iff.mpr ⟨j, w, hw, hp⟩] at hnone
    cases hnone

theorem State.handlePay_keepsTill (s : State) (number : Nat) : KeepsTill s (s.handlePay number) := by
  unfold State.handlePay
  split
  · exact .of_cash rfl
  next i t ht =>
    split
    next p hs _ =>
      split
      next => exact .of_cash rfl
      next hnone =>
        unfold State.payPriced
        split
        · exact .of_cash (by simp [State.cash])
        · dsimp only
          split
          · exact .of_cash rfl
          · exact State.startPaying_keepsTill (State.lookupTicket_eq_some.mp ht).1 hs (reservationOf_le_available _ _ _)
              (Bool.eq_false_iff.mpr hnone) p
    next => exact .of_cash rfl

/-- A record that stops PAYING keeps its reservation (R168). -/
theorem Ticket.toDoubt_reservation (t : Ticket) : t.toDoubt.reservation = t.reservation := by
  unfold Ticket.toDoubt
  split
  next h =>
    unfold Ticket.reservation
    rw [h]
    cases t.payout <;> rfl
  next => rfl

theorem Ticket.toDoubt_state (t : Ticket) : t.toDoubt.state ≠ .paying := by
  unfold Ticket.toDoubt
  split
  · simp
  · assumption

theorem State.toDoubt_keepsTill (s : State) (i : Fin 24) : KeepsTill s (s.modifyTicket i Ticket.toDoubt) := by
  cases ht : s.ticketAt i with
  | none => rw [State.modifyTicket_of_free ht]; exact .of_cash rfl
  | some t =>
    rw [State.modifyTicket_eq_put ht]
    refine State.putTicket_keepsTill ht rfl (fun hle _ => ⟨hle, Nat.le_refl _, ?_⟩) (fun h => absurd h t.toDoubt_state)
    rw [t.toDoubt_reservation]
    rfl

/-! ### The settle walk (R116, R167, R172) -/

/-- A walk takes out the record's whole reservation and pays no more than it. -/
theorem Settler.settling_amounts {w : Settler} {t : Ticket} {g : Settling} (h : w.settling t = some g) :
    g.reservation = t.reservation ∧ g.record.cash ≤ g.reservation := by
  unfold Settler.settling at h
  split at h
  · cases h
  · cases w with
    | toAccount n =>
      dsimp only at h
      split at h
      next hs => cases h; simp [Ticket.reservation, hs]
      next => cases h
    | pay n =>
      dsimp only at h
      split at h
      next hs => cases h; simp [Ticket.reservation, hs]
      next => cases h
    | dispensed n =>
      dsimp only at h
      split at h
      next hs ho =>
        split at h
        next => cases h; simp [Ticket.reservation, hs, ho]
        next => cases h
      next => cases h
    | resolve n a =>
      dsimp only at h
      split at h
      next hs ho => cases h; simp [Ticket.reservation, hs, ho]
      next => cases h

theorem State.carrySettle_keepsTill (s : State) (w : Settler) : KeepsTill s (s.carrySettle w).1 := by
  unfold State.carrySettle
  split
  · exact .of_cash rfl
  next i t ht =>
    split
    next => exact .of_cash rfl
    next g hg =>
      have hi := (State.lookupTicket_eq_some.mp ht).1
      obtain ⟨hres, hcash⟩ := Settler.settling_amounts hg
      refine State.putTicket_keepsTill hi (State.settleTicket_tickets hi w.ticket g) (fun hle hpart => ?_) (fun h => by cases h)
      have hsettled : (t.toSettled g.record).reservation = 0 := rfl
      rw [hsettled]
      rw [← hres] at hpart ⊢
      refine ⟨?_, Nat.sub_le _ _, ?_⟩
      · show s.till.reserved - g.reservation ≤ s.till.balance - g.record.cash
        omega
      · show s.till.reserved - g.reservation + g.reservation = s.till.reserved + 0
        omega

/-! ### Starts (R175, R211, R212) -/

/-- A slot that stops PAYING. -/
def Stake.stopped (x : Stake) : Stake := ⟨false, x.reservation⟩

/-- A warm start leaves every reservation, and no ticket PAYING. -/
theorem Ticket.atWarmStart_stake (t : Ticket) : t.unlistAtStart.doubtAtStart.stake = t.stake.stopped := by
  have unlisted : t.unlistAtStart.stake = t.stake := by
    unfold Ticket.unlistAtStart
    split
    · rfl
    · exact Ticket.stake_congr rfl rfl
  have kept (o : PayoutRecord) : o.afterStart.reservation = o.reservation := by
    unfold PayoutRecord.afterStart
    split <;> rfl
  rw [← unlisted]
  unfold Ticket.doubtAtStart Ticket.stake Stake.stopped
  split
  next h =>
    unfold Ticket.reservation
    rw [h]
    cases t.unlistAtStart.payout with
    | none => rfl
    | some o => simp [kept]
  next h => simp [h]

theorem State.warmFixups_keepsTill (s : State) : KeepsTill s s.warmFixups := fun hs => by
  rw [State.tillOk_iff] at *
  have hcash : s.warmFixups.cash = ⟨s.cash.till, s.cash.stakes.map Stake.stopped⟩ :=
    congrArg (Cash.mk s.till) (TicketSlot.stake_map Ticket.atWarmStart_stake rfl s.tickets)
  rw [hcash]
  exact Cash.ok_map hs (fun _ => ⟨rfl, rfl⟩)

/-- An empty till with nothing at stake. -/
theorem Cash.cold_ok : Cash.ok ⟨⟨0, 0⟩, Table.fill 24 Stake.none⟩ := by
  refine ⟨Nat.le_refl _, Nat.zero_le _, rfl, fun i j hi => ?_⟩
  simp [Stake.none] at hi

theorem State.coldClear_keepsTill (s : State) : KeepsTill s s.coldClear := fun _ => by
  rw [State.tillOk_iff]
  have hcash : s.coldClear.cash = ⟨⟨0, 0⟩, Table.fill 24 Stake.none⟩ := by
    simp [State.cash, State.coldClear, Table.fill, Table.map, TicketSlot.stake]
  rw [hcash]
  exact Cash.cold_ok

theorem State.startAtPowerOn_keepsTill (s : State) : KeepsTill s s.startAtPowerOn := by
  have loaded : KeepsTill s s.cutShort.loadSettings.startVolatile := .of_cash (by simp [State.cash, State.cutShort])
  unfold State.startAtPowerOn
  dsimp only
  split
  · exact (loaded.trans (State.warmFixups_keepsTill _)).beside rfl
  · exact (loaded.trans (State.coldClear_keepsTill _)).beside rfl

theorem State.startAtReset_keepsTill (s : State) : KeepsTill s s.startAtReset := by
  have loaded : KeepsTill s s.cutSave.loadSettings.startVolatile := .of_cash (by simp [State.cash])
  exact (loaded.trans (State.warmFixups_keepsTill _)).beside rfl

theorem State.answerFrameSent_keepsTill (s : State) (l : Link) : KeepsTill s (s.answerFrameSent l) := by
  have sent : KeepsTill s (s.modifyPort l Port.answerSent) := .of_cash rfl
  unfold State.answerFrameSent
  split
  · exact .of_cash rfl
  · split
    · exact .of_cash rfl
    · dsimp only
      split
      · exact sent.trans (State.startAtReset_keepsTill _)
      · exact sent

/-! ### Links (R188 to R191) -/

theorem State.rejectFrame_keepsTill (s : State) (l : Link) (kind tag : Nat) : KeepsTill s (s.rejectFrame l kind tag) :=
  .still s l kind tag (fun _ => rfl)

theorem State.takeBadLength_keepsTill (s : State) (l : Link) (kind tag : Nat) : KeepsTill s (s.takeBadLength l kind tag) := by
  unfold State.takeBadLength State.takeBadItem
  split
  · refine .of_cash ?_
    (repeat' split) <;> simp [State.cash]
  · exact .still s l kind tag (fun _ => rfl)

/-! ## Every command -/

/-- A command that keeps the law of the till wherever it goes. -/
def KeepsTillTo (s : State) (o : Outcome) : Prop := ∀ t, o = .next t → KeepsTill s t

theorem KeepsTillTo.next {s t : State} (h : KeepsTill s t) : KeepsTillTo s (.next t) := fun _ e => by cases e; exact h

/-- A command that leaves the cash as it is. -/
theorem KeepsTillTo.same {s t : State} (h : t.cash = s.cash) : KeepsTillTo s (.next t) := .next (.of_cash h)

/-- A request whose handling leaves the cash as it is. -/
theorem KeepsTillTo.still (s : State) (l : Link) (kind tag : Nat) {handle : State → State} (h : ∀ u : State, (handle u).cash = u.cash) :
    KeepsTillTo s (.next (s.takeRequest l kind tag handle)) :=
  .next (.still s l kind tag h)

/-- A request that reads the supervisor key. -/
theorem KeepsTillTo.keyed (s : State) (key : Bool) (l : Link) (kind tag : Nat) {handle : State → State}
    (h : ∀ u : State, KeepsTill u (handle u)) : KeepsTillTo s (.next ((s.withKey key).takeRequest l kind tag handle)) :=
  .next ((KeepsTill.of_cash (s := s) rfl).trans (.request (s.withKey key) l kind tag h))

/-- The commands other than BYTE_RECEIVED keep the law of the till. -/
theorem exec_keepsTill_of_ne_byte {c : Instr} (hc : ∀ l key byte, c ≠ .byteReceived l key byte) (s : State) : KeepsTillTo s (exec c s) := by
  cases c with
  | offer n tag ability version ack => exact .still s _ _ _ (fun u => u.handleOffer_cash n _ ack)
  | item n it => exact .same (s.takeItem_cash n it)
  | bind n tag ticket => exact .still s _ _ _ (fun u => u.handleBind_cash n ticket)
  | unbind n tag => exact .still s _ _ _ (fun u => u.handleUnbind_cash n)
  | keepalive l tag =>
    refine .next ?_
    split
    · exact s.rejectFrame_keepsTill .f _ tag
    · exact .still s _ _ _ (fun _ => rfl)
  | openTicket tag account cash =>
    refine .next ?_
    split
    · exact .still s _ _ _ (fun u => u.handleOpen_cash _ _ _)
    · refine .still s _ _ _ (fun u => ?_)
      split
      · exact u.handleOpen_cash _ _ _
      · rfl
  | quote tag ticket => exact .still s _ _ _ (fun u => u.handleQuote_cash ticket)
  | close tag ticket => exact .still s _ _ _ (fun u => u.handleClose_cash ticket)
  | adjust tag ticket cls grade ownership delta =>
    exact .still s _ _ _ (fun u => u.handleAdjust_cash ticket cls grade ownership delta)
  | confirmCount tag ticket => exact .still s _ _ _ (fun u => u.handleConfirmCount_cash ticket)
  | void tag ticket =>
    refine .still s _ _ _ (fun u => ?_)
    split
    · rfl
    · exact u.raiseOrBusy_cash _ _
  | voidWalk =>
    refine .next ?_
    split
    · exact (KeepsTill.of_cash (s.carryVoid_cash _)).finished _ _ _
    · exact .of_cash rfl
  | settleToAccount tag ticket =>
    refine .still s _ _ _ (fun u => ?_)
    split
    · rfl
    · exact u.raiseOrBusy_cash _ _
  | settleWalk =>
    refine .next ?_
    split
    · exact (s.carrySettle_keepsTill _).finished _ _ _
    · exact .of_cash rfl
  | collect tag ticket => exact .still s _ _ _ (fun u => u.handleCollect_cash ticket)
  | ticketRead tag ticket =>
    refine .still s _ _ _ (fun u => ?_)
    split <;> rfl
  | pay tag ticket => exact .next (.request s _ _ _ (fun u => u.handlePay_keepsTill ticket))
  | dispensed tag ticket amount => exact .still s _ _ _ (fun u => u.handleDispensed_cash ticket amount)
  | payTimeout =>
    have stopped : KeepsTill s { s with payTimer := none } := .of_cash rfl
    refine .next ?_
    split
    · exact .of_cash rfl
    · dsimp only
      split
      · exact stopped.trans (State.toDoubt_keepsTill _ _)
      · exact stopped
  | resolve key tag ticket amount => exact .keyed s _ _ _ _ (fun u => .of_cash (u.handleResolve_cash key ticket amount))
  | tillLoad key tag amount => exact .keyed s _ _ _ _ (fun u => u.handleTillLoad_keepsTill key amount)
  | tillCount key tag balance => exact .keyed s _ _ _ _ (fun u => u.handleTillCount_keepsTill key balance)
  | release tag hold verdict amended => exact .still s _ _ _ (fun u => u.handleRelease_cash hold verdict amended)
  | releaseOperation =>
    refine .next ?_
    split
    · split
      · exact .of_cash (by simp [State.cash])
      · exact (KeepsTill.of_cash (s.carryRelease_cash _ _ _ _)).finished _ _ _
    · exact .of_cash rfl
  | holdRead tag selector number =>
    refine .still s _ _ _ (fun u => ?_)
    (repeat' split) <;> rfl
  | bankWrite tag cls entry => exact .still s _ _ _ (fun u => u.handleBankWrite_cash cls entry)
  | feeWrite tag fee => exact .still s _ _ _ (fun u => u.handleFeeWrite_cash fee)
  | bankRead tag bank cls =>
    refine .still s _ _ _ (fun u => ?_)
    split <;> rfl
  | changeoverArm tag time =>
    refine .still s _ _ _ (fun u => ?_)
    split <;> simp [State.cash]
  | changeoverDisarm tag => exact .still s _ _ _ (fun _ => rfl)
  | watchWrite key tag entry rule => exact .keyed s _ _ _ _ (fun u => .of_cash (u.handleWatchWrite_cash key entry rule))
  | watchRead tag entry =>
    refine .still s _ _ _ (fun u => ?_)
    split <;> rfl
  | captureRead key tag entry => exact .keyed s _ _ _ _ (fun u => .of_cash (u.handleCaptureRead_cash key entry))
  | issue tag serials =>
    refine .still s _ _ _ (fun u => ?_)
    split
    · rfl
    · exact u.raiseOrBusy_cash _ _
  | issueOperation =>
    refine .same ?_
    split <;> simp [State.cash]
  | registerQuery tag serial =>
    refine .still s _ _ _ (fun u => ?_)
    split
    · rfl
    · exact u.raiseOrBusy_cash _ _
  | registerQueryOperation =>
    refine .same ?_
    split <;> simp [State.cash]
  | clearGuard key tag =>
    refine .keyed s _ _ _ _ (fun u => .of_cash ?_)
    split
    · exact u.raiseOrBusy_cash _ _
    · rfl
  | clearGuardOperation =>
    refine .same ?_
    split <;> simp [State.cash]
  | setClock tag minute second => exact .still s _ _ _ (fun u => u.handleSetClock_cash minute second)
  | rebase =>
    refine .same ?_
    split <;> simp [State.cash]
  | clockRead tag => exact .still s _ _ _ (fun _ => rfl)
  | settingsWrite tag identifier index value => exact .still s _ _ _ (fun u => u.handleSettingsWrite_cash identifier index value)
  | settingsRead tag => exact .still s _ _ _ (fun _ => rfl)
  | saveSettings tag =>
    refine .still s _ _ _ (fun u => ?_)
    split <;> rfl
  | saveComplete same =>
    refine .same ?_
    (repeat' split) <;> rfl
  | linkStatus tag => exact .still s _ _ _ (fun _ => rfl)
  | restartLane tag lane =>
    refine .still s _ _ _ (fun u => ?_)
    split
    · rfl
    · simp [State.cash]
  | attentionRead tag => exact .still s _ _ _ (fun _ => rfl)
  | resetUnit tag => exact .still s _ _ _ (fun _ => rfl)
  | reject l kind tag =>
    refine .next ?_
    split
    · exact .of_cash rfl
    · exact s.rejectFrame_keepsTill l kind tag
  | frameOverflow l =>
    refine .same ?_
    split <;> rfl
  | frameDiscard l why =>
    refine .same ?_
    split
    · rfl
    · split
      · split
        · rfl
        · exact s.discardLength_cash l _
      · simp [State.cash]
  | gapTimerExpiry l =>
    refine .same ?_
    split <;> simp [State.cash]
  | frameSent l =>
    refine .next ?_
    split
    · exact .of_cash rfl
    · exact s.answerFrameSent_keepsTill l
    · exact .of_cash rfl
  | takeInHand n =>
    refine .same ?_
    split
    · exact s.takeInHand_cash n
    · rfl
  | verdictOperation =>
    refine .next ?_
    split
    · split
      · exact .of_cash (by simp [State.cash])
      · exact (KeepsTill.of_cash (s.completeHead_cash _ _)).completed
    · exact .of_cash rfl
  | laneSilenceExpiry n =>
    refine .same ?_
    split <;> simp [State.cash]
  | breakIntervalEnd n =>
    refine .same ?_
    split <;> rfl
  | muteRelease n => exact .same rfl
  | burstWindowRestart =>
    refine .same ?_
    split <;> rfl
  | linkSilenceExpiry l =>
    refine .same ?_
    split <;> rfl
  | gateInputChange n broken => exact .same rfl
  | gateEdge n =>
    refine .same ?_
    split
    · rfl
    · exact s.recogniseGate_cash n
  | minuteBoundary => exact .same s.minuteBoundary_cash
  | holdExpiryOperation =>
    refine .same ?_
    split
    · split <;> simp [State.cash]
    · rfl
  | sweep =>
    refine .same ?_
    split <;> simp [State.cash]
  | powerOnReset => exact .next s.startAtPowerOn_keepsTill
  | endOfStartUp =>
    refine .same ?_
    split <;> simp [State.cash]
  | resetInput =>
    refine .same ?_
    split
    · rfl
    · rfl
    · exact s.holdReset_cash _
    · exact s.holdReset_cash _
  | resetInputRelease =>
    refine .next ?_
    split
    · exact s.startAtPowerOn_keepsTill
    · exact s.startAtReset_keepsTill
    · exact .of_cash rfl
  | supplyLoss =>
    refine .same ?_
    split <;> simp [State.cash, State.cutShort]
  | batteryFall =>
    refine .same ?_
    split <;> rfl
  | byteReceived l key byte => exact absurd rfl (hc l key byte)
  | clockSecond =>
    refine .same ?_
    split
    · rfl
    · exact s.minuteBoundary_cash
  | batteryLevelChange low =>
    refine .same ?_
    split <;> rfl

/-! ### Bytes received -/

theorem takeFrame_keepsTill (l : Link) (key : Bool) (kind tag : Nat) (payload : List Byte) (s : State) :
    KeepsTillTo s (takeFrame l key kind tag payload s) := by
  unfold takeFrame
  split
  · exact .next (s.rejectFrame_keepsTill l kind tag)
  · exact .next (s.rejectFrame_keepsTill l kind tag)
  · exact .next (s.takeBadLength_keepsTill l kind tag)
  next c _ =>
    rcases runFrame_eq c s with ⟨h, hc⟩ | h
    · rw [h]; exact exec_keepsTill_of_ne_byte hc s
    · rw [h]; exact .same rfl

theorem execByteReceived_keepsTill (l : Link) (key : Bool) (byte : Byte) (s : State) : KeepsTillTo s (execByteReceived l key byte s) := by
  unfold execByteReceived
  split
  · exact .same rfl
  · unfold State.receive
    split
    · refine .same ?_
      split <;> rfl
    · refine .same ?_
      split
      · rfl
      · exact State.discardLength_cash _ l byte
    · exact .same rfl
    · split
      · exact .same rfl
      · unfold State.endFrame
        dsimp only
        split
        · intro t ht
          have hunting : KeepsTill s ((s.withKey key).modifyPort l Port.toHunt) := .of_cash rfl
          exact hunting.trans (takeFrame_keepsTill l key _ _ _ _ t ht)
        · exact .same (by simp [State.cash])

/-- Every command keeps the law of the till. -/
theorem exec_keepsTill (c : Instr) (s : State) : KeepsTillTo s (exec c s) := by
  by_cases hc : ∀ l key byte, c ≠ .byteReceived l key byte
  · exact exec_keepsTill_of_ne_byte hc s
  · push Not at hc
    obtain ⟨l, key, byte, rfl⟩ := hc
    exact execByteReceived_keepsTill l key byte s

/-- Settles O54: the case analysis over commands is `exec_keepsTill`. -/
theorem everyStepKeepsTheTill : Obligations.EveryStepKeepsTheTill := by
  intro s t hs hstep
  unfold step at hstep
  split at hstep
  · cases hstep; exact hs
  next c rest _ =>
    have taken : KeepsTill s { s with pending := rest } := .of_cash rfl
    exact taken.trans (exec_keepsTill c _ t hstep) hs

end Sys2Proof.Machine

/-! PROOFS. The till and the payout as requests find them: TILL_LOAD, TILL_COUNT, PAY, DISPENSED, the pay timer and the refusals of RESOLVE
(R159 to R171). -/

namespace Sys2Proof.Machine

open Sys2Proof

/-! ## TILL_LOAD and TILL_COUNT (R159, R160) -/

/-- The balance replaced, the reserved amount left. -/
def State.withBalance (s : State) (balance : Nat) : State := { s with till := { s.till with balance := balance } }

theorem State.received_withBalance (s : State) (l : Link) (kind tag balance : Nat) :
    (s.received l kind tag).withBalance balance = (s.withBalance balance).received l kind tag := by
  cases l <;> rfl

@[simp] theorem State.received_till (s : State) (l : Link) (kind tag : Nat) : (s.received l kind tag).till = s.till := by cases l <;> rfl

section Till

variable {s : State} {key : Bool} {amount : Nat}

theorem State.handleTillLoad_of_high (h : maxAmount < amount) : s.handleTillLoad key amount = s.replyCode .f .malformed := if_pos h

theorem State.handleTillLoad_of_locked (h : amount ≤ maxAmount) : s.handleTillLoad false amount = s.replyCode .f .locked :=
  if_neg (Nat.not_lt.mpr h)

/-- A load within its limit, taken with the key. -/
theorem State.handleTillLoad_of_taken (h : amount ≤ maxAmount) : s.handleTillLoad true amount =
    (s.withBalance (min maxAmount (s.till.balance + amount))).reply .f
      ⟨if maxAmount < s.till.balance + amount then .clamped else .ok,
        .till (min maxAmount (s.till.balance + amount)) s.till.reserved (min maxAmount (s.till.balance + amount) - s.till.reserved)⟩ :=
  if_neg (Nat.not_lt.mpr h)

theorem State.handleTillCount_of_locked : s.handleTillCount false amount = s.replyCode .f .locked := rfl

theorem State.handleTillCount_of_below (h : min maxAmount amount < s.till.reserved) :
    s.handleTillCount true amount = s.replyCode .f .belowReserved :=
  if_pos h

/-- A count that covers the reserved amount, taken with the key. -/
theorem State.handleTillCount_of_taken (h : s.till.reserved ≤ min maxAmount amount) :
    s.handleTillCount true amount = (s.withBalance (min maxAmount amount)).reply .f
      ⟨if maxAmount < amount then .clamped else .ok, .till (min maxAmount amount) s.till.reserved (min maxAmount amount - s.till.reserved)⟩ :=
  if_neg (Nat.not_lt.mpr h)

end Till

/-- A load taken with the key answers with the till as it leaves it. -/
theorem State.tillLoad_taken {s : State} {tag amount : Nat} (htake : s.canTake .f) (h : amount ≤ maxAmount) :
    exec (.tillLoad true tag amount) s =
      .next (((s.withKey true).withBalance (min maxAmount (s.till.balance + amount))).answered .f 0x29 tag
        ⟨if maxAmount < s.till.balance + amount then .clamped else .ok,
          .till (min maxAmount (s.till.balance + amount)) s.till.reserved (min maxAmount (s.till.balance + amount) - s.till.reserved)⟩) := by
  refine congrArg _ (State.takeRequest_answered ((s.withKey_canTake true .f).mpr htake) ?_)
  rw [State.handleTillLoad_of_taken h, State.received_withBalance, State.received_till]
  rfl

/-- Settles O25. -/
theorem tillIsLoadedAndCounted : Obligations.TillIsLoadedAndCounted := by
  intro s key tag amount htake with_ body sum
  have keyed (k : Bool) : (s.withKey k).canTake .f := (s.withKey_canTake k .f).mpr htake
  refine ⟨fun high => ?_, fun low => ?_, fun low within => ?_, fun low above => ?_, ?_, fun below => ?_, fun covered => ?_⟩
  · exact congrArg _ (State.takeRequest_refused (keyed key) (State.handleTillLoad_of_high high))
  · exact congrArg _ (State.takeRequest_refused (keyed false) (State.handleTillLoad_of_locked low))
  · have hmin : min maxAmount (s.till.balance + amount) = sum := Nat.min_eq_right within
    have hunder : ¬ maxAmount < s.till.balance + amount := Nat.not_lt.mpr within
    rw [State.tillLoad_taken htake low, hmin, if_neg hunder]
    rfl
  · have hmin : min maxAmount (s.till.balance + amount) = 99999999 := Nat.min_eq_left above.le
    have hover : maxAmount < s.till.balance + amount := above
    rw [State.tillLoad_taken htake low, hmin, if_pos hover]
    rfl
  · exact congrArg _ (State.takeRequest_refused (keyed false) State.handleTillCount_of_locked)
  · exact congrArg _ (State.takeRequest_refused (keyed true) (State.handleTillCount_of_below (by rw [State.received_till]; exact below)))
  · refine congrArg _ (State.takeRequest_answered (keyed true) ?_)
    rw [State.handleTillCount_of_taken (by rw [State.received_till]; exact covered), State.received_withBalance, State.received_till]
    rfl

/-! ## PAY (R162, R164, R165) -/

theorem Ticket.toPaying_of_priced {t : Ticket} {p : PricedRecord} (h : t.priced = some p) (r : Nat) :
    t.toPaying r = { t with state := .paying, priced := some (p.cutTo r), payout := some ⟨r, none, none⟩ } := by
  unfold Ticket.toPaying
  rw [h]
  rfl

/-- The state of a ticket that has entered PAYING with a reservation, the pay timer running. -/
def State.reserving (s : State) (i : Fin 24) (t : Ticket) (r : Nat) : State :=
  { s.putTicket i (t.toPaying r) with
    till := { s.till with reserved := s.till.reserved + r }
    payTimer := some (s.settings.payTimeout * 1000) }

section Pay

variable {s : State} {number : Nat} {i : Fin 24} {t : Ticket} {p : PricedRecord} (h : s.lookupTicket number = some (i, t))
  (hs : t.state = .priced) (hp : t.priced = some p)
include h hs hp

theorem State.handlePay_of_paying (hpaying : s.payingTicket.isSome = true) : s.handlePay number = s.replyCode .k .busy := by
  unfold State.handlePay
  simp [h, hs, hp, hpaying]

theorem State.handlePay_of_cash (hfree : s.payingTicket = none) (hcash : 0 < p.cash) : s.handlePay number =
    if reservationOf s.till.available p.step p.cash = 0 then s.replyCode .k .tillEmpty
    else s.startPaying i p (reservationOf s.till.available p.step p.cash) := by
  unfold State.handlePay State.payPriced
  simp [h, hs, hp, hfree, hcash.ne']

end Pay

theorem State.startPaying_eq {s : State} {i : Fin 24} {t : Ticket} (h : s.ticketAt i = some t) (p : PricedRecord) (r : Nat) :
    s.startPaying i p r = (s.reserving i t r).reply .k ⟨.paygo, .paygo r (p.cutTo r).cash (p.cutTo r).credit⟩ := by
  unfold State.startPaying State.reserving
  rw [State.modifyTicket_eq_put h]
  rfl

theorem State.received_reserving (s : State) (l : Link) (kind tag : Nat) (i : Fin 24) (t : Ticket) (r : Nat) :
    (s.received l kind tag).reserving i t r = (s.reserving i t r).received l kind tag := by
  cases l <;> rfl

/-- Settles O23. -/
theorem payReservesCash : Obligations.PayReservesCash := by
  intro s tag number i j t w p htake ht hs hp free r cut
  have hlookup : (s.received .k 0x12 tag).lookupTicket number = some (i, t) := by rw [State.received_lookupTicket]; exact ht
  have hnone (h : free) : (s.received .k 0x12 tag).payingTicket = none := by
    rw [State.received_payingTicket]
    exact State.payingTicket_eq_none h
  have hr : reservationOf (s.received .k 0x12 tag).till.available p.step p.cash = r := by rw [State.received_till]; rfl
  refine ⟨fun hfree hcash hpos => ?_, fun hfree hcash hzero => ?_, fun hw hpaying => ?_⟩
  · have hafter : s.reserving i t r =
        { s.putTicket i { t with state := .paying, priced := some cut, payout := some ⟨r, none, none⟩ } with
          till := { s.till with reserved := s.till.reserved + r }
          payTimer := some (s.settings.payTimeout * 1000) } := by
      unfold State.reserving
      rw [Ticket.toPaying_of_priced hp]
      rfl
    rw [← hafter]
    refine congrArg _ (State.takeRequest_answered htake ?_)
    rw [State.handlePay_of_cash hlookup hs hp (hnone hfree) hcash, hr, if_neg hpos.ne',
      State.startPaying_eq (State.lookupTicket_eq_some.mp hlookup).1, State.received_reserving]
    rfl
  · refine congrArg _ (State.takeRequest_refused htake ?_)
    rw [State.handlePay_of_cash hlookup hs hp (hnone hfree) hcash, hr, if_pos hzero]
  · refine congrArg _ (State.takeRequest_refused htake (State.handlePay_of_paying hlookup hs hp ?_))
    rw [State.received_payingTicket]
    exact State.payingTicket_isSome_iff.mpr ⟨j, w, hw, hpaying⟩

/-! ## DISPENSED (R166, R169) -/

theorem State.handleDispensed_of_high {s : State} {number d : Nat} (h : maxAmount < d) : s.handleDispensed number d = s.replyCode .k .malformed :=
  if_pos h

section Dispensed

variable {s : State} {number d : Nat} {i : Fin 24} {t : Ticket} (h : s.lookupTicket number = some (i, t)) (hd : d ≤ maxAmount)
include h hd

/-- A report while the ticket is PAYING. -/
theorem State.handleDispensed_of_paying (hs : t.state = .paying) : s.handleDispensed number d =
    if t.reported.isSome then s.replyCode .k .busy else s.takeReport number i d := by
  unfold State.handleDispensed
  simp only [if_neg (Nat.not_lt.mpr hd), h, if_pos hs]

/-- A claim after the pay timer has expired. -/
theorem State.handleDispensed_of_doubt (hs : t.state = .doubt) :
    s.handleDispensed number d = (s.putTicket i (t.claim d)).replyCode .k .late := by
  have hne : t.state ≠ .paying := by simp [hs]
  unfold State.handleDispensed
  simp only [if_neg (Nat.not_lt.mpr hd), h, if_neg hne, if_pos hs]
  rw [State.modifyTicket_eq_put (State.lookupTicket_eq_some.mp h).1]

end Dispensed

theorem Ticket.reported_of_payout {t : Ticket} {o : PayoutRecord} (h : t.payout = some o) : t.reported = o.report := by
  unfold Ticket.reported
  rw [h]
  rfl

theorem State.takeReport_of_full {s : State} (h : 16 ≤ s.arbiter.office.length) (number : Nat) (i : Fin 24) (d : Nat) :
    s.takeReport number i d = s.replyCode .k .busy := by
  have hfull : ¬ s.arbiter.officeRoom = true := by simpa [Arbiter.officeRoom] using h
  exact if_neg hfull

theorem State.takeReport_of_room {s : State} {i : Fin 24} {t : Ticket} (ht : s.ticketAt i = some t) (h : s.arbiter.office.length < 16)
    (number d : Nat) : s.takeReport number i d =
      ({ s.putTicket i (t.report d) with payTimer := none } : State).modifyArbiter (Arbiter.raiseOffice (.settle (.dispensed number))) := by
  have hroom : s.arbiter.officeRoom = true := by simpa [Arbiter.officeRoom] using h
  unfold State.takeReport
  rw [if_pos hroom, State.modifyTicket_eq_put ht]

/-! ## The pay timer's expiry (R168) -/

theorem State.payingTicket_eq_some {s : State} {i : Fin 24} {t : Ticket} (ht : s.ticketAt i = some t) (hs : t.state = .paying)
    (hone : ∀ j u, s.ticketAt j = some u → u.state = .paying → j = i) : s.payingTicket = some i := by
  refine find_finRange_eq_some.mpr ⟨by simp [ht, hs], fun j hj => ?_⟩
  split
  next u hu =>
    have hne : u.state ≠ .paying := fun hp => hj.ne (hone j u hu hp)
    simpa using hne
  next => rfl

/-- The running pay timer expires while a ticket is PAYING. -/
theorem execPayTimeout_of_paying {s : State} {i : Fin 24} {t : Ticket} (hrun : s.payTimer ≠ none) (hp : s.payingTicket = some i)
    (ht : s.ticketAt i = some t) : execPayTimeout s = .next { s.putTicket i t.toDoubt with payTimer := none } := by
  obtain ⟨length, hlength⟩ := Option.ne_none_iff_exists'.mp hrun
  have ht' : ({ s with payTimer := none } : State).ticketAt i = some t := ht
  unfold execPayTimeout
  simp only [hlength, hp]
  rw [State.modifyTicket_eq_put ht']
  rfl

theorem execPayTimeout_of_stopped {s : State} (h : s.payTimer = none) : execPayTimeout s = .next s := by
  unfold execPayTimeout
  rw [h]

/-! ## RESOLVE (R171) -/

theorem State.handleResolve_of_high {s : State} {key : Bool} {number amount : Nat} (h : maxAmount < amount) :
    s.handleResolve key number amount = s.replyCode .f .malformed :=
  if_pos h

theorem State.handleResolve_of_locked {s : State} {number amount : Nat} (h : amount ≤ maxAmount) :
    s.handleResolve false number amount = s.replyCode .f .locked :=
  if_neg (Nat.not_lt.mpr h)

/-- Settles O24. -/
theorem payoutIsReportedOrTimesOut : Obligations.PayoutIsReportedOrTimesOut := by
  refine ⟨fun s tag number d i t o htake => ⟨fun high => ?_, fun ht ho low => ?_⟩,
    fun s tag number amount i t key => ⟨fun hrun ht hs hone => ?_, fun stopped => ?_, fun htake high => ?_, fun htake low => ?_⟩⟩
  · exact congrArg _ (State.takeRequest_refused htake (State.handleDispensed_of_high high))
  · have hlookup : (s.received .k 0x13 tag).lookupTicket number = some (i, t) := by rw [State.received_lookupTicket]; exact ht
    have hreported : t.reported = o.report := Ticket.reported_of_payout ho
    refine ⟨fun hs hnone room => ?_, fun hs hbusy => ?_, fun hs => ?_⟩
    · have hreport : t.report d = { t with payout := some { o with report := some d } } := by simp [Ticket.report, ho]
      have hroom : (s.received .k 0x13 tag).arbiter.office.length < 16 := by rw [State.received_arbiter]; exact room
      have handled := State.handleDispensed_of_paying hlookup low hs
      rw [hreported, hnone, Option.isSome_none, if_neg Bool.false_ne_true,
        State.takeReport_of_room (State.lookupTicket_eq_some.mp hlookup).1 hroom, hreport] at handled
      refine congrArg _ ((State.takeRequest_of_canTake htake _ _ _).trans ?_)
      exact congrArg (fun v => State.heardLane v .k) handled
    · refine congrArg _ (State.takeRequest_refused htake ((State.handleDispensed_of_paying hlookup low hs).trans ?_))
      rw [hreported]
      split
      next => rfl
      next hnone =>
        refine State.takeReport_of_full ?_ number i d
        rw [State.received_arbiter]
        exact hbusy.resolve_left (by simpa using hnone)
    · have hclaim : t.claim d = { t with payout := some { o with claim := some d } } := by simp [Ticket.claim, ho]
      refine congrArg _ (State.takeRequest_answered htake ((State.handleDispensed_of_doubt hlookup low hs).trans ?_))
      rw [hclaim, State.received_putTicket]
      rfl
  · have hdoubt : t.toDoubt = { t with state := .doubt } := if_pos hs
    rw [← hdoubt]
    exact execPayTimeout_of_paying hrun (State.payingTicket_eq_some ht hs hone) ht
  · exact execPayTimeout_of_stopped stopped
  · exact congrArg _ (State.takeRequest_refused ((s.withKey_canTake key .f).mpr htake) (State.handleResolve_of_high high))
  · exact congrArg _ (State.takeRequest_refused ((s.withKey_canTake false .f).mpr htake) (State.handleResolve_of_locked low))

end Sys2Proof.Machine

/-! PROOFS. The yard clock: the window rule by which minute values are compared, seconds and minute boundaries, and CLOCK_READ (R176, R178,
R179, R185, R210). -/

namespace Sys2Proof.Machine

open Sys2Proof

/-! ## Distances between minute values (R179) -/

theorem minuteDiff_lt (a b : Nat) : minuteDiff a b < 1048576 := Nat.mod_lt _ (by decide)

/-- The distance from `b` to `a` leads from `b` to `a`. -/
theorem minuteAdd_minuteDiff {a : Nat} (ha : a < 1048576) (b : Nat) : minuteAdd b (minuteDiff a b) = a := by
  unfold minuteAdd minuteDiff minuteMod
  omega

/-- The distance to the minute `k` ahead of `b` is `k`. -/
theorem minuteDiff_minuteAdd {k : Nat} (hk : k < 1048576) (b : Nat) : minuteDiff (minuteAdd b k) b = k := by
  unfold minuteAdd minuteDiff minuteMod
  omega

theorem minuteDiff_eq_iff {a : Nat} (ha : a < 1048576) (b k : Nat) : minuteDiff a b = k ↔ k < 1048576 ∧ a = minuteAdd b k := by
  constructor
  · rintro rfl
    exact ⟨minuteDiff_lt a b, (minuteAdd_minuteDiff ha b).symm⟩
  · rintro ⟨hk, rfl⟩
    exact minuteDiff_minuteAdd hk b

/-- The minutes at or after `b` are those less than half of the circle ahead of it. -/
theorem atOrAfter_iff_exists {a : Nat} (ha : a < 1048576) (b : Nat) : atOrAfter a b = true ↔ ∃ k, k < 524288 ∧ a = minuteAdd b k := by
  have near : atOrAfter a b = true ↔ minuteDiff a b < 524288 := decide_eq_true_iff
  rw [near]
  constructor
  · exact fun h => ⟨minuteDiff a b, h, (minuteAdd_minuteDiff ha b).symm⟩
  · rintro ⟨k, hk, hadd⟩
    rw [(minuteDiff_eq_iff ha b k).mpr ⟨by omega, hadd⟩]
    exact hk

/-- Settles O32. -/
theorem minutesAreComparedByTheWindowRule : Obligations.MinutesAreComparedByTheWindowRule :=
  fun _ b ha _ => ⟨atOrAfter_iff_exists ha b, minuteDiff_eq_iff ha b⟩

/-! ## Seconds and minute boundaries (R176, R178, R210) -/

/-- While the part runs the boundary is handed on. -/
theorem State.minuteBoundary_of_running {s : State} (h : s.phase = .running) :
    s.minuteBoundary = ({ s with clock := s.clock.minuteStep } : State).handBoundary := by
  unfold State.minuteBoundary
  rw [h]

/-- Without supply the boundary is an unpowered minute. -/
theorem State.minuteBoundary_of_off {s : State} (h : s.phase = .off) : s.minuteBoundary =
    { s with clock := { s.clock.minuteStep with unpowered := min 262144 (s.clock.unpowered + 1) } } := by
  unfold State.minuteBoundary
  rw [h, ← bump_eq_min]
  rfl

/-- During a start the boundary is only counted. -/
theorem State.minuteBoundary_of_start {s : State} (off : s.phase ≠ .off) (running : s.phase ≠ .running) :
    s.minuteBoundary = { s with clock := s.clock.minuteStep } := by
  unfold State.minuteBoundary
  dsimp only
  split
  next h => exact absurd h running
  next h => exact absurd h off
  next => rfl
  next => rfl

theorem execClockSecond_of_low {s : State} (h : s.clock.second < 59) :
    execClockSecond s = .next { s with clock := { s.clock with second := s.clock.second + 1 } } :=
  congrArg _ (if_pos h)

theorem execClockSecond_of_last {s : State} (h : 59 ≤ s.clock.second) : execClockSecond s = .next s.minuteBoundary :=
  congrArg _ (if_neg (Nat.not_lt.mpr h))

/-- Settles O34. -/
theorem clockCountsAndHandsBoundaries : Obligations.ClockCountsAndHandsBoundaries := by
  intro s tag clock boundary
  have stepped : s.minuteBoundary = boundary := by
    unfold boundary
    split
    next running => exact State.minuteBoundary_of_running running
    next off => exact State.minuteBoundary_of_off off
    next running off => exact State.minuteBoundary_of_start off running
  refine ⟨execClockSecond_of_low, fun last => ?_, congrArg _ stepped, fun htake => ?_⟩
  · exact (execClockSecond_of_last last).trans (congrArg _ stepped)
  · refine congrArg _ (State.takeRequest_answered htake ?_)
    have pending : s.setPending.isSome = decide (s.setPending ≠ none) := by cases s.setPending <;> rfl
    rw [← pending]
    rfl

end Sys2Proof.Machine

/-! PROOFS. What a port that has sent a frame does with its lists (R192, R193, R213, R214). -/

namespace Sys2Proof.Machine

open Sys2Proof

section Sent

variable {s : State} {l : Link} {r : Request} {rs : List Request} {a : Answer}

theorem Request.frameCount_of_answer (h : r.answer = some a) : r.frameCount = (answerFrames r.kind a).length := by
  unfold Request.frameCount
  rw [h]

theorem Request.resets_iff : r.resets = true ↔ r.kind = 0x5B ∧ r.answer = some ⟨.ok, .empty⟩ := by
  simp [Request.resets, resetUnitKind]

/-- While segments of an answer are left to send, the next one follows (R214). -/
theorem State.answerFrameSent_of_more (hl : (s.port l).outstanding = r :: rs) (more : (s.port l).segment + 1 < r.frameCount) :
    s.answerFrameSent l = s.modifyPort l (fun p => { p with segment := p.segment + 1 }) := by
  unfold State.answerFrameSent
  rw [hl]
  exact if_pos more

/-- After the last frame of its answer a request leaves the list, and a RESET_UNIT takes effect (R192, R213). -/
theorem State.answerFrameSent_of_last (hl : (s.port l).outstanding = r :: rs) (last : r.frameCount ≤ (s.port l).segment + 1) :
    s.answerFrameSent l = if r.resets then (s.modifyPort l Port.answerSent).startAtReset else s.modifyPort l Port.answerSent := by
  unfold State.answerFrameSent
  rw [hl]
  exact if_neg (Nat.not_lt.mpr last)

theorem execFrameSent_of_idle (h : (s.port l).order = []) : exec (.frameSent l) s = .next s := by
  show execFrameSent l s = _
  unfold execFrameSent
  rw [h]

theorem execFrameSent_of_own {rest : List Ready} (h : (s.port l).order = .own :: rest) :
    exec (.frameSent l) s = .next (s.modifyPort l Port.ownSent) := by
  show execFrameSent l s = _
  unfold execFrameSent
  rw [h]

theorem execFrameSent_of_answer {rest : List Ready} (h : (s.port l).order = .answer :: rest) :
    exec (.frameSent l) s = .next (s.answerFrameSent l) := by
  show execFrameSent l s = _
  unfold execFrameSent
  rw [h]

end Sent

/-- Settles O8: by what is at the head of the order of ready frames. -/
theorem frameSentLeavesItsList : Obligations.FrameSentLeavesItsList := by
  refine fun s l rest r rs a => ⟨execFrameSent_of_idle, fun hown => ?_, fun horder hlist hanswer => ⟨fun more => ?_, fun last => ?_⟩⟩
  · refine (execFrameSent_of_own hown).trans (congrArg _ (State.modifyPort_congr ?_))
    simp [Port.ownSent, hown]
  · refine (execFrameSent_of_answer horder).trans (congrArg _ (State.answerFrameSent_of_more hlist ?_))
    rwa [Request.frameCount_of_answer hanswer]
  · intro u
    have left : s.modifyPort l Port.answerSent = u := by
      refine State.modifyPort_congr ?_
      simp [Port.answerSent, hlist, horder]
    rw [← Request.frameCount_of_answer hanswer] at last
    rw [execFrameSent_of_answer horder, State.answerFrameSent_of_last hlist last, left]
    refine ⟨fun hkind hok => congrArg _ (if_pos ?_), fun hno => congrArg _ (if_neg ?_)⟩
    · exact Request.resets_iff.mpr ⟨hkind, hok ▸ hanswer⟩
    · rw [Request.resets_iff, hanswer]
      rintro ⟨hkind, hok⟩
      cases hok
      exact hno.elim (· hkind) (· rfl)

end Sys2Proof.Machine

/-! PROOFS. The RESET input, the supply and the battery (R201, R203, R204, R209, R210, R213). -/

namespace Sys2Proof.Machine

open Sys2Proof

/-- What a RESET or a loss of supply leaves of a state in which no save is under way. -/
def State.droppedTo (s : State) (p : Phase) : State := { s.dropVolatile with phase := p }

theorem execResetInput_of_running {s : State} (h : s.phase = .running) : exec .resetInput s = .next (s.cutShort.droppedTo (.held false)) := by
  show execResetInput s = _
  unfold execResetInput
  rw [h]
  rfl

theorem execResetInput_of_starting {s : State} {kind : StartKind} (h : s.phase = .starting kind) :
    exec .resetInput s = .next (s.cutShort.droppedTo (.held kind.powerOn)) := by
  show execResetInput s = _
  unfold execResetInput
  rw [h]
  rfl

theorem execSupplyLoss_of_supplied {s : State} (h : s.phase ≠ .off) : exec .supplyLoss s = .next (s.cutShort.droppedTo .off) := by
  show execSupplyLoss s = _
  unfold execSupplyLoss
  split
  next off => exact absurd off h
  next => rfl

theorem execResetInputRelease_of_held {s : State} {powerOn : Bool} (h : s.phase = .held powerOn) :
    exec .resetInputRelease s = .next (if powerOn then s.startAtPowerOn else s.startAtReset) := by
  show execResetInputRelease s = _
  unfold execResetInputRelease
  rw [h]
  cases powerOn <;> rfl

theorem execEndOfStartUp_of_starting {s : State} {kind : StartKind} (h : s.phase = .starting kind) :
    exec .endOfStartUp s = .next s.handBoundary.openLinks := by
  show execEndOfStartUp s = _
  unfold execEndOfStartUp
  rw [h]

theorem execBatteryLevelChange_of_low {s : State} (h : s.phase = .off) : exec (.batteryLevelChange true) s = .next s.loseDomain :=
  congrArg _ (if_pos (by simp [h]))

theorem execBatteryLevelChange_of_level {s : State} {low : Bool} (h : low = false ∨ s.phase ≠ .off) :
    exec (.batteryLevelChange low) s = .next { s with batteryLow := low } :=
  congrArg _ (if_neg (by rcases h with h | h <;> simp [h]))

/-- Settles O51: what is dropped is `State.dropVolatile`, and a unit reset starts warm. -/
theorem resetAndSupplyKeepTheDomain : Obligations.ResetAndSupplyKeepTheDomain := by
  refine ⟨fun s latch hs => ?_, fun s low => ?_⟩
  · intro dropped live claimed fixed warm cut
    have uncut (hp : ∀ latch, s.phase ≠ .starting (.cold latch)) (p : Phase) : s.cutShort.droppedTo p = dropped p := by
      rw [State.cutShort_of_none hs hp]; rfl
    have cold (hp : s.phase = .starting (.cold latch)) (p : Phase) : s.cutShort.droppedTo p = cut (dropped p) := by
      rw [State.cutShort, State.cutSave_of_none s hs, State.cutStart_of_cold hp]; rfl
    have hwarm : s.startAtReset = warm := by
      have hfixed (t : Ticket) : t.unlistAtStart.doubtAtStart = fixed t := by
        rw [Ticket.doubtAtStart_eq, Ticket.unlistAtStart_eq, funext PayoutRecord.afterStart_eq]
      unfold State.startAtReset
      rw [State.cutSave_of_none s hs, State.loadSettings_eq, State.warmFixups, funext hfixed]
      rfl
    refine ⟨fun hp => ?_, fun hp => ?_, fun hp => ?_, fun hp => ⟨?_, ?_⟩, fun hoff hp => ?_, fun hp => ?_, hwarm, fun hp => ?_, fun kind hp => ?_⟩
    · rw [execResetInput_of_running hp, uncut (by simp [hp])]
    · rw [execResetInput_of_starting hp, uncut (by simp [hp])]; rfl
    · rw [execResetInput_of_starting hp, uncut (by simp [hp])]; rfl
    · rw [execResetInput_of_starting hp, cold hp]; rfl
    · rw [execSupplyLoss_of_supplied (by simp [hp]), cold hp]
    · rw [execSupplyLoss_of_supplied hoff, uncut hp]
    · exact execResetInputRelease_of_held hp
    · rw [execResetInputRelease_of_held hp, ← hwarm]; rfl
    · exact ⟨_, rfl, by simp, by simp, execEndOfStartUp_of_starting hp⟩
  · intro lost
    exact ⟨fun off => congrArg _ (if_pos off), fun on => congrArg _ (if_neg on), fun on => execBatteryLevelChange_of_level (.inr on),
      execBatteryLevelChange_of_low, fun _ => execBatteryLevelChange_of_level (.inl rfl)⟩

end Sys2Proof.Machine

/-! PROOFS. LINK_STATUS, ATTENTION_READ and RESET_UNIT, and the pending set of causes (R195 to R200, R213, R220). -/

namespace Sys2Proof.Machine

open Sys2Proof

/-! ## The pending set (R196 to R198) -/

theorem Table.any_cells {α : Type} {n : Nat} {t : Table α n} {p : α → Bool} : t.cells.any p = true ↔ ∃ i, p (t.get i) = true := by
  rw [List.any_eq_true]
  constructor
  · rintro ⟨x, hx, hp⟩
    obtain ⟨i, hi, rfl⟩ := List.mem_iff_getElem.mp hx
    exact ⟨⟨i, by rw [← t.size]; exact hi⟩, hp⟩
  · rintro ⟨i, hp⟩
    exact ⟨t.get i, List.getElem_mem _, hp⟩

theorem State.anyTicket_iff {s : State} {test : Ticket → Bool} :
    s.anyTicket test = true ↔ ∃ i t, s.ticketAt i = some t ∧ test t = true := by
  unfold State.anyTicket State.ticketAt
  rw [Table.any_cells]
  refine exists_congr fun i => ?_
  cases (s.tickets.get i).ticket <;> simp

theorem State.holdWaits_iff {s : State} : s.holdWaits = true ↔ ∃ j, (s.holds.get j).hold ≠ none := by
  unfold State.holdWaits
  rw [Table.any_cells]
  simp only [Option.isSome_iff_ne_none]

theorem State.recountStands_iff {s : State} : s.recountStands = true ↔
    ∃ i t, s.ticketAt i = some t ∧ t.state ∈ [.opened, .closing] ∧ t.flags.recount = true := by
  unfold State.recountStands
  simp [State.anyTicket_iff, Ticket.counting_iff]

theorem State.doubtStands_iff {s : State} : s.doubtStands = true ↔ ∃ i t, s.ticketAt i = some t ∧ t.state = .doubt := by
  unfold State.doubtStands
  simp [State.anyTicket_iff]

theorem Attention.mem_all (c : Attention) : c ∈ Attention.all := by cases c <;> decide

theorem State.mem_pendingCauses {s : State} {c : Attention} : c ∈ s.pendingCauses ↔ s.isPending c = true := by
  simp [State.pendingCauses, Attention.mem_all]

/-- The causes are listed in the order of their codes, which is that of their priority (R196). -/
theorem State.pendingCauses_sorted (s : State) : s.pendingCauses.Pairwise (fun a b => a.code < b.code) :=
  List.Pairwise.filter _ (by decide)

theorem State.attn_iff {s : State} : s.attn = true ↔ s.phase = .running ∧ s.pendingCauses ≠ [] := by
  simp [State.attn, State.running]

/-! ## The bytes of fields -/

/-- A yes-or-no byte (R215). -/
def yesNoByte (x : Bool) : List Byte := [if x then 1 else 0]

theorem leBytes_yesNo (x : Bool) : leBytes 1 x.toNat = yesNoByte x := by cases x <;> rfl

/-! ## The LINK_STATUS record (R220) -/

/-- The break interval's tenths in the record are free within their range while it runs (R65; log 13). -/
theorem breakTenths_range (i : Intake) (index : Nat) :
    if i.breakTimer = none then breakTenths i index = 0 else 1 ≤ breakTenths i index ∧ breakTenths i index ≤ 20 := by
  unfold breakTenths
  cases i.breakTimer with
  | none => rfl
  | some _ => simp only [Option.isSome_some, reduceIte, reduceCtorEq]; omega

theorem linkBlock_eq (p : Port) : linkBlock p =
    littleEndian 1 (speedCode p.speed) ++ yesNoByte p.error ++ littleEndian 1 p.reason.code ++ littleEndian 1 p.outstanding.length
      ++ littleEndian 2 p.overflow := by
  simp only [linkBlock, joinFields_cons, joinFields_nil, leBytes_yesNo, littleEndian_eq, List.append_assoc, List.append_nil]

theorem DiscardReason.code_eq (why : DiscardReason) :
    why.code = match why with | .none => 0 | .truncated => 1 | .length => 2 | .check => 3 := by
  cases why <;> rfl

/-- The fields of a lane's last offer in the record. -/
def lastOfferFields (o : Option LaneOffer) : List (Nat × Nat) :=
  [(1, o.isSome.toNat), (1, match o with | some o => o.ability.code | none => 0), (1, match o with | some o => o.version | none => 0)]

/-- The fields of a lane's batch in the record. -/
def batchFields (b : Option Batch) : List (Nat × Nat) :=
  [(1, match b with | none => 0 | some b => if b.reason.isNone then 1 else 2),
    (2, match b with | none => 0 | some b => b.ticket), (3, match b with | none => 0 | some b => b.boundAt),
    (2, match b with | none => 0 | some b => b.gate), (2, match b with | none => 0 | some b => b.frames),
    (1, match b with | none => 0 | some b => b.gap.toNat)]

/-- The fields of an absent offer are 0 (log 22). -/
theorem joinFields_lastOfferFields (o : Option LaneOffer) : joinFields (lastOfferFields o) =
    match o with
    | some o => littleEndian 1 1 ++ littleEndian 1 o.ability.code ++ littleEndian 1 o.version
    | none => List.replicate 3 0 := by
  cases o with
  | none => decide
  | some o => simp only [littleEndian_eq, List.append_assoc]; rfl

/-- The fields of an absent batch are 0 (log 22). -/
theorem joinFields_batchFields (b : Option Batch) : joinFields (batchFields b) =
    match b with
    | none => List.replicate 11 0
    | some b => littleEndian 1 (if b.reason = none then 1 else 2) ++ littleEndian 2 b.ticket ++ littleEndian 3 b.boundAt
        ++ littleEndian 2 b.gate ++ littleEndian 2 b.frames ++ yesNoByte b.gap := by
  cases b with
  | none => decide
  | some b =>
    simp only [batchFields, joinFields_cons, joinFields_nil, leBytes_yesNo, littleEndian_eq, List.append_assoc, List.append_nil,
      Option.isNone_iff_eq_none]

theorem laneBlock_eq (p : Port) (i : Intake) (tenths : Nat) : laneBlock p i tenths =
    littleEndian 2 p.lost ++ littleEndian 1 i.state.code ++ littleEndian 1 (modeCode i.resolved)
      ++ littleEndian 1 (match i.origin with | some .negotiated => 0 | some .sensed => 1 | none => 255)
      ++ littleEndian 1 (match i.former with | some st => st.code | none => 255) ++ littleEndian 1 (refusalCode i.refusal)
      ++ joinFields (lastOfferFields i.lastOffer) ++ littleEndian 1 i.offerCount ++ littleEndian 1 tenths
      ++ littleEndian 1 i.queue.length ++ yesNoByte i.landing.isSome ++ yesNoByte i.slow ++ littleEndian 2 i.stray
      ++ joinFields (batchFields i.batch) := by
  simp only [laneBlock, lastOfferFields, batchFields, joinFields_cons, joinFields_nil, leBytes_yesNo, littleEndian_eq, List.append_assoc,
    List.append_nil] <;> rfl

/-! ## The requests (R195, R199, R213) -/

theorem execLinkStatus_answered {s : State} (h : s.canTake .f) (tag : Nat) : exec (.linkStatus tag) s =
    .next (({ s with ports := s.ports.map (fun p => { p with error := false }), freeIndex := s.freeIndex + 3 } : State).answered .f 0x58 tag
      ⟨.ok, .linkStatus (linkStatusRecord (s.received .f 0x58 tag))⟩) :=
  congrArg _ (State.takeRequest_answered h rfl)

theorem execAttentionRead_answered {s : State} (h : s.canTake .f) (tag : Nat) : exec (.attentionRead tag) s =
    .next (({ s with edges := Edges.none } : State).answered .f 0x5A tag ⟨.ok, .attention s.pendingCauses.head? s.pendingCauses⟩) :=
  congrArg _ (State.takeRequest_answered h rfl)

theorem execResetUnit_answered {s : State} (h : s.canTake .f) (tag : Nat) :
    exec (.resetUnit tag) s = .next (s.answered .f 0x5B tag ⟨.ok, .empty⟩) :=
  congrArg _ (State.takeRequest_answered h rfl)

/-- Settles O38: the pending set is `State.isPending` in priority order, and the record is its links' and lanes' blocks. -/
theorem statusAndAttentionAreAnswered : Obligations.StatusAndAttentionAreAnswered := by
  refine ⟨fun s tag htake => ⟨execLinkStatus_answered htake tag, execAttentionRead_answered htake tag, execResetUnit_answered htake tag⟩,
    fun s c => ⟨?_, s.pendingCauses_sorted, State.attn_iff⟩, fun s => ?_⟩
  · rw [State.mem_pendingCauses]
    cases c with
    | doubt => exact State.doubtStands_iff
    | recount => exact State.recountStands_iff
    | holdWaiting => exact State.holdWaits_iff
    | tillLow => exact decide_eq_true_iff
    | registerHigh => exact decide_eq_true_iff
    | _ => exact Iff.rfl
  · intro le yn ofLink ofBatch ofLane left
    have hlink (p : Port) : linkBlock p = ofLink p := by rw [linkBlock_eq, DiscardReason.code_eq]; rfl
    have hlane (n : Lane) (tenths : Nat) : laneBlock (s.port (.lane n)) (s.lane n) tenths = ofLane n tenths := by
      rw [laneBlock_eq, joinFields_lastOfferFields, joinFields_batchFields]; rfl
    refine ⟨_, _, _, breakTenths_range (s.lane .l0) s.freeIndex, breakTenths_range (s.lane .l1) (s.freeIndex + 1),
      breakTenths_range (s.lane .l2) (s.freeIndex + 2), ?_⟩
    simp only [linkStatusRecord, hlink, hlane, joinFields_cons, joinFields_nil, leBytes_yesNo, List.append_assoc, List.append_nil]
    rfl

end Sys2Proof.Machine

/-! PROOFS. Bytes received and frames discarded (R187 to R189), and the check of a frame (R188). -/

namespace Sys2Proof.Machine

open Sys2Proof

/-! ## Discards (R189) -/

/-- What becomes of a discarded frame: its bytes are dropped, and on a link whose frames are taken it is flagged and CHECK_ERROR is raised. -/
theorem State.discard_eq (s : State) (l : Link) (why : DiscardReason) : s.discard l why =
    if s.listening l then
      { s.modifyPort l (fun p => { p with assembly := .hunt, buffer := [], gap := none, error := true, reason := why }) with
        edges := { s.edges with checkError := true } }
    else s.modifyPort l (fun p => { p with assembly := .hunt, buffer := [], gap := none }) := rfl

theorem State.discardLength_sync (s : State) (l : Link) : s.discardLength l syncByte = (s.discard l .length).modifyPort l Port.sync :=
  if_pos rfl

theorem State.discardLength_of_ne {b : Byte} (h : b ≠ syncByte) (s : State) (l : Link) : s.discardLength l b = s.discard l .length :=
  if_neg h

theorem goodLen_eq_false {b : Byte} : goodLen b = false ↔ b.toNat < 2 ∨ 118 < b.toNat := by
  rw [← Bool.not_eq_true, goodLen_iff]
  omega

theorem execFrameDiscard_check {s : State} (on : s.phase ≠ .off) (l : Link) : exec (.frameDiscard l .check) s = .next (s.discard l .check) :=
  congrArg _ (if_neg on)

theorem execFrameDiscard_length {s : State} (on : s.phase ≠ .off) (l : Link) {b : Byte} (bad : goodLen b = false) :
    exec (.frameDiscard l (.length b)) s = .next (s.discardLength l b) :=
  congrArg _ ((if_neg on).trans (if_neg (by simp [bad])))

theorem execGapTimerExpiry_running {s : State} (on : s.phase ≠ .off) {l : Link} (running : (s.port l).gap ≠ none) :
    exec (.gapTimerExpiry l) s = .next (s.discard l .truncated) :=
  congrArg _ (if_pos ⟨on, Option.isSome_iff_ne_none.mpr running⟩)

/-! ## A byte received, by the assembly state of its port (R188) -/

section Received

variable {s : State} {l : Link} {key : Bool} {b : Byte}

theorem execByteReceived_of_on (on : s.phase ≠ .off) : exec (.byteReceived l key b) s = (s.withKey key).receive l key b := if_neg on

theorem execByteReceived_hunt (on : s.phase ≠ .off) (h : (s.port l).assembly = .hunt) : exec (.byteReceived l key b) s =
    .next (if b = syncByte then (s.withKey key).modifyPort l Port.sync else s.withKey key) := by
  have hkey : ((s.withKey key).port l).assembly = .hunt := h
  rw [execByteReceived_of_on on, State.receive, hkey]

theorem execByteReceived_length (on : s.phase ≠ .off) (h : (s.port l).assembly = .length) : exec (.byteReceived l key b) s =
    .next (if goodLen b then (s.withKey key).modifyPort l (fun p => { p.keep b with assembly := .body })
      else (s.withKey key).discardLength l b) := by
  have hkey : ((s.withKey key).port l).assembly = .length := h
  rw [execByteReceived_of_on on, State.receive, hkey]

theorem execByteReceived_body (on : s.phase ≠ .off) (h : (s.port l).assembly = .body) :
    exec (.byteReceived l key b) s = .next ((s.withKey key).modifyPort l (Port.keepBody b)) := by
  have hkey : ((s.withKey key).port l).assembly = .body := h
  rw [execByteReceived_of_on on, State.receive, hkey]

theorem execByteReceived_check (on : s.phase ≠ .off) (h : (s.port l).assembly = .check) : exec (.byteReceived l key b) s =
    if (s.port l).buffer.length = (s.port l).len + 2 then .next ((s.withKey key).modifyPort l (Port.keep b))
    else (s.withKey key).endFrame l key b := by
  have hkey : ((s.withKey key).port l).assembly = .check := h
  rw [execByteReceived_of_on on, State.receive, hkey]
  rfl

/-- A frame whose check does not match is discarded (R189). -/
theorem State.endFrame_of_mismatch (h : (s.port l).checkMatches b = false) : s.endFrame l key b = .next (s.discard l .check) :=
  if_neg (by simp [h])

/-- A frame whose check matches is handed on (R188). -/
theorem State.endFrame_of_match (h : (s.port l).checkMatches b = true) : s.endFrame l key b =
    takeFrame l key ((s.port l).buffer.getD 2 0).toNat ((s.port l).buffer.getD 3 0).toNat
      (((s.port l).buffer.drop 4).take ((s.port l).len - 2)) (s.modifyPort l Port.toHunt) :=
  if_pos h

end Received

/-- A body byte is kept, and the last of them brings the CHECK state (R188). -/
theorem Port.keepBody_eq (p : Port) (b : Byte) : p.keepBody b =
    { p with buffer := p.buffer ++ [b], gap := some 20, assembly := if p.buffer.length + 1 = p.len + 2 then .check else .body } := by
  unfold Port.keepBody
  simp [Port.keep, gapLength]

/-! ## The check of a frame (R188, 13.1) -/

/-- A byte of the CRC goes in bit by bit, from its highest to its lowest. -/
theorem crcByte_eq_foldl (c : BitVec 16) (b : Byte) : crcByte c b =
    [7, 6, 5, 4, 3, 2, 1, 0].foldl (fun (c : BitVec 16) i => (c <<< 1) ^^^ (if c.msb = b.getLsbD i then 0 else 0x1021)) c := by
  have gone : b.zeroExtend 16 <<< (8 + (7 + 1)) = 0#16 := BitVec.shiftLeft_eq_zero (by omega)
  unfold crcByte
  rw [show b.zeroExtend 16 <<< 8 = b.zeroExtend 16 <<< (8 + 0) from rfl, crcBit_xor_shifted b c 0 (by omega),
    crcBit_xor_shifted b _ 1 (by omega), crcBit_xor_shifted b _ 2 (by omega), crcBit_xor_shifted b _ 3 (by omega),
    crcBit_xor_shifted b _ 4 (by omega), crcBit_xor_shifted b _ 5 (by omega), crcBit_xor_shifted b _ 6 (by omega),
    crcBit_xor_shifted b _ 7 (by omega), gone, BitVec.xor_zero]
  rfl

theorem crc16_snoc (covered : List Byte) (b : Byte) : crc16 (covered ++ [b]) = crcByte (crc16 covered) b := by
  simp [crc16]

theorem checkBytes_eq (covered : List Byte) :
    checkBytes covered = [BitVec.ofNat 8 ((crc16 covered).toNat / 256), BitVec.ofNat 8 ((crc16 covered).toNat % 256)] := by
  have high (c : BitVec 16) : (c >>> 8).truncate 8 = BitVec.ofNat 8 (c.toNat / 256) := by
    apply BitVec.eq_of_toNat_eq
    simp [Nat.shiftRight_eq_div_pow]
  have low (c : BitVec 16) : c.truncate 8 = BitVec.ofNat 8 (c.toNat % 256) := by
    apply BitVec.eq_of_toNat_eq
    simp
  unfold checkBytes
  dsimp only
  rw [high, low]

/-- Settles O4: each assembly state by the branch of `State.receive` that it takes. -/
theorem bytesAreAssembledOrDiscarded : Obligations.BytesAreAssembledOrDiscarded := by
  refine ⟨fun s l key b on => ?_, fun s l key b on => ?_, fun kind tag payload covered b => ?_⟩
  · intro p kept
    refine ⟨fun h hb => ?_, fun h hb => ?_, fun h low high => ?_, fun h _ => ?_, fun h first => ?_⟩
    · exact (execByteReceived_hunt on h).trans (congrArg _ (if_neg hb))
    · exact (execByteReceived_hunt on h).trans (congrArg _ (if_pos hb))
    · exact (execByteReceived_length on h).trans (congrArg _ ((if_pos (goodLen_iff.mpr ⟨low, high⟩)).trans (State.modifyPort_congr rfl)))
    · exact (execByteReceived_body on h).trans (congrArg _ (State.modifyPort_congr (Port.keepBody_eq _ b)))
    · exact (execByteReceived_check on h).trans ((if_pos first).trans (congrArg _ (State.modifyPort_congr rfl)))
  · intro dropped resync
    have hsync : goodLen 0xC5 = false := by decide
    refine ⟨execFrameDiscard_check on l, execGapTimerExpiry_running on, fun hb bad => ?_, ?_, fun h hb bad => ?_, fun h => ?_,
      fun h last mismatch => ?_⟩
    · rw [execFrameDiscard_length on l (goodLen_eq_false.mpr bad), State.discardLength_of_ne hb]; rfl
    · exact (execFrameDiscard_length on l hsync).trans (congrArg _ (s.discardLength_sync l))
    · rw [execByteReceived_length on h, if_neg (by simp [goodLen_eq_false.mpr bad]), State.discardLength_of_ne hb]; rfl
    · exact (execByteReceived_length on h).trans (congrArg _ ((if_neg (Bool.eq_false_iff.mp hsync)).trans (State.discardLength_sync _ l)))
    · rw [execByteReceived_check on h, if_neg (by omega), State.endFrame_of_mismatch]
      · rfl
      · exact beq_false_of_ne mismatch
  · intro body shifted
    exact ⟨rfl, checkBytes_eq covered, rfl, (crc16_snoc covered b).trans (crcByte_eq_foldl _ b)⟩

end Sys2Proof.Machine

/-! PROOFS. A well-formed command's frame decodes to the command (R190, R191, R215, R216). -/

namespace Sys2Proof

/-! ## Fields of frames -/

theorem fits_of_lt {w n : Nat} (h : n < 256 ^ w) : fits w n = true := decide_eq_true h

/-- Fields of given widths that fit them are read back. -/
theorem splitFields_of_fits {ws vs : List Nat} {fs : List (Nat × Nat)} (hfits : ∀ f ∈ fs, fits f.1 f.2 = true) (hw : fs.map Prod.fst = ws)
    (hv : fs.map Prod.snd = vs) : splitFields ws (joinFields fs) = some vs := by
  subst hw hv
  exact splitFields_joinFields fs hfits

theorem splitFields_ticket {ticket : Nat} (h : fits 2 ticket = true) : splitFields [2] (joinFields [(2, ticket)]) = some [ticket] :=
  splitFields_of_fits (by simpa using h) rfl rfl

theorem fits_toNat (x : Bool) : fits 1 x.toNat = true := by cases x <;> rfl

theorem toNat_testBit_zero (x : Bool) : x.toNat.testBit 0 = x := by cases x <;> rfl

theorem ModeSet.fits_code (m : ModeSet) : fits 1 m.code = true := by
  obtain ⟨a, b, c⟩ := m
  cases a <;> cases b <;> cases c <;> rfl

theorem ModeSet.ofCode_code (m : ModeSet) : ModeSet.ofCode m.code = m := by
  obtain ⟨a, b, c⟩ := m
  cases a <;> cases b <;> cases c <;> rfl

/-- A class that may be absent is coded and read back: 0xFF is the absent one. -/
theorem class_coded {it : Item} (h : it.wf = true) : fits 1 (classCode it.cls) = true ∧ classOf (classCode it.cls) = it.cls := by
  cases hc : it.cls with
  | none => exact ⟨rfl, rfl⟩
  | some c =>
    simp only [Item.wf, hc, Bool.and_eq_true, decide_eq_true_eq] at h
    obtain ⟨⟨⟨⟨⟨-, low⟩, -⟩, -⟩, -⟩, -⟩ := h
    exact ⟨fits_of_lt (by simp only [classCode]; omega), if_neg (by simp only [classCode]; omega)⟩

theorem fits_unsigned32 (z : Int) : fits 4 (unsigned32 z) = true := by
  have lt : z % 4294967296 < 4294967296 := Int.emod_lt_of_pos z (by decide)
  exact fits_of_lt (by unfold unsigned32; omega)

theorem signed32_unsigned32 {z : Int} (low : -2147483648 ≤ z) (high : z ≤ 2147483647) : signed32 (unsigned32 z) = z := by
  unfold signed32 unsigned32
  split <;> omega

/-! ## Requests of the office -/

/-- The request of an office KIND with its fields. -/
def decodeFields (key : Bool) (kind tag : Nat) : List Nat → Option Instr
  | [] => decodeBare key kind tag
  | [v] => decodeOne key kind tag v
  | vs => decodeMany key kind tag vs

theorem decodeOffice_joinFields {key : Bool} {kind tag : Nat} {fs : List (Nat × Nat)} (hkind : kind ≠ 0x40)
    (hw : fs.map Prod.fst = officeWidths kind) (hfits : ∀ f ∈ fs, fits f.1 f.2 = true) :
    decodeOffice key kind tag (joinFields fs) = decodeFields key kind tag (fs.map Prod.snd) := by
  unfold decodeOffice
  rw [if_neg hkind, splitFields_of_fits hfits hw rfl]
  cases fs.map Prod.snd with
  | nil => rfl
  | cons v vs => cases vs <;> rfl

theorem decodeOffice_issue {key : Bool} {tag : Nat} {serials : List Nat} (h : (Instr.issue tag serials).wf = true) :
    decodeOffice key 0x40 tag (joinFields (serials.map (fun n => (4, n)))) = some (.issue tag serials) := by
  simp only [Instr.wf, Bool.and_eq_true, decide_eq_true_eq, List.all_eq_true] at h
  obtain ⟨⟨⟨-, low⟩, high⟩, hserials⟩ := h
  have length : (joinFields (serials.map (fun n => (4, n)))).length = 4 * serials.length := by
    simp [Function.comp_def, Nat.mul_comm]
  have fields : splitFields (List.replicate serials.length 4) (joinFields (serials.map (fun n => (4, n)))) = some serials := by
    refine splitFields_of_fits (fun f hf => ?_) (by simp [Function.comp_def]) (by simp [Function.comp_def])
    obtain ⟨n, hn, rfl⟩ := List.mem_map.mp hf
    exact hserials n hn
  unfold decodeOffice
  rw [if_pos rfl, length, if_pos (by omega), Nat.mul_div_cancel_left _ (by decide), fields]
  rfl

/-- The frame of a well-formed command has the command as its payload's. -/
theorem decodePayload_encodeFrame {c : Instr} {img : FrameImage} (hwf : c.wf = true) (h : encodeFrame c = some img) :
    decodePayload img.link img.key img.kind img.tag img.payload = some c := by
  cases c with
  | offer n tag ability version ack =>
    cases h
    simp only [Instr.wf, Bool.and_eq_true] at hwf
    have fields := splitFields_of_fits (ws := [1, 1, 1]) (fs := [(1, ability.code), (1, version), (1, ack.toNat)])
      (by simp [ability.fits_code, fits_toNat, hwf]) rfl rfl
    simp only [decodePayload, decodeLane, fields, List.map_cons, List.map_nil, ability.ofCode_code, toNat_testBit_zero]
  | item n it =>
    cases h
    obtain ⟨fitsClass, hclass⟩ := class_coded (it := it) hwf
    simp only [Instr.wf, Item.wf, Bool.and_eq_true] at hwf
    have fields := splitFields_of_fits (ws := [2, 1, 1, 1, 1, 4, 1])
      (fs := [(2, it.sequence), (1, classCode it.cls), (1, it.grade), (1, it.quantity), (1, it.owner), (4, it.serial), (1, it.weak.toNat)])
      (by simp [fitsClass, fits_toNat, hwf]) rfl rfl
    simp only [decodePayload, decodeLane, fields, List.map_cons, List.map_nil, hclass, toNat_testBit_zero]
  | bind | quote | pay =>
    cases h
    simp only [Instr.wf, Bool.and_eq_true] at hwf
    simp only [decodePayload, decodeLane, decodeKiosk, splitFields_ticket hwf.2]
  | unbind n tag => cases h; rfl
  | keepalive l tag =>
    cases h
    cases l with
    | lane n => rfl
    | k => rfl
    | f => simp [Instr.wf] at hwf
  | openTicket tag account cash =>
    simp only [Instr.wf, Bool.and_eq_true] at hwf
    cases cash with
    | none =>
      cases h
      have fields := splitFields_of_fits (ws := [3]) (fs := [(3, account)]) (by simp [hwf]) rfl rfl
      simp only [decodePayload, decodeKiosk, fields, List.map_cons, List.map_nil]
    | some cash => cases h; exact decodeOffice_joinFields (by simp) rfl (by simp [hwf])
  | dispensed tag ticket amount =>
    cases h
    simp only [Instr.wf, Bool.and_eq_true] at hwf
    have fields := splitFields_of_fits (ws := [2, 4]) (fs := [(2, ticket), (4, amount)]) (by simp [hwf]) rfl rfl
    simp only [decodePayload, decodeKiosk, fields, List.map_cons, List.map_nil]
  | adjust tag ticket cls grade ownership delta =>
    cases h
    simp only [Instr.wf, Bool.and_eq_true, decide_eq_true_eq] at hwf
    obtain ⟨⟨hfits, low⟩, high⟩ := hwf
    refine (decodeOffice_joinFields (by simp) rfl (by simp [hfits, fits_unsigned32])).trans ?_
    simp only [decodeFields, decodeMany, List.map_cons, List.map_nil, signed32_unsigned32 low high]
  | issue tag serials => cases h; exact decodeOffice_issue hwf
  | bankWrite tag cls entry =>
    cases h
    simp only [Instr.wf, RawClassEntry.wf, Bool.and_eq_true] at hwf
    exact decodeOffice_joinFields (by simp) rfl (by simp [hwf])
  | watchWrite key tag entry rule =>
    cases h
    simp only [Instr.wf, RawRule.wf, Bool.and_eq_true] at hwf
    exact decodeOffice_joinFields (by simp) rfl (by simp [hwf])
  | changeoverDisarm | clearGuard | clockRead | settingsRead | saveSettings | linkStatus | attentionRead | resetUnit => cases h; rfl
  | close | void | collect | ticketRead | confirmCount | settleToAccount | release | holdRead | resolve | tillLoad | tillCount | feeWrite
    | bankRead | changeoverArm | watchRead | captureRead | registerQuery | setClock | settingsWrite | restartLane =>
    cases h
    simp only [Instr.wf, Bool.and_eq_true] at hwf
    exact decodeOffice_joinFields (by simp) rfl (by simp [hwf])
  | _ => cases h

end Sys2Proof

/-! PROOFS. A frame received byte by byte does what its command does (R187 to R191; log 6, 34). -/

namespace Sys2Proof.Machine

open Sys2Proof

/-! ## Frames and their links (R190, R216) -/

theorem knownKind_of_allowed {l : Link} {kind : Nat} (h : kind ∈ allowedKinds l) : knownKind kind = true := by
  have lanes : ∀ k ∈ laneKinds, knownKind k = true := by decide
  have kiosk : ∀ k ∈ kioskKinds, knownKind k = true := by decide
  have office : ∀ k ∈ officeKinds, knownKind k = true := by decide
  cases l with
  | lane n => exact lanes kind h
  | k => exact kiosk kind h
  | f => exact office kind h

theorem lt_of_allowed {l : Link} {kind : Nat} (h : kind ∈ allowedKinds l) : kind < 256 := by
  have lanes : ∀ k ∈ laneKinds, k < 256 := by decide
  have kiosk : ∀ k ∈ kioskKinds, k < 256 := by decide
  have office : ∀ k ∈ officeKinds, k < 256 := by decide
  cases l with
  | lane n => exact lanes kind h
  | k => exact kiosk kind h
  | f => exact office kind h

/-- A frame of an allowed KIND carries its payload's command. -/
theorem decodeFrame_of_command {l : Link} {key : Bool} {kind tag : Nat} {payload : List Byte} {c : Instr} (h : kind ∈ allowedKinds l)
    (hc : decodePayload l key kind tag payload = some c) : decodeFrame l key kind tag payload = .command c := by
  unfold decodeFrame
  rw [if_neg (by simp [knownKind_of_allowed h]), if_neg (by simpa using h), hc]

/-- A frame of an allowed KIND whose payload has not the KIND's length carries no command. -/
theorem decodeFrame_of_badLength {l : Link} {key : Bool} {kind tag : Nat} {payload : List Byte} (h : kind ∈ allowedKinds l)
    (hc : decodePayload l key kind tag payload = none) : decodeFrame l key kind tag payload = .badLength := by
  unfold decodeFrame
  rw [if_neg (by simp [knownKind_of_allowed h]), if_neg (by simpa using h), hc]

/-- A well-formed command's frame fits a frame of its link. -/
theorem encodeFrame_fits {c : Instr} {img : FrameImage} (hwf : c.wf = true) (h : encodeFrame c = some img) :
    img.payload.length ≤ 116 ∧ img.kind ∈ allowedKinds img.link := by
  rw [← List.contains_iff_mem]
  cases c with
  | issue tag serials => exact Laws.FitsFrame.issue tag serials hwf img h
  | keepalive l tag => exact Laws.FitsFrame.keepalive l tag hwf img h
  | openTicket tag account cash => exact Laws.FitsFrame.openTicket tag account cash hwf img h
  | _ => cases h <;> exact ⟨by simp, rfl⟩

theorem encodeFrame_tag_lt {c : Instr} {img : FrameImage} (hwf : c.wf = true) (h : encodeFrame c = some img) : img.tag < 256 := by
  cases c with
  | item n it => cases h; exact Nat.zero_lt_succ 255
  | openTicket tag account cash =>
    simp [Instr.wf, fits] at hwf
    cases cash <;> cases h <;> simp <;> omega
  | _ =>
    cases h <;> simp [Instr.wf, fits] at hwf ⊢ <;> omega

theorem decodeFrame_encodeFrame {c : Instr} {img : FrameImage} (hwf : c.wf = true) (h : encodeFrame c = some img) :
    decodeFrame img.link img.key img.kind img.tag img.payload = .command c :=
  decodeFrame_of_command (encodeFrame_fits hwf h).2 (decodePayload_encodeFrame hwf h)

/-! ## The bytes of a frame (R188) -/

/-- The bytes of a frame that its check covers: LEN, KIND, TAG and payload. -/
def frameCovered (kind tag : Nat) (payload : List Byte) : List Byte :=
  BitVec.ofNat 8 (payload.length + 2) :: BitVec.ofNat 8 kind :: BitVec.ofNat 8 tag :: payload

theorem frameBytes_eq (kind tag : Nat) (payload : List Byte) :
    frameBytes kind tag payload = syncByte :: (frameCovered kind tag payload ++ checkBytes (frameCovered kind tag payload)) := rfl

/-- A port that has received all bytes of a frame but its last. -/
structure Port.AwaitsLast (p : Port) (kind tag : Nat) (payload : List Byte) (last : Byte) : Prop where
  assembly : p.assembly = .check
  bytes : frameBytes kind tag payload = p.buffer ++ [last]

section Last

variable {p : Port} {kind tag : Nat} {payload : List Byte} {last : Byte} (h : p.AwaitsLast kind tag payload last)
include h

theorem Port.AwaitsLast.buffer : ∃ first, checkBytes (frameCovered kind tag payload) = [first, last]
    ∧ p.buffer = syncByte :: (frameCovered kind tag payload ++ [first]) := by
  obtain ⟨first, second, hcheck⟩ : ∃ first second, checkBytes (frameCovered kind tag payload) = [first, second] := ⟨_, _, rfl⟩
  have hsplit : p.buffer ++ [last] = (syncByte :: (frameCovered kind tag payload ++ [first])) ++ [second] := by
    rw [← h.bytes, frameBytes_eq, hcheck]
    simp
  obtain ⟨hbuffer, hlast⟩ := List.append_inj' hsplit rfl
  cases hlast
  exact ⟨first, hcheck, hbuffer⟩

theorem Port.AwaitsLast.length : p.buffer.length = payload.length + 5 := by
  obtain ⟨first, -, hbuffer⟩ := h.buffer
  simp [hbuffer, frameCovered]

theorem Port.AwaitsLast.len (fit : payload.length ≤ 116) : p.len = payload.length + 2 := by
  obtain ⟨first, -, hbuffer⟩ := h.buffer
  simp only [Port.len, hbuffer, frameCovered, List.cons_append, List.getD_cons_succ, List.getD_cons_zero, BitVec.toNat_ofNat]
  omega

theorem Port.AwaitsLast.kind_received (fit : kind < 256) : (p.buffer.getD 2 0).toNat = kind := by
  obtain ⟨first, -, hbuffer⟩ := h.buffer
  simp only [hbuffer, frameCovered, List.cons_append, List.getD_cons_succ, List.getD_cons_zero, BitVec.toNat_ofNat]
  omega

theorem Port.AwaitsLast.tag_received (fit : tag < 256) : (p.buffer.getD 3 0).toNat = tag := by
  obtain ⟨first, -, hbuffer⟩ := h.buffer
  simp only [hbuffer, frameCovered, List.cons_append, List.getD_cons_succ, List.getD_cons_zero, BitVec.toNat_ofNat]
  omega

theorem Port.AwaitsLast.payload_received (fit : payload.length ≤ 116) : (p.buffer.drop 4).take (p.len - 2) = payload := by
  obtain ⟨first, -, hbuffer⟩ := h.buffer
  rw [h.len fit, hbuffer]
  simp [frameCovered]

theorem Port.AwaitsLast.checkMatches (fit : payload.length ≤ 116) : p.checkMatches last = true := by
  obtain ⟨first, hcheck, hbuffer⟩ := h.buffer
  have hcovered : p.covered = frameCovered kind tag payload := by
    unfold Port.covered
    rw [h.len fit, hbuffer]
    simp [frameCovered]
  unfold Port.checkMatches
  rw [hcovered, hcheck, h.len fit, hbuffer]
  simp [frameCovered]

end Last

/-- The last byte of a frame hands the frame on (R188; log 34). -/
theorem execByteReceived_last {s : State} {l : Link} {kind tag : Nat} {payload : List Byte} {last : Byte} (on : s.phase ≠ .off)
    (key : Bool) (hkind : kind < 256) (htag : tag < 256) (fit : payload.length ≤ 116) (h : (s.port l).AwaitsLast kind tag payload last) :
    exec (.byteReceived l key last) s = takeFrame l key kind tag payload ((s.withKey key).modifyPort l Port.toHunt) := by
  have notFirst : ¬ (s.port l).buffer.length = (s.port l).len + 2 := by rw [h.length, h.len fit]; omega
  have ended := State.endFrame_of_match (s := s.withKey key) (l := l) (key := key) (h.checkMatches fit)
  rw [execByteReceived_check on h.assembly, if_neg notFirst, ended]
  have hkey : (s.withKey key).port l = s.port l := rfl
  rw [hkey, h.kind_received hkind, h.tag_received htag, h.payload_received fit]

/-! ## A run of bytes -/

theorem receiveAll_cons {l : Link} {key : Bool} {byte : Byte} {bytes : List Byte} {s t : State}
    (h : exec (.byteReceived l key byte) s = .next t) : receiveAll l key (byte :: bytes) s = receiveAll l key bytes t := by
  simp only [receiveAll, h]

theorem receiveAll_singleton (l : Link) (key : Bool) (byte : Byte) (s : State) :
    receiveAll l key [byte] s = exec (.byteReceived l key byte) s := by
  simp only [receiveAll]
  cases exec (.byteReceived l key byte) s <;> rfl

/-- A port assembling a frame of which some bytes have arrived. -/
def State.assembling (s : State) (l : Link) (a : Assembly) (bytes : List Byte) : State :=
  s.modifyPort l (fun p => { p with assembly := a, buffer := bytes, gap := some 20 })

theorem State.modifyPort_self {s : State} {l : Link} {f : Port → Port} (h : f (s.port l) = s.port l) : s.modifyPort l f = s := by
  rw [State.modifyPort_congr (g := fun p => p) h]
  rcases l with n | _ | _
  · cases n <;> rfl
  · rfl
  · rfl

section Assembling

variable {s : State} {l : Link} {key : Bool}

@[simp] theorem State.assembling_port (a : Assembly) (bytes : List Byte) :
    (s.assembling l a bytes).port l = { s.port l with assembly := a, buffer := bytes, gap := some 20 } := by
  simp [State.assembling]

/-- A byte received by an assembling port changes the port alone. -/
theorem State.assembling_withKey (hs : s.withKey key = s) (a : Assembly) (bytes : List Byte) (f : Port → Port) :
    ((s.assembling l a bytes).withKey key).modifyPort l f =
      s.modifyPort l (fun p => f { p with assembly := a, buffer := bytes, gap := some 20 }) := by
  have hkey : (s.assembling l a bytes).withKey key = (s.withKey key).assembling l a bytes := rfl
  rw [hkey, hs]
  exact State.modifyPort_modifyPort s l _ f

/-- A body byte is kept, and the last of them brings the CHECK state (R188). -/
theorem receive_body (on : s.phase ≠ .off) (hs : s.withKey key = s) (kept : List Byte) (byte : Byte) :
    exec (.byteReceived l key byte) (s.assembling l .body kept) = .next
      (s.assembling l (if kept.length + 1 = (kept.getD 1 0).toNat + 2 then .check else .body) (kept ++ [byte])) := by
  rw [execByteReceived_body (s := s.assembling l .body kept) on (by simp), State.assembling_withKey hs]
  refine congrArg _ (State.modifyPort_congr ?_)
  rw [Port.keepBody_eq]
  rfl

theorem receiveAll_body (on : s.phase ≠ .off) (hs : s.withKey key = s) (rest : List Byte) : ∀ (bytes kept : List Byte), bytes ≠ [] →
    2 ≤ kept.length → kept.length + bytes.length = (kept.getD 1 0).toNat + 2 →
    receiveAll l key (bytes ++ rest) (s.assembling l .body kept) = receiveAll l key rest (s.assembling l .check (kept ++ bytes))
  | [], _, h, _, _ => absurd rfl h
  | byte :: bytes, kept, _, two, hlen => by
    rw [List.cons_append, receiveAll_cons (receive_body on hs kept byte)]
    rw [List.length_cons] at hlen
    by_cases hend : bytes = []
    · subst hend
      rw [if_pos (by simpa using hlen)]
      rfl
    · have left : bytes.length ≠ 0 := by simpa using hend
      have same : (kept ++ [byte]).getD 1 0 = kept.getD 1 0 := by
        simp only [List.getD_eq_getElem?_getD]
        rw [List.getElem?_append_left (by omega)]
      rw [if_neg (by omega), receiveAll_body on hs rest bytes (kept ++ [byte]) hend, List.append_assoc]
      · rfl
      · simp only [List.length_append]; omega
      · rw [same, ← hlen]
        simp only [List.length_append, List.length_cons, List.length_nil]
        omega

/-- All bytes of a frame but its last bring the port to the frame's end. -/
theorem receiveAll_frame (on : s.phase ≠ .off) (hs : s.withKey key = s) (hunt : (s.port l).assembly = .hunt) {kind tag : Nat}
    {payload : List Byte} (fit : payload.length ≤ 116) :
    ∃ buffer last, (((s.assembling l .check buffer).port l).AwaitsLast kind tag payload last) ∧
      receiveAll l key (frameBytes kind tag payload) s = exec (.byteReceived l key last) (s.assembling l .check buffer) := by
  obtain ⟨first, last, hcheck⟩ : ∃ first last, checkBytes (frameCovered kind tag payload) = [first, last] := ⟨_, _, rfl⟩
  have hlen : (BitVec.ofNat 8 (payload.length + 2)).toNat = payload.length + 2 := by rw [BitVec.toNat_ofNat]; omega
  have sync : exec (.byteReceived l key syncByte) s = .next (s.assembling l .length [syncByte]) := by
    rw [execByteReceived_hunt on hunt, if_pos rfl, hs]; rfl
  have length : exec (.byteReceived l key (BitVec.ofNat 8 (payload.length + 2))) (s.assembling l .length [syncByte]) =
      .next (s.assembling l .body [syncByte, BitVec.ofNat 8 (payload.length + 2)]) := by
    rw [execByteReceived_length (s := s.assembling l .length [syncByte]) on (by simp), if_pos (goodLen_iff.mpr (by omega)),
      State.assembling_withKey hs]
    rfl
  have check (kept : List Byte) (hkept : kept.length = (kept.getD 1 0).toNat + 2) :
      exec (.byteReceived l key first) (s.assembling l .check kept) = .next (s.assembling l .check (kept ++ [first])) := by
    rw [execByteReceived_check (s := s.assembling l .check kept) on (by simp), if_pos (by simpa [Port.len] using hkept),
      State.assembling_withKey hs]
    rfl
  refine ⟨syncByte :: (frameCovered kind tag payload ++ [first]), last, ⟨by simp, by simp [frameBytes_eq, hcheck]⟩, ?_⟩
  have body := receiveAll_body (l := l) on hs [first, last] (BitVec.ofNat 8 kind :: BitVec.ofNat 8 tag :: payload)
    [syncByte, BitVec.ofNat 8 (payload.length + 2)] (List.cons_ne_nil _ _) (by simp) (by simp [hlen]; omega)
  rw [frameBytes_eq, hcheck, receiveAll_cons sync]
  exact (receiveAll_cons length).trans (body.trans ((receiveAll_cons (check _ (by simp [hlen]))).trans
    (receiveAll_singleton l key last _)))

end Assembling

/-- A frame command whose bytes were received runs as the command (R191). -/
theorem runFrame_of_encodeFrame {c : Instr} {img : FrameImage} (h : encodeFrame c = some img) (s : State) : runFrame c s = exec c s := by
  cases c with
  | openTicket tag account cash => rfl
  | _ => cases h <;> rfl

/-- The key input as the first byte finds it is as the byte carries it (log 7). -/
theorem receiveAll_withKey {s : State} (on : s.phase ≠ .off) (l : Link) (key : Bool) (byte : Byte) (bytes : List Byte) :
    receiveAll l key (byte :: bytes) s = receiveAll l key (byte :: bytes) (s.withKey key) := by
  simp only [receiveAll]
  rw [execByteReceived_of_on on, execByteReceived_of_on (s := s.withKey key) on]
  rfl

/-- Settles O3: the bytes bring the port to the frame's end, and the last one hands the decoded command on. -/
theorem receivedFrameRunsItsCommand : Obligations.ReceivedFrameRunsItsCommand := by
  intro c img s hwf henc on hunt hbuffer hgap
  obtain ⟨fit, hkind⟩ := encodeFrame_fits hwf henc
  let u := s.withKey img.key
  have hport : u.port img.link = s.port img.link := rfl
  obtain ⟨buffer, last, awaits, received⟩ := receiveAll_frame (s := u) (key := img.key) on rfl hunt (kind := img.kind) (tag := img.tag) fit
  have again : ((u.assembling img.link .check buffer).withKey img.key).modifyPort img.link Port.toHunt = u := by
    rw [State.assembling_withKey rfl]
    refine State.modifyPort_self ?_
    simp only [Port.toHunt, hport, ← hunt, ← hbuffer, ← hgap]
  calc receiveAll img.link img.key (frameBytes img.kind img.tag img.payload) s
      = receiveAll img.link img.key (frameBytes img.kind img.tag img.payload) u := receiveAll_withKey on img.link img.key _ _
    _ = exec (.byteReceived img.link img.key last) (u.assembling img.link .check buffer) := received
    _ = takeFrame img.link img.key img.kind img.tag img.payload u := by
      rw [execByteReceived_last (s := u.assembling img.link .check buffer) on img.key (lt_of_allowed hkind)
        (encodeFrame_tag_lt hwf henc) fit awaits, again]
    _ = runFrame c u := by rw [takeFrame, decodeFrame_encodeFrame hwf henc]
    _ = exec c u := runFrame_of_encodeFrame henc u

end Sys2Proof.Machine

/-! PROOFS. REJECT, KEEPALIVE and frames of a bad payload length (R190, R191, R194, R216). -/

namespace Sys2Proof.Machine

open Sys2Proof

/-! ## The KINDs of the protocol (R190, R216) -/

/-- The KINDs of requests, which have an answer KIND: all a master sends but ITEM (log 31). -/
def requestKind (kind : Nat) : Prop := kind ∈ [0x01, 0x03, 0x04, 0x05, 0x11, 0x12, 0x13] ∨ kind ∈ officeKinds

theorem mem_masterKinds {kind : Nat} : kind ∈ masterKinds ↔ requestKind kind ∨ kind = 0x02 := by
  have among : ∀ k ∈ masterKinds, (k ∈ [0x01, 0x03, 0x04, 0x05, 0x11, 0x12, 0x13] ∨ k ∈ officeKinds) ∨ k = 0x02 := by decide
  have requests : ∀ k ∈ [0x01, 0x03, 0x04, 0x05, 0x11, 0x12, 0x13], k ∈ masterKinds := by decide
  have office : ∀ k ∈ officeKinds, k ∈ masterKinds := by decide
  refine ⟨among kind, ?_⟩
  rintro ((h | h) | rfl)
  · exact requests kind h
  · exact office kind h
  · decide

theorem not_requestKind_item : ¬ requestKind 0x02 := by
  unfold requestKind
  decide

theorem knownKind_iff {kind : Nat} : knownKind kind = true ↔
    requestKind kind ∨ kind = 0x02 ∨ kind ∈ [0x70, 0x71, 0x72, 0x73, 0x7F] ∨ ∃ k, requestKind k ∧ kind = k + 0x80 := by
  have answers : (0x80 ≤ kind ∧ kind ≠ 0x82) ∧ kind - 0x80 ∈ masterKinds ↔ ∃ k, requestKind k ∧ kind = k + 0x80 := by
    rw [mem_masterKinds]
    constructor
    · rintro ⟨⟨low, hitem⟩, h | h⟩
      · exact ⟨kind - 0x80, h, by omega⟩
      · omega
    · rintro ⟨k, h, rfl⟩
      have : k ≠ 0x02 := fun e => not_requestKind_item (e ▸ h)
      exact ⟨⟨by omega, by omega⟩, .inl (by simpa using h)⟩
  rw [← answers, ← or_assoc, ← mem_masterKinds]
  simp only [knownKind, Bool.or_eq_true, Bool.and_eq_true, List.contains_iff_mem, decide_eq_true_eq, or_assoc]

theorem mem_kioskKinds {kind : Nat} : kind ∈ kioskKinds ↔ kind ∈ [0x05, 0x10, 0x11, 0x12, 0x13] :=
  (show kioskKinds.Perm _ by decide).mem_iff

/-! ## Payloads of a bad length (R191, R216) -/

theorem splitFields_eq_none : ∀ {ws : List Nat} {bs : List Byte}, bs.length ≠ ws.sum → splitFields ws bs = none
  | [], [], h => absurd rfl h
  | [], _ :: _, _ => rfl
  | w :: ws, bs, h => by
    rw [splitFields]
    split
    · rfl
    · rw [List.sum_cons] at h
      rw [splitFields_eq_none (by rw [List.length_drop]; omega), Option.map_none]

theorem decodeLane_of_badLength {n : Lane} {kind tag : Nat} {p : List Byte} (hk : kind ∈ laneKinds)
    (hp : p.length ∉ payloadLengths (.lane n) kind) : decodeLane n kind tag p = none := by
  simp only [laneKinds, List.mem_cons, List.not_mem_nil, or_false] at hk
  rcases hk with rfl | rfl | rfl | rfl | rfl
  · simp only [decodeLane, splitFields_eq_none (ws := [1, 1, 1]) (bs := p) (by simpa [payloadLengths] using hp)]
  · simp only [decodeLane, splitFields_eq_none (ws := [2, 1, 1, 1, 1, 4, 1]) (bs := p) (by simpa [payloadLengths] using hp)]
  · simp only [decodeLane, splitFields_eq_none (ws := [2]) (bs := p) (by simpa [payloadLengths] using hp)]
  · simp only [decodeLane, splitFields_eq_none (ws := []) (bs := p) (by simpa [payloadLengths] using hp)]
  · simp only [decodeLane, splitFields_eq_none (ws := []) (bs := p) (by simpa [payloadLengths] using hp)]

theorem decodeKiosk_of_badLength {kind tag : Nat} {p : List Byte} (hk : kind ∈ kioskKinds)
    (hp : p.length ∉ payloadLengths .k kind) : decodeKiosk kind tag p = none := by
  simp only [kioskKinds, List.mem_cons, List.not_mem_nil, or_false] at hk
  rcases hk with rfl | rfl | rfl | rfl | rfl
  · simp only [decodeKiosk, splitFields_eq_none (ws := [3]) (bs := p) (by simpa [payloadLengths] using hp)]
  · simp only [decodeKiosk, splitFields_eq_none (ws := [2]) (bs := p) (by simpa [payloadLengths] using hp)]
  · simp only [decodeKiosk, splitFields_eq_none (ws := [2]) (bs := p) (by simpa [payloadLengths] using hp)]
  · simp only [decodeKiosk, splitFields_eq_none (ws := [2, 4]) (bs := p) (by simpa [payloadLengths] using hp)]
  · simp only [decodeKiosk, splitFields_eq_none (ws := []) (bs := p) (by simpa [payloadLengths] using hp)]

theorem decodeOffice_of_badLength {key : Bool} {kind tag : Nat} {p : List Byte} (hk : kind ∈ officeKinds)
    (hp : p.length ∉ payloadLengths .f kind) : decodeOffice key kind tag p = none := by
  have fixed : ∀ k ∈ officeKinds, k ≠ 0x40 → payloadLengths .f k = [(officeWidths k).sum] := by decide
  unfold decodeOffice
  by_cases issue : kind = 0x40
  · subst issue
    have lengths : ¬ (p.length % 4 = 0 ∧ 4 ≤ p.length ∧ p.length ≤ 48) := by
      simp [payloadLengths] at hp
      omega
    rw [if_pos rfl, if_neg lengths]
  · rw [fixed kind hk issue, List.mem_singleton] at hp
    rw [if_neg issue, splitFields_eq_none hp]

theorem decodePayload_of_badLength {l : Link} {kind : Nat} {p : List Byte} (hk : kind ∈ allowedKinds l)
    (hp : p.length ∉ payloadLengths l kind) (key : Bool) (tag : Nat) : decodePayload l key kind tag p = none := by
  cases l with
  | lane n => exact decodeLane_of_badLength hk hp
  | k => exact decodeKiosk_of_badLength hk hp
  | f => exact decodeOffice_of_badLength hk hp

theorem takeFrame_of_badLength {l : Link} {kind : Nat} {p : List Byte} (hk : kind ∈ allowedKinds l)
    (hp : p.length ∉ payloadLengths l kind) (key : Bool) (tag : Nat) (s : State) :
    takeFrame l key kind tag p s = .next (s.takeBadLength l kind tag) := by
  unfold takeFrame
  rw [decodeFrame_of_badLength hk (decodePayload_of_badLength hk hp key tag)]

/-! ## Frames that are taken -/

theorem State.on_of_canTake {s : State} {l : Link} (h : s.canTake l) : s.phase ≠ .off := by
  have running := State.running_of_listening h.1
  intro off
  simp [State.running, off] at running

theorem State.rejectFrame_answered {s : State} {l : Link} (h : s.canTake l) (kind tag : Nat) :
    s.rejectFrame l kind tag = s.answered l kind tag (rejectAnswer kind) :=
  State.takeRequest_answered h rfl

theorem execReject_answered {s : State} {l : Link} (h : s.canTake l) {kind : Nat} (hk : kind ∉ allowedKinds l) (tag : Nat) :
    exec (.reject l kind tag) s = .next (s.answered l kind tag (rejectAnswer kind)) :=
  congrArg _ ((if_neg (by simpa using hk)).trans (State.rejectFrame_answered h kind tag))

theorem execKeepalive_answered {s : State} {l : Link} (h : s.canTake l) (hl : l ≠ .f) (tag : Nat) :
    exec (.keepalive l tag) s = .next (s.answered l 0x05 tag ⟨.ok, .empty⟩) :=
  congrArg _ ((if_neg hl).trans (State.takeRequest_answered h rfl))

/-- A request of a bad length is refused in its KIND's own answer (R191). -/
theorem State.takeBadLength_request {s : State} {l : Link} (h : s.canTake l) {kind : Nat} (hk : kind ≠ 0x02) (tag : Nat) :
    s.takeBadLength l kind tag = s.refusedWith l kind tag .malformed :=
  (if_neg hk).trans (State.takeRequest_refused h rfl)

/-- An ITEM of a bad length is a frame its lane has heard, and nothing else (R62, R191). -/
theorem State.takeBadLength_item {s : State} {l : Link} (h : s.canTake l) (tag : Nat) : s.takeBadLength l 0x02 tag = s.heardLane l :=
  (if_pos h.1).trans (if_pos h.2)

theorem LaneState.silenceRuns_iff {st : LaneState} : st.silenceRuns = true ↔ st ≠ .down ∧ st ≠ .listen := by
  cases st <;> simp [LaneState.silenceRuns]

/-- A frame taken on a lane link leaves the lane's silence timer where that is stopped (R62). -/
theorem State.heardLane_of_silent {s : State} {n : Lane} (h : ¬ s.hears n) : s.heardLane (.lane n) = s := State.modifyLane_self (if_neg h)

theorem State.hears_iff {s : State} {n : Lane} : s.hears n ↔ (s.lane n).state ≠ .down ∧ (s.lane n).state ≠ .listen :=
  LaneState.silenceRuns_iff

theorem State.up_of_canTake {s : State} {n : Lane} (h : s.canTake (.lane n)) : (s.lane n).state ≠ .down := by
  have listens := h.1
  simp only [State.listening, Bool.and_eq_true, bne_iff_ne] at listens
  exact listens.2

/-- Settles O6: a bad length is found by the decoder, and the frame is still taken. -/
theorem rejectAndKeepaliveAreAnswered : Obligations.RejectAndKeepaliveAreAnswered := by
  refine ⟨fun s l kind tag htake => ⟨fun hk known => ?_, fun hk unknown => ?_, fun hl => execKeepalive_answered htake hl tag⟩,
    fun n kind => ⟨Iff.rfl, mem_kioskKinds, Iff.rfl, knownKind_iff⟩,
    fun s l n key kind tag payload before last htake hk htag fit hlen hbytes hassembly hbuffer => ?_⟩
  · rw [execReject_answered htake hk, rejectAnswer, if_pos known]
  · rw [execReject_answered htake hk, rejectAnswer, if_neg (by simp [unknown])]
  · intro u req
    have awaits : (s.port l).AwaitsLast kind tag payload last := ⟨hassembly, hbuffer ▸ hbytes⟩
    have handed : req = .next (u.takeBadLength l kind tag) :=
      (execByteReceived_last (State.on_of_canTake htake) key (lt_of_allowed hk) htag fit awaits).trans (takeFrame_of_badLength hk hlen key tag u)
    have takes : u.canTake l := by
      refine ⟨?_, ?_⟩
      · have listens : u.listening l = s.listening l := by cases l <;> rfl
        exact listens.trans htake.1
      · have room : u.hasRoom l = s.hasRoom l := by simp [u, State.hasRoom]; rfl
        exact room.trans htake.2
    rw [handed]
    refine ⟨fun hreq => ?_, fun hitem hl listen => ?_, fun hitem hl runs => ?_⟩
    · rw [State.takeBadLength_request takes hreq]
    · subst hitem hl
      rw [State.takeBadLength_item takes, State.heardLane_of_silent]
      exact fun h => (State.hears_iff.mp h).2 listen
    · subst hitem hl
      have hears : u.hears n := State.hears_iff.mpr ⟨State.up_of_canTake takes, runs⟩
      rw [State.takeBadLength_item takes, State.heardLane_of_hears hears (s := s) rfl]

end Sys2Proof.Machine

/-! PROOFS. The outstanding list of a port and the order in which its answers go out (R191 to R194). -/

namespace Sys2Proof.Machine

open Sys2Proof

/-! ## Answers that are made (R192) -/

/-- The requests at the head of a list whose answers are made. -/
def answeredHead (rs : List Request) : List Request := rs.takeWhile (fun r => r.answer.isSome)

/-- Behind a request without an answer no answer counts. -/
theorem answeredHead_of_waiting {before : List Request} (h : ∃ r ∈ before, r.answer = none) (after : List Request) :
    answeredHead (before ++ after) = answeredHead before := by
  obtain ⟨r, hr, hnone⟩ := h
  unfold answeredHead
  rw [List.takeWhile_append, if_neg]
  intro whole
  have all := List.takeWhile_eq_self_iff.mp ((List.takeWhile_prefix _).eq_of_length whole) r hr
  simp [hnone] at all

theorem answeredHead_of_answered {before : List Request} (h : ∀ r ∈ before, r.answer.isSome = true) (after : List Request) :
    answeredHead (before ++ after) = before ++ answeredHead after := by
  unfold answeredHead
  rw [List.takeWhile_append_of_pos h]

/-- The answers that have become ready join the order (R192, R193). -/
theorem Port.refresh_order {p : Port} {k : Nat} (h : (answeredHead p.outstanding).length = p.order.count .answer + k) :
    p.refresh.order = p.order ++ List.replicate k .answer := by
  have made : p.made = p.order.count .answer + k := h
  simp only [Port.refresh, made, Nat.add_sub_cancel_left]

/-- An answer made for the request just taken joins it at the list's end. -/
theorem Port.reply_enqueue (p : Port) (kind tag : Nat) (a : Answer) :
    (p.enqueue kind tag).reply a = ({ p with outstanding := p.outstanding ++ [⟨kind, tag, some a⟩] } : Port).refresh := by
  unfold Port.reply Port.enqueue
  rw [answerLast_append]

/-! ## The port and the lane of a request taken (R62, R191, R194) -/

/-- The port of a link that has heard a frame. -/
def State.heardPort (s : State) (l : Link) : Port := (s.heardDesk l).port l

theorem State.heardPort_eq (s : State) (l : Link) : s.heardPort l = match l with
    | .lane _ => s.port l
    | _ => { s.port l with up := true, silence := some (s.settings.silence * 1000) } := by
  cases l <;> rfl

@[simp] theorem State.heardLane_port (s : State) (l m : Link) : (s.heardLane l).port m = s.port m := by cases l <;> rfl

theorem State.heardDesk_port_of_ne {s : State} {l m : Link} (h : m ≠ l) : (s.heardDesk l).port m = s.port m := by
  cases l with
  | lane n => rfl
  | k => exact (State.modifyPort_port s .k m _).trans (if_neg h)
  | f => exact (State.modifyPort_port s .f m _).trans (if_neg h)

/-- A lane restarts its silence timer when its own link has heard a frame and the timer runs (R62). -/
theorem State.heardLane_lane (s : State) (l : Link) (n : Lane) : (s.heardLane l).lane n =
    if l = .lane n ∧ (s.lane n).state ≠ .down ∧ (s.lane n).state ≠ .listen then
      { s.lane n with silenceTimer := some (s.settings.silence * 1000) }
    else s.lane n := by
  by_cases hl : l = .lane n
  · subst hl
    by_cases hears : s.hears n
    · rw [if_pos ⟨rfl, State.hears_iff.mp hears⟩, State.heardLane_of_hears hears rfl, State.modifyLane_lane_same]
    · rw [if_neg (fun h => hears (State.hears_iff.mpr h.2)), State.heardLane_of_silent hears]
  · rw [if_neg (fun h => hl h.1)]
    cases l with
    | lane m => exact (State.modifyLane_lane s m n _).trans (if_neg (fun e => hl (by rw [e])))
    | k => rfl
    | f => rfl

/-- A state in which a taken request has been handled at its port alone. -/
def State.handledAt (s : State) (l : Link) (handle : Port → Port) : State := ((s.heardDesk l).modifyPort l handle).heardLane l

section Handled

variable (s : State) (l : Link) (handle : Port → Port)

theorem State.answered_eq (kind tag : Nat) (a : Answer) :
    s.answered l kind tag a = s.handledAt l (fun p => (p.enqueue kind tag).reply a) :=
  congrArg (State.heardLane · l) (State.modifyPort_modifyPort _ l _ _)

theorem State.handledAt_port : (s.handledAt l handle).port l = handle (s.heardPort l) := by simp [State.handledAt, State.heardPort]

theorem State.handledAt_port_of_ne {m : Link} (h : m ≠ l) : (s.handledAt l handle).port m = s.port m := by
  unfold State.handledAt
  rw [State.heardLane_port, State.modifyPort_port, if_neg h, State.heardDesk_port_of_ne h]

theorem State.handledAt_lane (n : Lane) : (s.handledAt l handle).lane n =
    if l = .lane n ∧ (s.lane n).state ≠ .down ∧ (s.lane n).state ≠ .listen then
      { s.lane n with silenceTimer := some (s.settings.silence * 1000) }
    else s.lane n := by
  have lanes : ((s.heardDesk l).modifyPort l handle).lane n = s.lane n := by cases l <;> rfl
  have settings : ((s.heardDesk l).modifyPort l handle).settings = s.settings := by cases l <;> rfl
  unfold State.handledAt
  rw [State.heardLane_lane, lanes, settings]

theorem State.handledAt_rest : { s.handledAt l handle with ports := s.ports, lanes := s.lanes } = s := by
  cases l <;> rfl

end Handled

@[simp] theorem State.heardPort_outstanding (s : State) (l : Link) : (s.heardPort l).outstanding = (s.port l).outstanding := by cases l <;> rfl
@[simp] theorem State.heardPort_order (s : State) (l : Link) : (s.heardPort l).order = (s.port l).order := by cases l <;> rfl

theorem State.answered_order {s : State} {l : Link} {k : Nat} (kind tag : Nat) (a : Answer)
    (h : (answeredHead ((s.port l).outstanding ++ [⟨kind, tag, some a⟩])).length = (s.port l).order.count .answer + k) :
    ((s.answered l kind tag a).port l).order = (s.port l).order ++ List.replicate k .answer := by
  rw [State.answered_eq, State.handledAt_port, Port.reply_enqueue, Port.refresh_order (k := k) (by simpa using h), State.heardPort_order]

/-- The answer made for a request joins it where it stands (log 27). -/
theorem Port.replyOldest_outstanding {p : Port} {kind tag : Nat} {a : Answer} {before after : List Request}
    (ho : p.outstanding = before ++ ⟨kind, tag, none⟩ :: after) (hfirst : ∀ r ∈ before, r.kind = kind → r.answer.isSome = true) :
    (p.replyOldest kind a).outstanding = before ++ ⟨kind, tag, some a⟩ :: after := by
  unfold Port.replyOldest
  rw [ho]
  exact answerOldest_append hfirst

/-- The answers that become ready with an answer made join the order (R192, R193). -/
theorem Port.replyOldest_order {p : Port} {kind tag k : Nat} {a : Answer} {before after : List Request}
    (ho : p.outstanding = before ++ ⟨kind, tag, none⟩ :: after) (hfirst : ∀ r ∈ before, r.kind = kind → r.answer.isSome = true)
    (h : (answeredHead (before ++ ⟨kind, tag, some a⟩ :: after)).length = p.order.count .answer + k) :
    (p.replyOldest kind a).order = p.order ++ List.replicate k .answer := by
  unfold Port.replyOldest
  rw [ho, answerOldest_append hfirst, Port.refresh_order (k := k) h]

/-! ## The frame being sent (R193, R214, R216) -/

/-- The result byte and the fields of an answer that is not segmented, or has no fields, make one frame. -/
theorem answerFrames_of_whole {kind : Nat} {a : Answer} (hb : ∀ k, a.body ≠ .rejected k) (hs : segmented kind = false) :
    answerFrames kind a = [(kind + 0x80, BitVec.ofNat 8 a.result.code :: a.body.bytes)] := by
  unfold answerFrames
  split
  next k h => exact absurd h (hb k)
  next h => rw [if_neg (by simp [hs]), h]; rfl
  next => exact if_neg (by simp [hs])

theorem answerFrames_of_rejected {kind k : Nat} {a : Answer} (hb : a.body = .rejected k) :
    answerFrames kind a = [(0x7F, [BitVec.ofNat 8 k, BitVec.ofNat 8 a.result.code])] := by
  unfold answerFrames
  rw [hb]

theorem answerFrames_of_empty {kind : Nat} {a : Answer} (hb : a.body = .empty) (hs : segmented kind = true) :
    answerFrames kind a = [(kind + 0x80, [BitVec.ofNat 8 a.result.code, 0x80])] := by
  unfold answerFrames
  rw [hb]
  exact if_pos hs

theorem answerFrames_of_record {kind : Nat} {a : Answer} (hb : ∀ k, a.body ≠ .rejected k) (he : a.body ≠ .empty)
    (hs : segmented kind = true) : answerFrames kind a =
      (List.range (segmentCount a.body.bytes.length)).map (fun i => (kind + 0x80, segmentPayload a.result.code a.body.bytes i)) := by
  unfold answerFrames
  split
  next k h => exact absurd h (hb k)
  next h => exact absurd h he
  next => exact if_pos hs

/-- Bit 7 marks the last segment of a record. -/
theorem segmentPayload_eq {record : List Byte} {i : Nat} (h : i < segmentCount record.length) (result : Nat) :
    segmentPayload result record i = BitVec.ofNat 8 result
      :: BitVec.ofNat 8 (i + if (i + 1) * 114 < record.length then 0 else 128) :: (record.drop (114 * i)).take 114 := by
  have last : i + 1 = segmentCount record.length ↔ ¬ (i + 1) * 114 < record.length := by
    unfold segmentCount at h ⊢
    omega
  unfold segmentPayload
  rw [if_congr last rfl rfl, ite_not]

section Wire

variable {p : Port} {r : Request} {rs : List Request} {a : Answer} {rest : List Ready}

theorem Port.wire_of_idle (h : p.order = []) : p.wire = [] := by
  unfold Port.wire
  rw [h]

theorem Port.wire_of_own {f : OwnFrame} {fs : List OwnFrame} (h : p.order = .own :: rest) (hu : p.unsolicited = f :: fs) :
    p.wire = frameBytes f.payload.1 0 f.payload.2 := by
  unfold Port.wire
  rw [h, hu]

theorem Port.wire_of_answer {kind : Nat} {payload : List Byte} (h : p.order = .answer :: rest) (ho : p.outstanding = r :: rs)
    (ha : r.answer = some a) (hf : (answerFrames r.kind a)[p.segment]? = some (kind, payload)) : p.wire = frameBytes kind r.tag payload := by
  unfold Port.wire
  rw [h, ho]
  simp only [ha, hf]

/-- An answer of one frame is sent as that frame. -/
theorem Port.wire_of_single {kind : Nat} {payload : List Byte} (h : p.order = .answer :: rest) (ho : p.outstanding = r :: rs)
    (ha : r.answer = some a) (hf : answerFrames r.kind a = [(kind, payload)]) (hs : p.segment = 0) : p.wire = frameBytes kind r.tag payload :=
  Port.wire_of_answer h ho ha (by rw [hf, hs]; rfl)

end Wire

/-! ## Fields and codes (R215) -/

theorem joinFields_pair (w v : Nat) (fs : List (Nat × Nat)) : joinFields ((w, v) :: fs) = littleEndian w v ++ joinFields fs := by
  rw [joinFields_cons, littleEndian_eq]

theorem littleEndian_yesNo (x : Bool) : littleEndian 1 x.toNat = yesNoByte x := by rw [littleEndian_eq, leBytes_yesNo]

theorem joinFields_map {α : Type} (w : Nat) (code : α → Nat) (xs : List α) :
    joinFields (xs.map (fun x => (w, code x))) = xs.flatMap (fun x => littleEndian w (code x)) := by
  induction xs with
  | nil => rfl
  | cons x xs ih => rw [List.map_cons, joinFields_pair, ih, List.flatMap_cons]

theorem joinFields_values (w : Nat) (vs : List Nat) : joinFields (vs.map (fun v => (w, v))) = vs.flatMap (littleEndian w) :=
  joinFields_map w (fun v => v) vs

theorem classCode_eq (c : Option Nat) : classCode c = c.getD 255 := by cases c <;> rfl

/-! ## Records (R217 to R219); what is absent is sent as 0 (log 22) -/

theorem joinFields_pricedFields (x : Option PricedRecord) : joinFields (pricedFields x) = match x with
    | some p => littleEndian 4 p.gross ++ littleEndian 2 p.fee ++ littleEndian 4 p.net ++ littleEndian 4 p.cash ++ littleEndian 4 p.credit
        ++ littleEndian 1 p.step ++ littleEndian 4 p.cap
    | none => List.replicate 23 0 := by
  cases x with
  | none => decide
  | some x => simp only [pricedFields, joinFields_pair, joinFields_nil, List.append_assoc, List.append_nil]

theorem joinFields_payoutFields (x : Option PayoutRecord) : joinFields (payoutFields x) = match x with
    | some x => littleEndian 4 x.reservation ++ littleEndian 4 (x.report.getD 0) ++ littleEndian 4 (x.claim.getD 0)
    | none => List.replicate 12 0 := by
  cases x with
  | none => decide
  | some x => simp only [payoutFields, joinFields_pair, joinFields_nil, List.append_assoc, List.append_nil]

theorem joinFields_settlementFields (x : Option SettlementRecord) : joinFields (settlementFields x) = match x with
    | some x => littleEndian 4 x.cash ++ littleEndian 4 x.credit ++ yesNoByte x.excess ++ littleEndian 4 (x.claim.getD 0)
    | none => List.replicate 13 0 := by
  cases x with
  | none => decide
  | some x => simp only [settlementFields, joinFields_pair, joinFields_nil, littleEndian_yesNo, List.append_assoc, List.append_nil]

theorem joinFields_captureFields (x : Option Capture) : joinFields (captureFields x) = match x with
    | some x => littleEndian 1 1 ++ littleEndian 2 x.ticket ++ littleEndian 1 x.lane.num ++ littleEndian 2 x.sequence
        ++ littleEndian 4 x.serial ++ littleEndian 3 x.minute
    | none => List.replicate 13 0 := by
  cases x with
  | none => decide
  | some x => simp only [captureFields, joinFields_pair, joinFields_nil, List.append_assoc, List.append_nil]

/-- The state of a register entry and its ticket or stamp; the one a state does not have is 0. -/
theorem joinFields_kegFields (e : KegEntry) (age : Nat) : joinFields (kegFields (some e) age) =
    littleEndian 4 e.serial ++ littleEndian 1 e.owner ++ littleEndian 1 e.cls.val ++ (match e.state with
      | .pending n => [0] ++ littleEndian 2 n ++ littleEndian 3 0
      | .credited stamp => [1] ++ littleEndian 2 0 ++ littleEndian 3 stamp
      | .issued stamp => [2] ++ littleEndian 2 0 ++ littleEndian 3 stamp) ++ littleEndian 3 age := by
  have append : joinFields (kegFields (some e) age) = joinFields [(4, e.serial), (1, e.owner), (1, e.cls.val)] ++ (joinFields (match e.state with
      | .pending t => [(1, 0), (2, t), (3, 0)]
      | .credited st => [(1, 1), (2, 0), (3, st)]
      | .issued st => [(1, 2), (2, 0), (3, st)]) ++ joinFields [(3, age)]) := by
    rw [← joinFields_append, ← joinFields_append]
    rfl
  rw [append]
  cases e.state <;> simp only [joinFields_pair, joinFields_nil, List.append_assoc, List.append_nil] <;> rfl

theorem Settings.bytes_eq (st : Settings) : st.bytes = st.values.flatMap (littleEndian 4) := by
  rw [funext (littleEndian_eq 4)]
  rfl

/-- The value of a flag at its bit. -/
def bitValue (n : Nat) (x : Bool) : Nat := if x then 2 ^ n else 0

theorem bitValue_eq (n : Nat) (x : Bool) : bitValue n x = 2 ^ n * x.toNat := by cases x <;> simp [bitValue]

theorem TicketFlags.code_eq (f : TicketFlags) : f.code = bitValue 0 f.recount + bitValue 1 f.countSaturated + bitValue 2 f.totalClamped
    + bitValue 3 f.note + bitValue 4 f.forcedClose := by
  simp only [bitValue_eq, TicketFlags.code]
  omega

theorem Ticket.present_eq (t : Ticket) : t.present = bitValue 0 t.priced.isSome + bitValue 1 t.payout.isSome
    + bitValue 2 (t.payout.any (fun x => x.report.isSome)) + bitValue 3 (t.payout.any (fun x => x.claim.isSome))
    + bitValue 4 t.settlement.isSome + bitValue 5 (t.settlement.any (fun x => x.claim.isSome)) := by
  simp only [bitValue_eq, Ticket.present]
  omega

theorem waitReasons_eq (lanes holds recount : Bool) :
    lanes.toNat + 2 * holds.toNat + 4 * recount.toNat = bitValue 0 lanes + bitValue 1 holds + bitValue 2 recount := by
  simp only [bitValue_eq]
  omega

/-! ## Codes of sets (R215) -/

theorem laneSetCode_testBit (ls : LaneSet) (n : Lane) : (laneSetCode ls).testBit n.num = ls.mem n := by
  obtain ⟨a, b, c⟩ := ls
  cases a <;> cases b <;> cases c <;> cases n <;> decide

theorem modeSet_code_eq (m : ModeSet) : m.code = (if m.serial then 1 else 0) + (if m.cls then 2 else 0) + (if m.tally then 4 else 0) := by
  obtain ⟨a, b, c⟩ := m
  cases a <;> cases b <;> cases c <;> rfl

/-- The bytes of a frame of the part's own (R193, R216). -/
theorem OwnFrame.bytes_eq (f : OwnFrame) : frameBytes f.payload.1 0 f.payload.2 = match f with
    | .verdict v => frameBytes 0x70 0 (littleEndian 2 v.sequence ++ littleEndian 1 v.verdict.code
        ++ littleEndian 1 (match v.cause with | some c => c.code | none => 0) ++ littleEndian 4 (setCode (v.also.map Cause.code))
        ++ littleEndian 2 v.hold ++ littleEndian 1 v.note.toNat)
    | .flow slow => frameBytes 0x71 0 (yesNoByte slow)
    | .unbound number why _ gate frames failed => frameBytes 0x72 0 (littleEndian 2 number ++ littleEndian 1 why.code
        ++ littleEndian 2 gate ++ littleEndian 2 frames ++ littleEndian 1 failed.toNat)
    | .offer o => frameBytes 0x73 0 (Body.offer o).bytes := by
  cases f with
  | verdict v => simp only [OwnFrame.payload, joinFields_pair, joinFields_nil, List.append_assoc, List.append_nil] <;> rfl
  | flow slow => simp only [OwnFrame.payload, joinFields_pair, joinFields_nil, littleEndian_yesNo, List.append_nil]
  | unbound number why boundAt gate frames failed =>
    simp only [OwnFrame.payload, joinFields_pair, joinFields_nil, List.append_assoc, List.append_nil]
  | offer o => rfl

/-- Settles O7: a request is handled at its port alone (`State.handledAt`), and a frame's fields are their bytes in order. -/
theorem answersStandAndGoOutInOrder : Obligations.AnswersStandAndGoOutInOrder := by
  refine ⟨fun s l m n kind tag a => ?_, fun p kind tag a before after ho hfirst => ?_, fun s l f fs rest r rs a k => ?_, ?_, ?_⟩
  · intro p listed joins u
    have hjoins (handle : Port → Port) (answer : Option Answer)
        (hh : ∀ q, { handle q with order := q.order } = { q with outstanding := q.outstanding ++ [⟨kind, tag, answer⟩] }) :
        joins (s.handledAt l handle) answer := by
      refine ⟨?_, s.handledAt_port_of_ne l handle, s.handledAt_lane l handle n, s.handledAt_rest l handle⟩
      have horder : p.order = (s.heardPort l).order := (s.heardPort_order l).symm
      rw [State.handledAt_port, horder, hh, State.heardPort_eq]
      cases l <;> rfl
    refine ⟨?_, fun hnone hcount => ?_, fun hall hcount => ?_, hjoins (Port.enqueue kind tag) none (fun q => rfl), ?_⟩
    · have hu : u = s.handledAt l (fun p => (p.enqueue kind tag).reply a) := s.answered_eq l kind tag a
      rw [hu]
      exact hjoins _ _ (fun q => by rw [Port.reply_enqueue]; rfl)
    · refine (State.answered_order (k := 0) kind tag a ?_).trans (List.append_nil _)
      rw [answeredHead_of_waiting hnone]
      exact hcount.symm
    · refine State.answered_order (k := 1) kind tag a ?_
      rw [answeredHead_of_answered hall]
      simp [answeredHead, p, hcount]
    · exact (congrArg Port.order (s.handledAt_port l (Port.enqueue kind tag))).trans (s.heardPort_order l)
  · refine ⟨Port.replyOldest_outstanding ho hfirst, rfl, fun hnone hcount => ?_, fun hall hcount => ?_⟩
    · refine (Port.replyOldest_order (k := 0) ho hfirst ?_).trans (List.append_nil _)
      rw [answeredHead_of_waiting hnone, ← answeredHead_of_waiting hnone (⟨kind, tag, none⟩ :: after), ← ho]
      exact hcount.symm
    · have hlen : (answeredHead (before ++ ⟨kind, tag, some a⟩ :: after)).length =
          p.order.count .answer + ((answeredHead after).length + 1) := by
        rw [answeredHead_of_answered hall, List.length_append, hcount]
        rfl
      refine ⟨(answeredHead after).length + 1, by omega, Port.replyOldest_order ho hfirst hlen, ?_⟩
      rw [Port.replyOldest_outstanding ho hfirst, ← hcount]
      exact hlen.symm
  · intro p code record cut
    have hcut : segmented r.kind = true ↔ cut := List.contains_iff_mem
    refine ⟨Port.wire_of_idle, fun h hu => (Port.wire_of_own h hu).trans ?_, fun h ho ha => ⟨fun hb hs => ?_, fun hb hc hs => ?_, fun hb hc hs => ?_,
      fun hb he hc hs => ?_⟩⟩
    · rw [OwnFrame.bytes_eq]; cases f <;> rfl
    · exact Port.wire_of_single h ho ha (answerFrames_of_rejected hb) hs
    · exact Port.wire_of_single h ho ha (answerFrames_of_whole hb (by rw [← Bool.not_eq_true, hcut]; exact hc)) hs
    · exact Port.wire_of_single h ho ha (answerFrames_of_empty hb (hcut.mpr hc)) hs
    · refine Port.wire_of_answer h ho ha ?_
      rw [answerFrames_of_record hb he (hcut.mpr hc), ← segmentPayload_eq hs]
      rw [List.getElem?_map, List.getElem?_range (show (s.port l).segment < segmentCount a.body.bytes.length from hs)]
      rfl
  · exact ⟨rfl, rfl, rfl, rfl, rfl, rfl, rfl, rfl, rfl, rfl, rfl, rfl, rfl, rfl, rfl, rfl, rfl, setCode_testBit, modeSet_code_eq,
      laneSetCode_testBit⟩
  · intro number holds value minute second entry cls age kind o bank st h numbers amounts t yes other third p ce r w ch c results e sum im live
      armed first causes le yn price payout settled bit cells rule arm summary
    have hsettings (hamounts : amounts = live.values) : (Body.settings im yes live).bytes = le 1 im.code ++ yn yes ++ amounts.flatMap (le 4) := by
      rw [hamounts, Body.bytes, settingsRecord, live.bytes_eq]
      simp only [joinFields_pair, joinFields_nil, littleEndian_yesNo]
      rfl
    refine ⟨?_, ?_, ?_, ?_, ?_, ?_, ?_, ?_, ?_, ?_, ?_, ?_, ?_, ?_, ?_, ?_, ?_, ?_, ?_, ?_, ?_, ?_, ?_, ?_, ?_, ?_, ?_, ?_, hsettings, ?_, ?_⟩
    -- Every other body is the fields of its table, in their order.
    all_goals
      simp only [Body.bytes, holdRecord, ticketRecord, PartOffer.fields, ClassEntry.fields, WatchRule.fields, armedFields, joinFields_append,
        joinFields_pair, joinFields_nil, joinFields_map, joinFields_values, joinFields_pricedFields, joinFields_payoutFields,
        joinFields_settlementFields, joinFields_captureFields, joinFields_kegFields, littleEndian_yesNo, classCode_eq, TicketFlags.code_eq,
        Ticket.present_eq, waitReasons_eq, List.append_assoc, List.append_nil] <;> rfl

end Sys2Proof.Machine

/-! PROOFS. The step, the frame of a command, and the settings image and its save (R206, R208, R209, R215, R216; log 2, 12). -/

namespace Sys2Proof.Machine

open Sys2Proof

/-! ## The queue of waiting commands (log 2) -/

theorem step_of_front {s : State} {c : Instr} {rest : List Instr} (h : s.pending = c :: rest) :
    step s = exec c { s with pending := rest } := by
  unfold step
  rw [h]

theorem step_of_idle {s : State} (h : s.pending = []) : step s = .next s := by
  unfold step
  rw [h]

/-- Settles O1. -/
theorem stepRunsTheFrontCommand : Obligations.StepRunsTheFrontCommand :=
  fun _ => ⟨fun _ _ front => step_of_front front, step_of_idle⟩

/-- Settles O2: the payload is decoded back to the command, and its KIND is one the link's master may send. -/
theorem encodedFrameDecodes : Obligations.EncodedFrameDecodes :=
  fun _ _ hwf henc => decodeFrame_encodeFrame hwf henc

/-! ## The image (R206, R208) -/

theorem Image.of_valid (st : Settings) : (Image.of st).valid = true := by
  simp [Image.of, Image.valid]

theorem State.imageState_eq (s : State) :
    s.imageState = if s.saving = none then (if s.image.valid then .valid else .invalid) else .writing := by
  unfold State.imageState
  cases s.saving <;> rfl

theorem State.differs_eq (s : State) : s.differs = (decide (s.imageState ≠ .valid) || decide (s.image.values ≠ s.settings)) := by
  simp [State.differs, bne, beq_eq_decide]

theorem execSettingsRead_of_canTake {s : State} (h : s.canTake .f) (tag : Nat) :
    exec (.settingsRead tag) s = .next (s.answered .f 0x51 tag ⟨.ok, .settings s.imageState s.differs s.settings⟩) :=
  congrArg _ (State.takeRequest_answered h rfl)

/-! ## The save (R209) -/

/-- The state in which a save begins: the copy is taken and the signature erased. -/
def State.beginSave (s : State) : State := { s with saving := some ⟨s.settings, s.image⟩, image := s.image.erased }

section Save

variable {s : State} {copy : Settings} {former : Image}

theorem execSaveSettings_of_idle (htake : s.canTake .f) (h : s.saving = none) (tag : Nat) :
    exec (.saveSettings tag) s = .next (s.beginSave.waiting .f 0x52 tag) := by
  have idle : ((s.heardDesk .f).modifyPort .f (Port.enqueue 0x52 tag)).saving.isSome = false := by simp [h]
  refine congrArg _ ((State.takeRequest_of_canTake htake _ _ _).trans ?_)
  rw [idle]
  rfl

theorem execSaveSettings_of_saving (htake : s.canTake .f) (h : s.saving ≠ none) (tag : Nat) :
    exec (.saveSettings tag) s = .next (s.refusedWith .f 0x52 tag .busy) := by
  refine congrArg _ (State.takeRequest_refused htake ?_)
  exact if_pos (Option.isSome_iff_ne_none.mpr h)

theorem execSaveComplete_of_same (h : s.saving = some ⟨copy, former⟩) : exec (.saveComplete true) s =
    .next (({ s with saving := none, image := Image.of copy } : State).replyOldest .f 0x52 ⟨.ok, .empty⟩) := by
  show execSaveComplete true s = _
  unfold execSaveComplete
  rw [h]
  rfl

theorem execSaveComplete_of_different (h : s.saving = some ⟨copy, former⟩) : exec (.saveComplete false) s =
    .next (({ s with saving := none } : State).raiseSaveFailed.replyOldest .f 0x52 ⟨.saveFailed, .empty⟩) := by
  show execSaveComplete false s = _
  unfold execSaveComplete
  rw [h]
  rfl

end Save

/-! ### A save cut short: what cuts it does as much to the state with the save already cut -/

section Cut

variable (s : State)

theorem State.cutSave_saving : s.cutSave.saving = none := by
  unfold State.cutSave
  split
  next idle => exact idle
  next => rfl

theorem State.cutSave_cutSave : s.cutSave.cutSave = s.cutSave := State.cutSave_of_none _ s.cutSave_saving

theorem State.cutShort_cutSave : s.cutSave.cutShort = s.cutShort := congrArg State.cutStart s.cutSave_cutSave

theorem execSupplyLoss_cutSave (h : s.phase ≠ .off) : exec .supplyLoss s.cutSave = exec .supplyLoss s := by
  rw [execSupplyLoss_of_supplied h, execSupplyLoss_of_supplied (by rwa [State.cutSave_phase]), State.cutShort_cutSave]

theorem execResetInput_cutSave (h : s.phase = .running) : exec .resetInput s.cutSave = exec .resetInput s := by
  rw [execResetInput_of_running h, execResetInput_of_running (by rwa [State.cutSave_phase]), State.cutShort_cutSave]

theorem execPowerOnReset_cutSave : exec .powerOnReset s.cutSave = exec .powerOnReset s := by
  rw [exec_powerOnReset, exec_powerOnReset, State.cutShort_cutSave]

theorem State.startAtReset_cutSave : s.cutSave.startAtReset = s.startAtReset := by
  unfold State.startAtReset
  rw [State.cutSave_cutSave]

end Cut

/-- Settles O37: a save under way ends as `State.cutSave` leaves it, whatever cuts it. -/
theorem saveWritesTheImage : Obligations.SaveWritesTheImage := by
  intro s tag copy former state differs
  have hstate : s.imageState = state := s.imageState_eq
  have hdiffers : s.differs = differs := by rw [State.differs_eq, hstate]
  refine ⟨fun htake => ?_, fun htake idle => ?_, fun htake saving => execSaveSettings_of_saving htake saving tag, fun saving => ?_,
    execSaveComplete_of_different, fun saving running => ?_⟩
  · rw [execSettingsRead_of_canTake htake, hstate, hdiffers]
  · refine ⟨_, execSaveSettings_of_idle htake idle tag, Image.erased_valid s.image, rfl, ?_⟩
    rw [← idle]
    rfl
  · exact ⟨_, execSaveComplete_of_same saving, Image.of_valid copy, rfl, rfl, rfl⟩
  · obtain ⟨i, left, hcut⟩ := s.cutSave_some ⟨copy, former⟩ saving
    refine ⟨i, left.imp_right (Or.imp_right fun written => ?_), ?_⟩
    · rw [written]
      exact ⟨Image.of_valid copy, rfl⟩
    · rw [← hcut]
      exact ⟨(execSupplyLoss_cutSave s (by simp [running])).symm, (execResetInput_cutSave s running).symm,
        (execPowerOnReset_cutSave s).symm, s.startAtReset_cutSave.symm⟩

end Sys2Proof.Machine
